-- ==== Sys2Proof/Word.lean ====
section
/-! DEFINITION. The plain types every other file uses: bytes, instants, and a value for each of the
four lanes or screens. -/

namespace Sys2Proof

/-- A byte of a link or of a stored record. -/
abbrev Byte := BitVec 8

/-- An instant, in units of 1/150 µs since the release of the power-on reset pin. A tick of the 1 MHz
monitor reference is 150 units, a wall sample of the 48 kHz clock 3,125 and a 1 ms base tick 150,000,
so all three clocks of the one reference input (R196, R130) fall on whole units. -/
abbrev Instant := Nat

/-- Lanes L0 to L3. -/
abbrev LaneId := Fin 4

/-- Screens S0 to S3. -/
abbrev ScreenId := Fin 4

/-- One value for each of four lanes, screens or overlay slots. -/
structure Quad (α : Type) where
  q0 : α
  q1 : α
  q2 : α
  q3 : α
  deriving DecidableEq, Repr

/-- The value at an index. -/
def Quad.get {α : Type} (v : Quad α) (i : Fin 4) : α :=
  match i with
  | 0 => v.q0
  | 1 => v.q1
  | 2 => v.q2
  | 3 => v.q3

/-- The same values but for one. -/
def Quad.set {α : Type} (v : Quad α) (i : Fin 4) (a : α) : Quad α :=
  match i with
  | 0 => { v with q0 := a }
  | 1 => { v with q1 := a }
  | 2 => { v with q2 := a }
  | 3 => { v with q3 := a }

/-- Four values made from their indices. -/
def Quad.ofFn {α : Type} (f : Fin 4 → α) : Quad α := ⟨f 0, f 1, f 2, f 3⟩

/-- The four values in ascending index order. -/
def Quad.toList {α : Type} (v : Quad α) : List α := [v.q0, v.q1, v.q2, v.q3]

/-- The four indices in ascending order. -/
def fours : List (Fin 4) := [0, 1, 2, 3]

end Sys2Proof
end

