-- ==== Sys2Proof/Syntax.lean ====
section
/-! DEFINITION. The commands of the block: one constructor for each row of spec/opcode_table.json.
A host command's fields are the bytes of the frame that BCP has taken (R191), so its row carries
none of them. An operand `t` is the instant at which an event is taken (notes/assumptions/1.md). -/

namespace Sys2Proof

/-- What the storage array returns for a read (R11, R22). -/
inductive Returned where
  | data (bytes : List Byte)
  | fault
  deriving DecidableEq, Repr

/-- The operations and events of the part, in the table's order. -/
inductive Instr where
  | powerOnReset
  | startupLoadBegin
  /-- the array's block count -/
  | capacityReadReturn (blocks : Nat)
  | headerReadReturn (r : Returned)
  | formatWriteReturn (ok : Bool)
  | slotReadReturn (r : Returned)
  /-- the bytes that arrive on the control port -/
  | commandFrameReceived (bytes : List Byte)
  | frameByteTimeout
  | unknownKind
  | transmitLineFree
  | softResetProceed (t : Instant)
  | queryWindows
  | retirePackage
  | declarePackage
  | abortPackage
  | queryPackage
  | setIngest
  | loadLicence
  | revokeLicence (t : Instant)
  | queryLicence
  | readLog
  | collectLog
  | goLive
  | assignLane (t : Instant)
  | holdScreen (t : Instant)
  | releaseScreen
  | appendItem
  | removeItem
  | clearQueue
  | cue
  | start (t : Instant)
  | pause (t : Instant)
  | resume (t : Instant)
  | stop (t : Instant)
  | seek (t : Instant)
  | setLane (t : Instant)
  | laneReset (t : Instant)
  | queryLane
  | gateStart
  | gateStop (t : Instant)
  | queryGate (t : Instant)
  | injectPulses (t : Instant)
  | setChannel (t : Instant)
  | querySound (t : Instant)
  | setEnables
  | clearEnables
  | setMaster
  | ackNotice
  | injectNotice
  | queryPart
  | setTime
  | softReset
  /-- a whole frame of the ingest link, its kind byte first -/
  | chunkOffer (frame : List Byte)
  | ticketExpiry
  /-- the operation's place among those in flight, oldest grant first, and whether the write succeeded -/
  | chunkWriteReturn (op : Nat) (ok : Bool)
  | catalogueWriteReturn (op : Nat) (ok : Bool)
  | laneReadReturn (op : Nat) (r : Returned) (t : Instant)
  | cueReadReturn (op : Nat) (r : Returned)
  | rawPulse (screen : ScreenId) (t : Instant)
  | injectedPulse (lane : LaneId)
  | pulseLossExpiry (lane : LaneId)
  | gateOverflow (lane : LaneId)
  | baseTick
  | slipCorrection (lane : LaneId)
  | rampDownEnd (lane : LaneId)
  | soundReady
  | boothSecond
  | resetPinAsserted
  | capacityReadNoAnswer
  | syncByteReceived
  deriving DecidableEq, Repr

end Sys2Proof
end

