-- ==== Sys2Proof/Decode.lean ====
section
/-! DEFINITION. The command a word spells by the bits of spec/opcode_table.json. The table gives no row
any bits (its reader counts 0 rows with fixed bits), so no word spells a command. -/

namespace Sys2Proof

/-- The command that `nbits` bits of value `w` spell: none, since no row of the table gives bits. -/
def decodeTableWord (_nbits _w : Nat) : Option Instr := none

end Sys2Proof
end

