-- ==== Sys2Proof/Machine/State.lean ====
section
/-! DEFINITION. The state of the VS4: every piece the manual gives its ten blocks, as plain data, and
its value right after power-on reset. INVENTORY.md lists each piece with its rule. -/

namespace Sys2Proof.Machine

/-! ### Replies -/

/-- The refusal reasons of R194. -/
inductive Reason where
  | busy | overrun | unknownKind | badLength | badValue | badState | noSuch | noRoom | noSpace
  | screenTaken | held | rateChange | licenceNeeded | licenceSpent | licenceExpired | licenceNotYet
  | licenceRevoked | logFull | timeUnset | rehearsalOnly
  deriving DecidableEq, Repr

/-! ### Storage controller (chapter 1) -/

/-- The states of a window (R3). -/
inductive WindowState where
  | filling | complete | retiring
  deriving DecidableEq, Repr

/-- One reel's start blocks (R1, R5). -/
structure ReelLayout where
  picture : Nat
  sound : Nat
  subtitle : Nat
  deriving DecidableEq, Repr

/-- A window record (R1). -/
structure Window where
  packageId : Nat
  base : Nat
  limit : Nat
  state : WindowState
  refs : Nat
  faults : Nat
  ops : Nat
  layout : List ReelLayout
  deriving DecidableEq, Repr

/-- One reel of a declaration (R24). -/
structure ReelDecl where
  frames : Nat
  cues : Nat
  deriving DecidableEq, Repr

/-- A package declaration (R24, R25). -/
structure Declaration where
  packageId : Nat
  rate : Nat
  slotBlocks : Nat
  channels : Nat
  licenceRequired : Bool
  reels : List ReelDecl
  deriving DecidableEq, Repr

/-- A half-open range of units `[lo, hi)` (R27). -/
structure Span where
  lo : Nat
  hi : Nat
  deriving DecidableEq, Repr

/-- The state of one present track (R26). -/
structure Track where
  units : Nat
  received : List Span
  inFlight : List Span
  stalled : List LaneId
  deriving DecidableEq, Repr

/-- The kinds of track, in the order of their codes (section 10.6). -/
inductive TrackKind where
  | picture | sound | subtitle
  deriving DecidableEq, Repr

/-- The tracks of one reel: PICTURE always, SOUND and SUBTITLE where present (R26). -/
structure ReelTracks where
  picture : Track
  sound : Option Track
  subtitle : Option Track
  deriving DecidableEq, Repr

/-- A package record (R24). -/
structure PackageRecord where
  decl : Declaration
  reels : List ReelTracks
  takenSince : Nat
  badChecks : Nat
  writeFaults : Nat
  deriving DecidableEq, Repr

/-- An entry of the window table. The package record exists exactly as long as the window is in the
table (R24), so the two stand together. -/
structure TableEntry where
  window : Window
  record : PackageRecord
  deriving DecidableEq, Repr

/-- An entry of the draining list (R9). -/
structure Drain where
  first : Nat
  last : Nat
  ops : Nat
  deriving DecidableEq, Repr

/-- Catalogue status (R19). -/
inductive CatalogueStatus where
  | loaded | formatted | unavailable
  deriving DecidableEq, Repr

/-- An entry of the catalogue write queue: a slot, and whether its next write is the one retry of a
faulted write (R16, R17). -/
structure SlotRequest where
  slot : Nat
  retry : Bool
  deriving DecidableEq, Repr

/-- The banks of a cue engine (R145). -/
inductive BankId where
  | bankA | bankB
  deriving DecidableEq, Repr

/-- Who asked for an operation in flight, and what its return is for (R11). A lane read names the
buffer slot and the frame (item serial number and item frame) it was issued for; a cue read names its
bank, and the reel of the take-up that issued it. -/
inductive OpKind where
  | laneRead (lane : LaneId) (epoch slot item frame : Nat) (sound : Bool)
  | cueRead (lane : LaneId) (epoch : Nat) (bank : BankId) (item reel index : Nat)
  | chunkWrite (slot : Nat)
  | slotWrite (slot : Nat) (retry : Bool)
  deriving DecidableEq, Repr

/-- An operation in flight (R11). -/
structure Operation where
  kind : OpKind
  first : Nat
  count : Nat
  deriving DecidableEq, Repr

/-- Where the start-up load stands (R18 to R21): not running, waiting for the port to be idle, or the
one operation it waits for. `retry` marks the one retry of a faulted write. -/
inductive Load where
  | idle
  | awaitingPort
  | capacityRead
  | headerRead
  | headerWrite (retry : Bool)
  | formatWrite (slot : Nat) (retry : Bool)
  | slotRead (slot : Nat)
  | emptyWrite (slot : Nat) (retry : Bool)
  deriving DecidableEq, Repr

/-- Storage controller state (chapter 1). -/
structure Storage where
  capacity : Nat
  status : Option CatalogueStatus
  table : List (Option TableEntry)
  draining : List Drain
  faults : Nat
  queue : List SlotRequest
  guard : Nat
  flight : List Operation
  load : Load
  deriving DecidableEq, Repr

/-! ### Package assembler (chapter 2) -/

/-- A chunk identity as offered (R29). -/
structure ChunkId where
  packageId : Nat
  track : Nat
  reel : Nat
  first : Nat
  count : Nat
  deriving DecidableEq, Repr

/-- The causes of RETRY (R31). -/
inductive RetryCause where
  | overlap | fragmented | stagingFull
  deriving DecidableEq, Repr

/-- The reasons of a REFUSED verdict (R29). -/
inductive OfferRefusal where
  | noPackage | notFilling | outOfRange | badSize | badCheck | overrun
  deriving DecidableEq, Repr

/-- Verdicts (R29). -/
inductive Verdict where
  | taken | duplicate | retry (cause : RetryCause) | fault | refused (why : OfferRefusal)
  deriving DecidableEq, Repr

/-- A staging slot (R33). `orphan` marks a WRITING slot whose package has been released (R44). -/
inductive Staging where
  | free
  | reserved (ticket : ChunkId)
  | held (chunk : ChunkId) (payload : List Byte)
  | writing (chunk : ChunkId) (payload : List Byte) (orphan : Bool)
  deriving DecidableEq, Repr

/-- A retry ticket (R38). -/
structure Ticket where
  chunk : ChunkId
  cause : RetryCause
  created : Nat
  slot : Option Nat
  deriving DecidableEq, Repr

/-- The discard setting (R41). -/
inductive DiscardSetting where
  | short | long
  deriving DecidableEq, Repr

/-- Package assembler state (chapter 2), less the package records. -/
structure Assembler where
  staging : List Staging
  order : List Nat
  tickets : List Ticket
  setting : DiscardSetting
  outstanding : Nat
  discards : Nat
  deriving DecidableEq, Repr

/-! ### Showing counter (chapter 3) -/

/-- A licence record (R51). Its state is derived (R52) and its held number is the number of its
reservations in stage PROMOTED or SHOWING, which is what R51 says it is. -/
structure Licence where
  id : Nat
  packageId : Nat
  notBefore : Nat
  notAfter : Nat
  maxShowings : Nat
  count : Nat
  percent : Nat
  revoked : Bool
  deriving DecidableEq, Repr

/-- Licence states (R52). -/
inductive LicenceState where
  | valid | spent | expired | revoked
  deriving DecidableEq, Repr

/-- Stages of a reservation (R57), with the sequence number of its record once created. -/
inductive Stage where
  | promoted
  | showing (seq : Nat)
  | qualified (seq : Nat)
  deriving DecidableEq, Repr

/-- A reservation of a lane (R57). -/
structure Reservation where
  screen : Option ScreenId
  licenceId : Nat
  packageId : Nat
  mark : Nat
  stage : Stage
  deriving DecidableEq, Repr

/-- Outcomes of a showing (R60, R63, R64). -/
inductive ShowOutcome where
  | opened | complete | short | countedEarlyEnd | abandoned
  deriving DecidableEq, Repr

/-- End causes of a showing (R63, R64). -/
inductive EndCause where
  | itemEnd | stop | laneReset | revoked | held | softReset
  deriving DecidableEq, Repr

/-- A showing record (R60). Times are booth time as it stood. -/
structure ShowRecord where
  seq : Nat
  licenceId : Nat
  packageId : Nat
  lane : LaneId
  screen : Option ScreenId
  rehearsal : Bool
  start : Option Nat
  qualify : Option Nat
  ended : Option Nat
  real : Nat
  fill : Nat
  outcome : ShowOutcome
  cause : Option EndCause
  deriving DecidableEq, Repr

/-- Operating modes (R71). -/
inductive Mode where
  | rehearsal | live
  deriving DecidableEq, Repr

/-- Showing counter state (chapter 3). -/
structure Showings where
  licences : List Licence
  reservations : Quad (List Reservation)
  log : List ShowRecord
  nextSeq : Nat
  mode : Mode
  deriving DecidableEq, Repr

/-! ### Playout lane (chapter 4) -/

/-- Lane states (R80). -/
inductive LaneState where
  | idle | cueing | cued | starting | playing | paused | resetting
  deriving DecidableEq, Repr

/-- Gap policies (R106). -/
inductive GapPolicy where
  | holdLast | black | stop
  deriving DecidableEq, Repr

/-- Lane settings (R106). -/
structure Settings where
  gapPolicy : GapPolicy
  soundDelay : Int
  subtitleOffset : Int
  maxSlip : Nat
  resyncLimit : Nat
  lowMark : Nat
  divider : Nat
  tolerance : Nat
  rateCheck : Bool
  rateWatch : Bool
  lossTime : Nat
  deriving DecidableEq, Repr

/-- Kinds of queue item with the fields the host gives (R81). -/
inductive ItemKind where
  | composition (packageId firstReel lastReel : Nat) (licence : Option Nat)
  | black (frames : Nat)
  | intermission
  deriving DecidableEq, Repr

/-- A queue item (R81). `uid` is its serial number on the lane; a COMPOSITION holds the edit rate, the
channel count and its reels' frame counts, taken from the declaration at append. -/
structure Item where
  uid : Nat
  kind : ItemKind
  promoted : Bool
  begun : Bool
  blocked : Option Reason
  rate : Nat
  channels : Nat
  reelFrames : List Nat
  deriving DecidableEq, Repr

/-- A frame's place in its item and in its package (R87, R97). -/
structure Pos where
  frame : Nat
  reel : Nat
  reelFrame : Nat
  deriving DecidableEq, Repr

/-- The fetch cursor (R86): the next frame to fetch, with whether its reel has been taken up (R91), or
the place behind the last item passed, where the next item is to be taken up (R90). -/
inductive Cursor where
  | frameOf (item : Nat) (pos : Pos) (taken : Bool)
  | afterItem (item : Nat)
  deriving DecidableEq, Repr

/-- Fetcher states (R86). -/
inductive FetchState where
  | stopped | running | full | stalled | reelWait | blocked | done
  deriving DecidableEq, Repr

/-- What the fetcher has before the storage arbiter: the frame's reads not yet granted, the first of
which is the lane's waiting request (R89), or the reel's cue reads from an index on (R148). -/
inductive Work where
  | nothing
  | picture (slot : Nat) (alsoSound : Bool)
  | sound (slot : Nat)
  | cues (bank : BankId) (index count : Nat)
  deriving DecidableEq, Repr

/-- The fetcher (R86). `inHand` holds the reels in hand as item and reel (R91). -/
structure Fetcher where
  state : FetchState
  cursor : Option Cursor
  epoch : Nat
  inHand : List (Nat × Nat)
  work : Work
  deriving DecidableEq, Repr

/-- Stages of a buffer slot (R87). -/
inductive SlotStage where
  | reading | ready | presented
  deriving DecidableEq, Repr

/-- A held slot of the prefetch buffer (R87): its number 0 to 47, its frame, its read-faulted mark, its
stage, the reads not yet returned, and the picture and sound data read. -/
structure BufSlot where
  num : Nat
  item : Nat
  pos : Pos
  composition : Bool
  hasSound : Bool
  faulted : Bool
  stage : SlotStage
  awaiting : Nat
  picture : List Byte
  sound : List Byte
  deriving DecidableEq, Repr

/-- Pause causes (R100). -/
inductive PauseCause where
  | host | pulseLost | gap | intermission
  deriving DecidableEq, Repr

/-- The last fault that raised LANE_FAULT (R74). -/
inductive LaneFault where
  | rateMismatch | noPulses | gap | pulseLost
  | promotion (why : Reason)
  deriving DecidableEq, Repr

/-- Lane statistics (R107). -/
structure LaneStats where
  real : Nat
  fill : Nat
  gaps : Nat
  stalls : Nat
  readFaults : Nat
  itemsDone : Nat
  refused : Nat
  deriving DecidableEq, Repr

/-- The lane record (R74). `uids` numbers the items appended to the lane. -/
structure Playout where
  state : LaneState
  screen : Option ScreenId
  confirmed : Bool
  set : Settings
  queue : List Item
  uids : Nat
  rate : Option Nat
  fetch : Fetcher
  buffer : List BufSlot
  next : Option Pos
  position : Option Pos
  shown : Bool
  inGap : Bool
  pause : Option PauseCause
  fault : Option LaneFault
  stats : LaneStats
  deriving DecidableEq, Repr

/-! ### Frame monitor (chapter 5) -/

/-- Gate owners (R118). -/
inductive GateOwner where
  | host | check | watch
  deriving DecidableEq, Repr

/-- Gate states (R118). -/
inductive GateState where
  | idle | opened | done | aborted
  deriving DecidableEq, Repr

/-- Gate results (R118). -/
inductive GateResult where
  | valid | overflow | noPulses | aborted
  deriving DecidableEq, Repr

/-- The gate record (R118). `length` none is OPEN length. While the gate counts, `openTick` is the
number of the first monitor tick counted and `count` the tick count kept at the last counted pulse
(R119); once it has ended `count` is its tick count N. -/
structure Gate where
  owner : GateOwner
  state : GateState
  length : Option Nat
  opened : Bool
  pulses : Nat
  openTick : Nat
  count : Nat
  result : Option GateResult
  rate : Option Nat
  deviation : Option Int
  deriving DecidableEq, Repr

/-- An injection run (R117). -/
structure Injection where
  remaining : Nat
  q : Nat
  nextTick : Nat
  deriving DecidableEq, Repr

/-- The monitor record (R109). `lossTimer` none is stopped. `lossFresh` is the model's own: the timer was restarted at
the instant of the base tick to come, which does not raise it (R112). -/
structure Monitor where
  lastAccepted : Option Nat
  lossTimer : Option Nat
  lossFresh : Bool
  absent : Bool
  phase : Nat
  gate : Gate
  watch : Bool
  rateOut : Bool
  injection : Option Injection
  accepted : Nat
  glitches : Nat
  counted : Nat
  lossExpiries : Nat
  watchGates : Nat
  deriving DecidableEq, Repr

/-! ### Subtitle cue engine (chapter 7) -/

/-- A cue record as stored (R144). -/
structure CueRecord where
  number : Nat
  inFrame : Nat
  outFrame : Nat
  fadeIn : Nat
  fadeOut : Nat
  region : Nat
  offset : Nat
  style : Nat
  lines : List (List Byte)
  deriving DecidableEq, Repr

/-- A bank entry (R146): the cue with its effective times and scaled fades, and its index in the reel. -/
structure CueEntry where
  number : Nat
  inAt : Nat
  outAt : Nat
  fadeIn : Nat
  fadeOut : Nat
  region : Nat
  offset : Nat
  style : Nat
  lines : List (List Byte)
  index : Nat
  deriving DecidableEq, Repr

/-- Bank states (R146). -/
inductive BankState where
  | free | loading | loaded | missing
  deriving DecidableEq, Repr

/-- A bank (R146). `delta` and `frames` are the subtitle offset and the reel's frame count read at the
take-up (R147); while LOADING, `awaiting` counts the cue reads not yet returned and `records` keeps
those returned, an invalid one as none. -/
structure Bank where
  state : BankState
  reel : Option (Nat × Nat)
  delta : Int
  frames : Nat
  entries : List CueEntry
  cursor : Nat
  awaiting : Nat
  records : List (Nat × Option CueRecord)
  deriving DecidableEq, Repr

/-- An active slot (R145). -/
structure ActiveCue where
  cue : CueEntry
  opacity : Nat
  hidden : Bool
  deriving DecidableEq, Repr

/-- Cue engine state (R145). -/
structure CueEngine where
  bankA : Bank
  bankB : Bank
  current : Option BankId
  active : Quad (Option ActiveCue)
  rebuild : Bool
  bad : Nat
  dropped : Nat
  missing : Nat
  deriving DecidableEq, Repr

/-! ### Sound engine (chapter 8) -/

/-- Sound states (R165). -/
inductive SoundState where
  | off | running | falling | held
  deriving DecidableEq, Repr

/-- The case of R132 taken at the last presented real frame (R162). -/
inductive SoundAction where
  | none | seat | slip (s : Int) | resync
  deriving DecidableEq, Repr

/-- Ramps (R162), each from its first wall sample. -/
inductive Ramp where
  | none
  | up (start : Nat)
  | down (start : Nat)
  | resync (start : Nat)
  deriving DecidableEq, Repr

/-- A scheduled correction: its wall sample and whether it is a repeat or a skip (R133). -/
structure Correction where
  sample : Nat
  repeated : Bool
  deriving DecidableEq, Repr

/-- A channel map entry (R163). -/
structure Channel where
  enabled : Bool
  tag : Nat
  gain : Nat
  trim : Int
  deriving DecidableEq, Repr

/-- The item whose content the pointer is in (R130): its serial number, total frames and channels. -/
structure SoundItem where
  item : Nat
  total : Nat
  channels : Nat
  deriving DecidableEq, Repr

/-- A lane's sound counts (R162, R177). -/
structure SoundCounts where
  resyncs : Nat
  repeats : Nat
  skips : Nat
  offered : Nat
  admitted : Nat
  dropped : Nat
  blocks : Nat
  deriving DecidableEq, Repr

/-- A lane's sound state (R162). `thenOff` says that a ramp-down ends in OFF, not HELD (R169);
`resumed` that a RESUME has been taken since the last real frame (R168); `store` holds a ramp-down's
48 read-ahead samples by channel; `latched` holds the channels and tags read at the start of the
present tick, `built` the values made so far in it for each of them, newest first, and `sounded`
whether a sample of the tick was RUNNING or FALLING (R171). -/
structure Sound where
  state : SoundState
  pointer : Option Int
  item : Option SoundItem
  frame : Option Nat
  error : Option Int
  last : SoundAction
  corrections : List Correction
  ramp : Ramp
  store : List (Nat × List Int)
  thenOff : Bool
  seatPending : Bool
  resumed : Bool
  latched : List (Nat × Nat)
  built : List (List Int)
  sounded : Bool
  map : List Channel
  counts : SoundCounts
  deriving DecidableEq, Repr

/-- A block of the sound link (R171, section 10.6). -/
structure SoundBlock where
  lane : LaneId
  tag : Nat
  samples : List Int
  deriving DecidableEq, Repr

/-- The sound link queue and its counts (R172, R174). -/
structure SoundLink where
  queue : List SoundBlock
  ready : Bool
  sent : Nat
  starved : Nat
  dropped : Nat
  deriving DecidableEq, Repr

/-- One lane with its monitor, cue engine and sound state. -/
structure Lane where
  pl : Playout
  ftm : Monitor
  sce : CueEngine
  sne : Sound
  deriving DecidableEq, Repr

/-! ### Notice unit (chapter 9) -/

/-- Notice unit state: bit n of a set is source n (R180). -/
structure Notices where
  raised : BitVec 44
  enabled : BitVec 44
  master : Bool
  outstanding : Bool
  number : Nat
  deriving DecidableEq, Repr

/-! ### Snapshots of the query commands -/

/-- One window of QUERY_WINDOWS (R10). -/
structure WindowReport where
  index : Nat
  packageId : Nat
  state : WindowState
  base : Nat
  limit : Nat
  refs : Nat
  faults : Nat
  deriving DecidableEq, Repr

/-- QUERY_WINDOWS (R10). -/
structure WindowsReport where
  status : Option CatalogueStatus
  capacity : Nat
  free : Nat
  largestGap : Nat
  drainingBlocks : Nat
  count : Nat
  windows : List WindowReport
  deriving DecidableEq, Repr

/-- One track of QUERY_PACKAGE (R47). -/
structure TrackReport where
  kind : TrackKind
  units : Nat
  complete : Bool
  received : List Span
  inFlight : List Span
  stalled : List LaneId
  deriving DecidableEq, Repr

/-- QUERY_PACKAGE (R47). -/
structure PackageReport where
  state : WindowState
  reelCount : Nat
  tracksComplete : Nat
  tracksPresent : Nat
  takenSince : Nat
  badChecks : Nat
  writeFaults : Nat
  ownTickets : Nat
  tracks : List TrackReport
  setting : DiscardSetting
  slotsFree : Nat
  slotsReserved : Nat
  slotsHeld : Nat
  slotsWriting : Nat
  tickets : Nat
  outstanding : Nat
  discards : Nat
  deriving DecidableEq, Repr

/-- One line of the QUERY_LICENCE summary (R56). -/
structure LicenceLine where
  id : Nat
  packageId : Nat
  state : LicenceState
  count : Nat
  held : Nat
  maxShowings : Nat
  deriving DecidableEq, Repr

/-- A lane's reservations of a licence by stage (R56). -/
structure StageCounts where
  promoted : Nat
  showing : Nat
  qualified : Nat
  deriving DecidableEq, Repr

/-- QUERY_LICENCE of one record (R56). -/
structure LicenceReport where
  licence : Licence
  held : Nat
  state : LicenceState
  notYet : Bool
  openShowings : Nat
  perLane : Quad StageCounts
  remaining : Option Nat
  deriving DecidableEq, Repr

/-- READ_LOG (R69). -/
structure LogReport where
  nextSeq : Nat
  lowest : Nat
  heldSlots : Nat
  openRecords : Nat
  closedRecords : Nat
  returned : Nat
  records : List ShowRecord
  deriving DecidableEq, Repr

/-- One bank of the subtitles part: state, item index in the queue and reel, entry count, cursor (R160). -/
structure BankReport where
  state : BankState
  reel : Option (Nat × Nat)
  entries : Nat
  cursor : Nat
  deriving DecidableEq, Repr

/-- One active slot of the subtitles part (R160). -/
structure ActiveReport where
  number : Nat
  inAt : Nat
  outAt : Nat
  opacity : Nat
  hidden : Bool
  deriving DecidableEq, Repr

/-- One item of QUERY_LANE's queue part (R107). -/
structure ItemReport where
  kind : ItemKind
  total : Nat
  promoted : Bool
  begun : Bool
  blocked : Option Reason
  deriving DecidableEq, Repr

/-- QUERY_LANE (R107, R160). The fetch cursor is an item's index in the queue, a reel and a reel frame; the
reels in hand are item indices and reels. -/
structure LaneReport where
  state : LaneState
  screen : Option ScreenId
  held : Option Bool
  confirmed : Bool
  rate : Option Nat
  pause : Option PauseCause
  fault : Option LaneFault
  queue : List ItemReport
  fetchState : FetchState
  cursor : Option (Nat × Nat × Nat)
  inHand : List (Nat × Nat)
  slotsReading : Nat
  slotsReady : Nat
  slotsPresented : Nat
  slotsFree : Nat
  slotsFaulted : Nat
  readsInFlight : Nat
  next : Option Pos
  position : Option Pos
  inGap : Bool
  stats : LaneStats
  set : Settings
  current : Option BankId
  bankA : BankReport
  bankB : BankReport
  active : Quad (Option ActiveReport)
  rebuild : Bool
  bad : Nat
  dropped : Nat
  missing : Nat
  deriving DecidableEq, Repr

/-- The fields of the gate record as a reply gives them (R118). -/
structure GateFields where
  owner : GateOwner
  state : GateState
  length : Option Nat
  opened : Bool
  pulses : Nat
  ticks : Nat
  result : Option GateResult
  rate : Option Nat
  deviation : Option Int
  deriving DecidableEq, Repr

/-- QUERY_GATE (R124). -/
structure GateReport where
  gate : GateFields
  divider : Nat
  phase : Nat
  absent : Bool
  lossTimer : Option Nat
  lossTime : Nat
  rateWatch : Bool
  watch : Bool
  rateOut : Bool
  tolerance : Nat
  watchGates : Nat
  injecting : Bool
  remaining : Nat
  q : Nat
  accepted : Nat
  glitches : Nat
  counted : Nat
  lossExpiries : Nat
  deriving DecidableEq, Repr

/-- QUERY_SOUND (R176). -/
structure SoundReport where
  state : SoundState
  pointer : Option Int
  spf : Option Nat
  frame : Option Nat
  error : Option Int
  last : SoundAction
  corrections : List Correction
  ramp : Ramp
  rampAt : Option Nat
  seatPending : Bool
  map : List Channel
  counts : SoundCounts
  held : Nat
  free : Nat
  ready : Bool
  sent : Nat
  starved : Nat
  dropped : Nat
  deriving DecidableEq, Repr

/-- The notice unit's state after a command (R184). -/
structure NoticeReport where
  raised : BitVec 44
  enabled : BitVec 44
  master : Bool
  number : Nat
  deriving DecidableEq, Repr

/-- Part states (R195). -/
inductive PartState where
  | startingUp | ready
  deriving DecidableEq, Repr

/-- Last reset causes (R195). -/
inductive ResetCause where
  | powerOn | soft
  deriving DecidableEq, Repr

/-- QUERY_PART (R198). -/
structure PartReport where
  vendor : Nat
  part : String
  revision : Nat
  state : PartState
  mode : Mode
  booth : Option Nat
  cause : ResetCause
  capacity : Nat
  status : Option CatalogueStatus
  windows : Nat
  licences : Nat
  occupancy : Nat
  nextSeq : Nat
  storageFaults : Nat
  linkErrors : Nat
  overruns : Nat
  deriving DecidableEq, Repr

/-- The contents of a DONE reply: the fields the command's rule names (notes/assumptions/7.md). -/
inductive Result where
  | empty
  | windows (r : WindowsReport)
  | gone
  | retiring (refs : Nat)
  | placed (base limit : Nat)
  | package (r : PackageReport)
  | discard (setting : DiscardSetting)
  | licenceLoaded (maxShowings count percent : Nat) (state : LicenceState)
  | revoked (lanesStopped recordsClosed : Nat)
  | licences (count : Nat) (lines : List LicenceLine)
  | licence (r : LicenceReport)
  | log (r : LogReport)
  | collected (removed occupancy : Nat)
  | mode (m : Mode)
  | laneState (state : LaneState)
  | appended (index length : Nat) (frames : Option Nat)
  | queueLength (length : Nat)
  | cleared (removed length : Nat)
  | seekTarget (frame : Nat)
  | applied (value : Int)
  | lane (r : LaneReport)
  | gateStopped (g : GateFields)
  | gate (r : GateReport)
  | injected (count q : Nat)
  | channel (gain : Nat) (trim : Int)
  | sound (r : SoundReport)
  | notices (r : NoticeReport)
  | part (r : PartReport)
  | time (now : Nat) (before : Option Nat)
  | softReset
  deriving DecidableEq, Repr

/-- A reply: DONE with its fields or REFUSED with one reason (R191). -/
inductive Reply where
  | done (r : Result)
  | refused (why : Reason)
  deriving DecidableEq, Repr

/-- The frames the part sends to the host (R189). -/
inductive HostFrame where
  | reply (tag : Byte) (r : Reply)
  | notice (number : Nat) (pending : BitVec 44)
  deriving DecidableEq, Repr

/-! ### Control port and booth clock (chapter 10) -/

/-- The receiver (R190): in COLLECTING it holds the bytes taken after the sync byte. -/
inductive Receiver where
  | hunting
  | collecting (bytes : List Byte)
  deriving DecidableEq, Repr

/-- An outstanding command (R191), with its reply once it has been executed. -/
structure Outstanding where
  kind : Nat
  tag : Byte
  body : List Byte
  reply : Option Reply
  deriving DecidableEq, Repr

/-- Control port state (chapter 10). `gap` counts the base ticks since the last byte of the frame being
collected; `resetDue` says that the DONE of SOFT_RESET has left and the reset has not yet proceeded. -/
structure ControlPort where
  receiver : Receiver
  gap : Nat
  cmds : List Outstanding
  overrunTags : List Byte
  line : Option HostFrame
  part : PartState
  cause : ResetCause
  linkErrors : Nat
  overruns : Nat
  resetDue : Bool
  deriving DecidableEq, Repr

/-- The booth clock (R196). `now` is the instant of the last event, `ticks` the base ticks since release,
`samples` the wall samples produced, `secondDue` that the tick that completes a second stands to be
taken by BOOTH_SECOND. -/
structure Clock where
  now : Instant
  ticks : Nat
  samples : Nat
  booth : Option Nat
  sub : Nat
  secondDue : Bool
  deriving DecidableEq, Repr

/-! ### What the part sends -/

/-- Commands on a screen link (00_scope, R97, R98, R153). -/
inductive ScreenCommand where
  | frame (bytes : List Byte)
  | repeatFrame
  | black
  | showCue (slot region offset style opacity : Nat) (lines : List (List Byte))
  | opacity (slot value : Nat)
  | hide (slot : Nat)
  | clear
  deriving DecidableEq, Repr

/-- What the part sends or asks on a link, in the order sent. -/
inductive Output where
  | host (f : HostFrame)
  | verdict (chunk : ChunkId) (v : Verdict) (ticket : Bool)
  | linkReset
  | screen (s : ScreenId) (c : ScreenCommand)
  | soundBlock (b : SoundBlock)
  | capacityRead
  | storageRead (first count : Nat)
  | storageWrite (first count : Nat) (data : List Byte)
  deriving DecidableEq, Repr

/-! ### The whole state -/

/-- The state of the VS4. -/
structure State where
  /-- the power-on reset pin is asserted (R195) -/
  pin : Bool
  clock : Clock
  bcp : ControlPort
  stc : Storage
  pka : Assembler
  shc : Showings
  lanes : Quad Lane
  /-- the screens' hold flags (R75) -/
  held : Quad Bool
  link : SoundLink
  ntu : Notices
  /-- what the part has sent, oldest first (notes/assumptions/5.md) -/
  out : List Output
  /-- the commands waiting, first in first out -/
  pending : List Instr
  deriving DecidableEq, Repr

/-- Faults that stop the machine. The manual stops the part at no event, so no meaning raises one. Safe. -/
inductive Fault where
  /-- Raised by nothing: kept so that the outcome type has a fault to name. Safe. -/
  | neverRaised
  deriving DecidableEq, Repr

/-- Events that cannot come about in the present state (notes/assumptions/2.md). Each is safe: the manual
gives no such event there, and the model stops instead of inventing one. -/
inductive Refusal where
  /-- An instruction with no meaning yet, refused by Dispatch. Safe. -/
  | notModelled (mnemonic : String)
  /-- The reset pin is asserted: the part takes no step but its release (R195). Raised by `live`. Safe. -/
  | heldInReset
  /-- BCP has no taken and unexecuted command (R191). Raised by `runCommand`. Safe. -/
  | noCommandWaiting
  /-- The oldest unexecuted command is of another kind; commands are executed in order (R191). Raised
  by `runCommand` and UNKNOWN_KIND. Safe. -/
  | otherCommandNext
  /-- The start-up load is not waiting for this event (R18 to R21). Raised by the start-up events. Safe. -/
  | loadElsewhere
  /-- No operation of that kind and number is in flight (R11). Raised by the returns. Safe. -/
  | notInFlight
  /-- The timed event is not due (R40, R112, R117, R120, R133, R169, R190, R196). Raised by those
  events. Safe. -/
  | notDue
  /-- The DONE of SOFT_RESET has not left (R199). Raised by SOFT_RESET_PROCEED. Safe. -/
  | noSoftReset
  deriving DecidableEq, Repr

/-! ### Values after power-on reset -/

/-- STC after power-on reset (R23). -/
def Storage.reset : Storage :=
  { capacity := 0, status := none, table := List.replicate 32 none, draining := [], faults := 0,
    queue := [], guard := 0, flight := [], load := .awaitingPort }

/-- PKA after power-on reset (R50). -/
def Assembler.reset : Assembler :=
  { staging := List.replicate 6 .free, order := [], tickets := [], setting := .long,
    outstanding := 0, discards := 0 }

/-- SHC after power-on reset (R73). -/
def Showings.reset : Showings :=
  { licences := [], reservations := ⟨[], [], [], []⟩, log := [], nextSeq := 1, mode := .rehearsal }

/-- The default settings (R106). -/
def Settings.defaults : Settings :=
  { gapPolicy := .holdLast, soundDelay := 0, subtitleOffset := 0, maxSlip := 4, resyncLimit := 960,
    lowMark := 12, divider := 1, tolerance := 20000, rateCheck := true, rateWatch := false,
    lossTime := 250 }

/-- Statistics cleared (R108). -/
def LaneStats.zero : LaneStats := ⟨0, 0, 0, 0, 0, 0, 0⟩

/-- A stopped fetcher of a given epoch (R86). It holds no cursor. DESIGN CHOICE: notes/assumptions/71.md; unsafe. -/
def Fetcher.stoppedAt (epoch : Nat) : Fetcher :=
  { state := .stopped, cursor := none, epoch := epoch, inHand := [], work := .nothing }

/-- PL after power-on reset: lane n is bound to screen n (R75, R108). -/
def Playout.reset (l : LaneId) : Playout :=
  { state := .idle, screen := some l, confirmed := false, set := .defaults, queue := [], uids := 0,
    rate := none, fetch := .stoppedAt 0, buffer := [], next := none, position := none, shown := false,
    inGap := false, pause := none, fault := none, stats := .zero }

/-- The gate record with no gate since the last reset (R118); of its fields the manual gives the state alone.
DESIGN CHOICE: notes/assumptions/31.md; unsafe. -/
def Gate.reset : Gate :=
  { owner := .host, state := .idle, length := none, opened := false, pulses := 0, openTick := 0,
    count := 0, result := none, rate := none, deviation := none }

/-- FTM after power-on reset (R128). -/
def Monitor.reset : Monitor :=
  { lastAccepted := none, lossTimer := none, lossFresh := false, absent := true, phase := 0, gate := .reset, watch := false,
    rateOut := false, injection := none, accepted := 0, glitches := 0, counted := 0, lossExpiries := 0,
    watchGates := 0 }

/-- A FREE bank (R146). -/
def Bank.empty : Bank :=
  { state := .free, reel := none, delta := 0, frames := 0, entries := [], cursor := 0, awaiting := 0,
    records := [] }

/-- SCE after any reset (R161). -/
def CueEngine.reset : CueEngine :=
  { bankA := .empty, bankB := .empty, current := none, active := ⟨none, none, none, none⟩,
    rebuild := false, bad := 0, dropped := 0, missing := 0 }

/-- A channel's default map entry (R163). -/
def Channel.default (n : Nat) : Channel :=
  { enabled := n < 8, tag := n, gain := 65536, trim := 0 }

/-- The default channel map (R163). -/
def Channel.defaults : List Channel := (List.range 16).map Channel.default

/-- The channels enabled by a map with their tags, in ascending channel order (R171). -/
def Channel.latch (map : List Channel) : List (Nat × Nat) :=
  (map.zipIdx.filter (fun e => e.1.enabled)).map (fun e => (e.2, e.1.tag))

/-- Sound counts cleared (R179). -/
def SoundCounts.zero : SoundCounts := ⟨0, 0, 0, 0, 0, 0, 0⟩

/-- SNE of a lane after power-on reset (R179). -/
def Sound.reset : Sound :=
  { state := .off, pointer := none, item := none, frame := none, error := none, last := .none,
    corrections := [], ramp := .none, store := [], thenOff := false, seatPending := false,
    resumed := false, latched := Channel.latch Channel.defaults, built := [], sounded := false,
    map := Channel.defaults, counts := .zero }

/-- The sound link after power-on reset (R179). -/
def SoundLink.reset : SoundLink := { queue := [], ready := false, sent := 0, starved := 0, dropped := 0 }

/-- NTU after power-on and soft reset (R188). -/
def Notices.reset : Notices :=
  { raised := 0#44, enabled := 0#44, master := false, outstanding := false, number := 0 }

/-- BCP after power-on reset (R190, R195, R198). -/
def ControlPort.reset : ControlPort :=
  { receiver := .hunting, gap := 0, cmds := [], overrunTags := [], line := none, part := .startingUp,
    cause := .powerOn, linkErrors := 0, overruns := 0, resetDue := false }

/-- BCK at the release of the pin (R196). -/
def Clock.reset : Clock :=
  { now := 0, ticks := 0, samples := 0, booth := none, sub := 0, secondDue := false }

/-- A lane with its monitor, cue engine and sound after power-on reset. -/
def Lane.reset (l : LaneId) : Lane :=
  { pl := .reset l, ftm := .reset, sce := .reset, sne := .reset }

/-- The part right after the release of the power-on reset pin (R195): every block at its power-on
values, STARTING_UP, the start-up load about to begin and LINK_RESET sent (R48). -/
def State.reset : State :=
  { pin := false, clock := .reset, bcp := .reset, stc := .reset, pka := .reset, shc := .reset,
    lanes := Quad.ofFn Lane.reset, held := ⟨true, true, true, true⟩, link := .reset, ntu := .reset,
    out := [.linkReset], pending := [] }

end Sys2Proof.Machine
end

