-- ==== Sys2Proof/Machine/Ops.lean ====
section
/-! DEFINITION. The named operations the blocks share: saturating counts, updates of one lane, outputs,
the screen links, the clock's instants, and the guards of events. -/

namespace Sys2Proof.Machine

open Sys2Proof

/-- The outcome of a step of this machine. -/
abbrev Step := Host.Outcome State Fault Refusal

/-! ### Counts -/

/-- The top of a 32-bit count. -/
def top32 : Nat := 4294967295

/-- The top of a 16-bit count. -/
def top16 : Nat := 65535

/-- A count that rises by one and holds at its top. -/
def satInc (top n : Nat) : Nat := if n < top then n + 1 else n

/-- A value clamped to a range. -/
def clampNat (lo hi n : Nat) : Nat := max lo (min n hi)

/-- A signed value clamped to a range. -/
def clampInt (lo hi n : Int) : Int := max lo (min n hi)

/-! ### Lists -/

/-- The first element that satisfies a test, with its index counted from `i`. -/
def findFrom {α : Type} (p : α → Bool) : Nat → List α → Option (Nat × α)
  | _, [] => none
  | i, a :: rest => if p a then some (i, a) else findFrom p (i + 1) rest

/-- The element at an index changed. -/
def modifyAt {α : Type} (f : α → α) : Nat → List α → List α
  | _, [] => []
  | 0, a :: rest => f a :: rest
  | n + 1, a :: rest => a :: modifyAt f n rest

/-- The element at an index removed. -/
def removeAt {α : Type} : Nat → List α → List α
  | _, [] => []
  | 0, _ :: rest => rest
  | n + 1, a :: rest => a :: removeAt n rest

/-- An element inserted before the first that it is not to stand behind. -/
def insertBy {α : Type} (le : α → α → Bool) (a : α) : List α → List α
  | [] => [a]
  | b :: rest => if le a b then a :: b :: rest else b :: insertBy le a rest

/-- A list sorted by insertion. -/
def sortBy {α : Type} (le : α → α → Bool) (l : List α) : List α := l.foldr (insertBy le) []

/-! ### Updates of one lane -/

/-- A lane of the part. -/
def State.lane (s : State) (l : LaneId) : Lane := s.lanes.get l

/-- One lane changed. -/
def State.modLane (s : State) (l : LaneId) (f : Lane → Lane) : State :=
  { s with lanes := s.lanes.set l (f (s.lanes.get l)) }

/-- One lane's playout record changed. -/
def State.modPl (s : State) (l : LaneId) (f : Playout → Playout) : State :=
  s.modLane l (fun n => { n with pl := f n.pl })

/-- One lane's monitor record changed. -/
def State.modFtm (s : State) (l : LaneId) (f : Monitor → Monitor) : State :=
  s.modLane l (fun n => { n with ftm := f n.ftm })

/-- One lane's cue engine changed. -/
def State.modSce (s : State) (l : LaneId) (f : CueEngine → CueEngine) : State :=
  s.modLane l (fun n => { n with sce := f n.sce })

/-- One lane's sound state changed. -/
def State.modSne (s : State) (l : LaneId) (f : Sound → Sound) : State :=
  s.modLane l (fun n => { n with sne := f n.sne })

/-- One lane's statistics changed. -/
def State.modStats (s : State) (l : LaneId) (f : LaneStats → LaneStats) : State :=
  s.modPl l (fun p => { p with stats := f p.stats })

/-- One lane's fetcher changed. -/
def State.modFetch (s : State) (l : LaneId) (f : Fetcher → Fetcher) : State :=
  s.modPl l (fun p => { p with fetch := f p.fetch })

/-- The storage controller changed. -/
def State.modStc (s : State) (f : Storage → Storage) : State := { s with stc := f s.stc }

/-- The package assembler changed. -/
def State.modPka (s : State) (f : Assembler → Assembler) : State := { s with pka := f s.pka }

/-- The control port changed. -/
def State.modBcp (s : State) (f : ControlPort → ControlPort) : State := { s with bcp := f s.bcp }

/-! ### Outputs -/

/-- Something sent on a link. -/
def State.emit (s : State) (o : Output) : State := { s with out := s.out ++ [o] }

/-- Whether a screen is in HOLD: its flag is set, or no lane is bound to it (R75). -/
def State.screenHeld (s : State) (c : ScreenId) : Bool :=
  s.held.get c || !(fours.any (fun l => (s.lane l).pl.screen == some c))

/-- Whether a lane's bound screen is in HOLD; a lane with no screen has none to send to (R75). -/
def State.laneHeld (s : State) (l : LaneId) : Bool :=
  match (s.lane l).pl.screen with
  | none => true
  | some c => s.screenHeld c

/-- A frame or overlay command on a lane's screen link. A screen in HOLD receives none (R75, R153). -/
def State.toScreen (s : State) (l : LaneId) (c : ScreenCommand) : State :=
  match (s.lane l).pl.screen with
  | none => s
  | some sc => if s.screenHeld sc then s else s.emit (.screen sc c)

/-- Overlay or frame commands in order on a lane's screen link. -/
def State.toScreenAll (s : State) (l : LaneId) (cs : List ScreenCommand) : State :=
  cs.foldl (fun s c => s.toScreen l c) s

/-! ### Instants -/

/-- Units in a tick of the 1 MHz monitor reference. -/
def tickUnits : Nat := 150

/-- Units in a wall sample of the 48 kHz sound clock. -/
def sampleUnits : Nat := 3125

/-- Units in a base tick of 1 ms. -/
def baseUnits : Nat := 150000

/-- The monitor tick at or just before an instant (R110). -/
def tickAt (t : Instant) : Nat := t / tickUnits

/-- The first wall sample at or after an instant (R130). -/
def sampleFrom (t : Instant) : Nat := (t + (sampleUnits - 1)) / sampleUnits

/-- The instant of the next base tick (R196). -/
def State.nextBase (s : State) : Instant := (s.clock.ticks + 1) * baseUnits

/-- Whether the clock stands at the instant of the base tick to come (R196). -/
def State.atNextBase (s : State) : Bool := s.nextBase ≤ s.clock.now

/-! ### Guards of events -/

/-- A step of the part's own: none comes about while the pin holds it in reset (R195). -/
def live (s : State) (k : Step) : Step := if s.pin then .refused .heldInReset else k

/-- An event at one of the part's inputs: it is lost while the pin holds the part in reset (R195). -/
def arriving (s : State) (k : Step) : Step := if s.pin then .next s else k

end Sys2Proof.Machine
end

