-- ==== Sys2Proof/Machine/Flags.lean ====
section
/-! DEFINITION. The notice flags (chapter 9): sources, raises, and the pending set. -/

namespace Sys2Proof.Machine

open Sys2Proof

/-! ### Sources (R180) -/

/-- Index of LANE_READY among a lane's nine sources. -/
def srcLaneReady : Nat := 0
/-- Index of LANE_FAULT. -/
def srcLaneFault : Nat := 1
/-- Index of SHOW_COUNTED. -/
def srcShowCounted : Nat := 2
/-- Index of ITEM_DONE. -/
def srcItemDone : Nat := 3
/-- Index of GAP. -/
def srcGap : Nat := 4
/-- Index of RATE_WARN. -/
def srcRateWarn : Nat := 5
/-- Index of SOUND_RESYNC. -/
def srcSoundResync : Nat := 6
/-- Index of SUBS_MISSING. -/
def srcSubsMissing : Nat := 7
/-- Index of GATE. -/
def srcGate : Nat := 8
/-- Number of INGEST_DONE. -/
def srcIngestDone : Nat := 36
/-- Number of INGEST_DISCARD. -/
def srcIngestDiscard : Nat := 37
/-- Number of INGEST_FAULT. -/
def srcIngestFault : Nat := 38
/-- Number of SOUND_DROP. -/
def srcSoundDrop : Nat := 39
/-- Number of LICENCE_EXPIRED. -/
def srcLicenceExpired : Nat := 40
/-- Number of LOG_NEAR_FULL. -/
def srcLogNearFull : Nat := 41
/-- Number of LINK_ERROR. -/
def srcLinkError : Nat := 42
/-- Number of STORAGE_FAULT. -/
def srcStorageFault : Nat := 43

/-- The number of a lane's source: 9 × lane + index (R180). -/
def laneSource (l : LaneId) (index : Nat) : Nat := 9 * l.val + index

/-- The set of one source. -/
def sourceBit (n : Nat) : BitVec 44 := 1#44 <<< n

/-! ### The sets -/

/-- The pending set: raised and enabled (R180). -/
def Notices.pending (u : Notices) : BitVec 44 := u.raised &&& u.enabled

/-- The unit with new sets: the outstanding flag is set when, with the master on, the pending set gains
a source that was not in it (R182). -/
def Notices.withSets (u : Notices) (raised enabled : BitVec 44) : Notices :=
  let gained := (raised &&& enabled) &&& ~~~ u.pending
  { u with raised := raised, enabled := enabled,
           outstanding := u.outstanding || (u.master && gained != 0#44) }

/-- A raise of a set of sources, taken together (R181). -/
def Notices.raiseSet (u : Notices) (set : BitVec 44) : Notices := u.withSets (u.raised ||| set) u.enabled

/-- SET_ENABLES (R184). -/
def Notices.enable (u : Notices) (set : BitVec 44) : Notices := u.withSets u.raised (u.enabled ||| set)

/-- CLEAR_ENABLES (R184). -/
def Notices.disable (u : Notices) (set : BitVec 44) : Notices :=
  u.withSets u.raised (u.enabled &&& ~~~ set)

/-- ACK_NOTICE (R186). -/
def Notices.ack (u : Notices) (set : BitVec 44) : Notices := u.withSets (u.raised &&& ~~~ set) u.enabled

/-- SET_MASTER (R185). -/
def Notices.setMaster (u : Notices) (on : Bool) : Notices :=
  if on then { u with master := true, outstanding := u.outstanding || u.pending != 0#44 }
  else { u with master := false, outstanding := false }

/-- The unit's state as a reply gives it (R184). -/
def Notices.report (u : Notices) : NoticeReport :=
  { raised := u.raised, enabled := u.enabled, master := u.master, number := u.number }

/-- A raise of one source by its owning block (R181). -/
def State.raise (s : State) (n : Nat) : State := { s with ntu := s.ntu.raiseSet (sourceBit n) }

/-- A raise of one of a lane's sources. -/
def State.raiseLane (s : State) (l : LaneId) (index : Nat) : State := s.raise (laneSource l index)

end Sys2Proof.Machine
end

