-- ==== Sys2Proof/Machine/Timing.lean ====
section
/-! DEFINITION. Presentation timing arithmetic (chapter 6): each computation once, with its roundings. -/

namespace Sys2Proof.Machine

open Sys2Proof

/-! ### Frames and samples -/

/-- Samples per frame (R129). -/
def spf (rate : Nat) : Nat := 48000 / rate

/-- The edit rates (R25, R129). -/
def editRates : List Nat := [24, 25, 30, 48, 50, 60]

/-! ### Sound against picture -/

/-- The sound target T_k (R131). -/
def soundTarget (k samples : Nat) (delay : Int) : Int := ((k * samples : Nat) : Int) - delay

/-- The slip for an error, limited by the maximum slip (R133). -/
def slipOf (e : Int) (maxSlip : Nat) : Int := clampInt (-(maxSlip : Int)) maxSlip e

/-- The corrections of a slip, from the wall sample of its pulse (R133). -/
def slipSchedule (start samples : Nat) (s : Int) : List Correction :=
  (List.range s.natAbs).map (fun j =>
    { sample := start + (j + 1) * (samples / (s.natAbs + 1)), repeated := 0 < s })

/-- A content value under the ramp factor r (R135, R136). -/
def rampScale (x : Int) (r : Nat) : Int := Int.tdiv (x * r) 48

/-- The emitted sample of a content value under ramp factor, gain and trim (R136). -/
def emitSample (x : Int) (r gain : Nat) (trim : Int) : Int :=
  clampInt (-8388608) 8388607 (Int.fdiv (rampScale x r * gain + 32768) 65536 + trim)

/-! ### Projector rate -/

/-- The measured rate in millihertz, rounded half up (R137). -/
def measuredRate (length ticks : Nat) : Nat := (2 * length * 1000000000 + ticks) / (2 * ticks)

/-- The deviation in ppm, truncated toward zero (R138). -/
def deviation (measured rate : Nat) : Int :=
  Int.tdiv (((measured : Int) - 1000 * (rate : Int)) * 1000) rate

/-! ### The qualification mark -/

/-- The qualify mark of an item (R139). -/
def qualifyMark (total percent : Nat) : Nat := (total * percent + 99) / 100

/-! ### Subtitle times and opacity -/

/-- A cue time moved by the subtitle offset, within the reel (R140). -/
def cueTime (stored : Nat) (delta : Int) (frames : Nat) : Nat :=
  (clampInt 0 frames ((stored : Int) + delta)).toNat

/-- The fade-in after scaling to a duration (R141). -/
def scaledFadeIn (d fadeIn fadeOut : Nat) : Nat :=
  if d < fadeIn + fadeOut then d * fadeIn / (fadeIn + fadeOut) else fadeIn

/-- The fade-out after scaling to a duration (R141). -/
def scaledFadeOut (d fadeIn fadeOut : Nat) : Nat :=
  if d < fadeIn + fadeOut then d - scaledFadeIn d fadeIn fadeOut else fadeOut

/-- A cue's opacity at a reel frame at which it is shown (R142). -/
def opacityAt (c : CueEntry) (f : Nat) : Nat :=
  if f < c.inAt + c.fadeIn then 255 * (f - c.inAt + 1) / (c.fadeIn + 1)
  else if c.outAt ≤ f + c.fadeOut then 255 * (c.outAt - f) / (c.fadeOut + 1)
  else 255

/-- The opacity at which a rebuild shows a cue: its fade-in is skipped (R142). -/
def rebuildOpacity (c : CueEntry) (f : Nat) : Nat :=
  if c.outAt ≤ f + c.fadeOut then 255 * (c.outAt - f) / (c.fadeOut + 1) else 255

/-! ### Window size -/

/-- Sound blocks per unit (R143). -/
def soundBlocks (channels rate : Nat) : Nat := (channels * spf rate * 3 + 4095) / 4096

/-- Sound blocks per unit of a declaration. -/
def Declaration.soundBlocks (d : Declaration) : Nat := Machine.soundBlocks d.channels d.rate

/-- Bytes of one sound unit (R26). -/
def Declaration.soundUnit (d : Declaration) : Nat := d.channels * spf d.rate * 3

/-- Blocks of one reel (R143). -/
def Declaration.reelBlocks (d : Declaration) (r : ReelDecl) : Nat :=
  r.frames * (d.slotBlocks + d.soundBlocks) + r.cues

/-- The window size of a declaration (R143). -/
def Declaration.windowSize (d : Declaration) : Nat := (d.reels.map d.reelBlocks).sum

/-- The reel layout of a window, reel after reel from a block on (R5). -/
def layoutFrom (d : Declaration) : Nat → List ReelDecl → List ReelLayout
  | _, [] => []
  | at0, r :: rest =>
    let sound := at0 + r.frames * d.slotBlocks
    let subtitle := sound + r.frames * d.soundBlocks
    { picture := at0, sound := sound, subtitle := subtitle } :: layoutFrom d (subtitle + r.cues) rest

end Sys2Proof.Machine
end

