-- ==== Sys2Proof/Machine/Windows.lean ====
section
/-! DEFINITION. The window table, placement, the catalogue write queue and the storage fault counts
(chapter 1). -/

namespace Sys2Proof.Machine

open Sys2Proof

/-! ### The window table (R2) -/

/-- Whether a table entry is the window of a package. -/
def isPackage (pid : Nat) : Option TableEntry → Bool
  | none => false
  | some e => e.window.packageId == pid

/-- The window of a package with its index, if it has one. -/
def Storage.find (c : Storage) (pid : Nat) : Option (Nat × TableEntry) :=
  match findFrom (isPackage pid) 0 c.table with
  | some (i, some e) => some (i, e)
  | _ => none

/-- The lowest-numbered empty entry (R2). -/
def Storage.freeEntry (c : Storage) : Option Nat := (findFrom Option.isNone 0 c.table).map Prod.fst

/-- The windows in the table. -/
def Storage.windows (c : Storage) : List Window :=
  c.table.filterMap (fun e => e.map TableEntry.window)

/-- One package's table entry changed. -/
def Storage.modEntry (c : Storage) (pid : Nat) (f : TableEntry → TableEntry) : Storage :=
  { c with table := c.table.map (fun e => if isPackage pid e then e.map f else e) }

/-- One package's window changed. -/
def Storage.modWindow (c : Storage) (pid : Nat) (f : Window → Window) : Storage :=
  c.modEntry pid (fun e => { e with window := f e.window })

/-- One package's record changed. -/
def Storage.modRecord (c : Storage) (pid : Nat) (f : PackageRecord → PackageRecord) : Storage :=
  c.modEntry pid (fun e => { e with record := f e.record })

/-! ### Placement (R4) -/

/-- The block ranges no new window may use: windows and draining ranges, by ascending first block (R4,
R9), as half-open ranges. -/
def Storage.occupied (c : Storage) : List Span :=
  sortBy (fun a b => a.lo ≤ b.lo)
    (c.windows.map (fun w => { lo := w.base, hi := w.limit + 1 })
      ++ c.draining.map (fun d => { lo := d.first, hi := d.last + 1 }))

/-- The gaps from a block on between ranges in ascending order, up to the capacity (R4). -/
def gapsFrom (capacity : Nat) : Nat → List Span → List Span
  | lo, [] => if lo < capacity then [{ lo := lo, hi := capacity }] else []
  | lo, r :: rest =>
    if lo < min r.lo capacity then
      { lo := lo, hi := min r.lo capacity } :: gapsFrom capacity (max lo r.hi) rest
    else gapsFrom capacity (max lo r.hi) rest

/-- The free gaps, ascending (R4). -/
def Storage.gaps (c : Storage) : List Span := gapsFrom c.capacity 4096 c.occupied

/-- The first block of the first gap long enough, none while the catalogue is UNAVAILABLE (R4, R19). -/
def Storage.place (c : Storage) (size : Nat) : Option Nat :=
  if c.status = some .unavailable then none
  else (c.gaps.find? (fun g => size ≤ g.hi - g.lo)).map Span.lo

/-- A window of a declaration at a base block (R4, R5). -/
def newWindow (d : Declaration) (base : Nat) : Window :=
  { packageId := d.packageId, base := base, limit := base + d.windowSize - 1, state := .filling,
    refs := 0, faults := 0, ops := 0, layout := layoutFrom d base d.reels }

/-! ### The catalogue write queue (R16) -/

/-- A request for a slot's write: it joins the tail unless the slot is queued already (R16); while the
catalogue is UNAVAILABLE the queue takes none (R19). -/
def Storage.request (c : Storage) (slot : Nat) : Storage :=
  if c.status = some .unavailable then c
  else if c.queue.any (fun q => q.slot == slot) then c
  else { c with queue := c.queue ++ [{ slot := slot, retry := false }] }

/-- A request for the write of a package's slot. -/
def Storage.requestFor (c : Storage) (pid : Nat) : Storage :=
  match c.find pid with
  | none => c
  | some (i, _) => c.request i

/-- The slot put back for the one retry of its faulted write: at the tail, or where it stands queued,
whose write is then the retry (R17). DEDUCED: notes/assumptions/14.md. -/
def Storage.requeue (c : Storage) (slot : Nat) : Storage :=
  if c.queue.any (fun q => q.slot == slot) then
    { c with queue := c.queue.map (fun q => if q.slot = slot then { q with retry := true } else q) }
  else { c with queue := c.queue ++ [{ slot := slot, retry := true }] }

/-- Whether a write of a slot is in flight. -/
def Storage.slotInFlight (c : Storage) (slot : Nat) : Bool :=
  c.flight.any (fun o => match o.kind with
    | .slotWrite n _ => n == slot
    | _ => false)

/-- The catalogue's waiting request: the oldest queued slot whose write is not in flight (R16). -/
def Storage.catalogueRequest (c : Storage) : Option SlotRequest :=
  c.queue.find? (fun q => !(c.slotInFlight q.slot))

/-! ### Operations against windows (R1, R9, R22) -/

/-- Whether a block lies in a window. -/
def Window.holds (w : Window) (block : Nat) : Bool := w.base ≤ block && block ≤ w.limit

/-- The windows that hold a block changed. -/
def Storage.modAt (c : Storage) (block : Nat) (f : Window → Window) : Storage :=
  { c with table := c.table.map (fun e => e.map (fun e =>
      if e.window.holds block then { e with window := f e.window } else e)) }

/-- A draining entry after the return of one of its operations; at 0 it is gone (R9). -/
def Drain.returned (block : Nat) (d : Drain) : Option Drain :=
  if d.first ≤ block ∧ block ≤ d.last then
    if d.ops ≤ 1 then none else some { d with ops := d.ops - 1 }
  else some d

/-- An operation granted: it is in flight and counts in the window its blocks lie in (R1, R11). -/
def Storage.granted (c : Storage) (o : Operation) : Storage :=
  let c := { c with flight := c.flight ++ [o] }
  match o.kind with
  | .slotWrite _ _ => c
  | _ => c.modAt o.first (fun w => { w with ops := w.ops + 1 })

/-- An operation returned: it leaves the port and the window's or draining range's count falls by one
(R1, R9). -/
def Storage.returned (c : Storage) (index : Nat) (o : Operation) : Storage :=
  let c := { c with flight := removeAt index c.flight }
  match o.kind with
  | .slotWrite _ _ => c
  | _ =>
    let c := c.modAt o.first (fun w => { w with ops := w.ops - 1 })
    { c with draining := c.draining.filterMap (Drain.returned o.first) }

/-- A storage fault in the part count (R22). -/
def Storage.countFault (c : Storage) : Storage := { c with faults := satInc top16 c.faults }

/-- A fault of a lane read or chunk write: the part count, and the window's if the blocks lie in one
(R22). -/
def Storage.countFaultAt (c : Storage) (block : Nat) : Storage :=
  c.countFault.modAt block (fun w => { w with faults := satInc top16 w.faults })

/-- A storage fault of the catalogue: counted, and STORAGE_FAULT raised (R17, R22). -/
def State.catalogueFault (s : State) : State :=
  (s.modStc Storage.countFault).raise srcStorageFault

/-! ### Reporting (R10) -/

/-- The length of a range. -/
def Span.length (g : Span) : Nat := g.hi - g.lo

/-- One window's report with its table index. -/
def windowReport (e : Option TableEntry × Nat) : Option WindowReport :=
  match e.1 with
  | none => none
  | some t =>
    some { index := e.2, packageId := t.window.packageId, state := t.window.state,
           base := t.window.base, limit := t.window.limit, refs := t.window.refs,
           faults := t.window.faults }

/-- The snapshot of QUERY_WINDOWS (R10). -/
def Storage.report (c : Storage) : WindowsReport :=
  { status := c.status, capacity := c.capacity, free := (c.gaps.map Span.length).sum,
    largestGap := (c.gaps.map Span.length).foldl max 0,
    drainingBlocks := (c.draining.map (fun d => d.last + 1 - d.first)).sum,
    count := c.windows.length,
    windows := sortBy (fun a b => a.base ≤ b.base) (c.table.zipIdx.filterMap windowReport) }

end Sys2Proof.Machine
end

