-- ==== Sys2Proof/Machine/Operands.lean ====
section
/-! DEFINITION. Fields of command bodies, frames and records: every multi-byte field is most significant
byte first and signed fields are two's complement (R200); and the first checks of an owner (R194). -/

namespace Sys2Proof.Machine

open Sys2Proof

/-- The byte at an offset. -/
def u8 (b : List Byte) (i : Nat) : Nat := (b.getD i 0#8).toNat

/-- Two bytes at an offset. -/
def u16 (b : List Byte) (i : Nat) : Nat := u8 b i * 256 + u8 b (i + 1)

/-- Three bytes at an offset. -/
def u24 (b : List Byte) (i : Nat) : Nat := u16 b i * 256 + u8 b (i + 2)

/-- Four bytes at an offset. -/
def u32 (b : List Byte) (i : Nat) : Nat := u16 b i * 65536 + u16 b (i + 2)

/-- A three-byte two's complement field at an offset. -/
def s24 (b : List Byte) (i : Nat) : Int :=
  if u24 b i < 8388608 then (u24 b i : Int) else (u24 b i : Int) - 16777216

/-- A four-byte two's complement field at an offset. -/
def s32 (b : List Byte) (i : Nat) : Int :=
  if u32 b i < 2147483648 then (u32 b i : Int) else (u32 b i : Int) - 4294967296

/-- One byte of a number. -/
def b8 (n : Nat) : List Byte := [BitVec.ofNat 8 n]

/-- Two bytes of a number. -/
def b16 (n : Nat) : List Byte := [BitVec.ofNat 8 (n / 256), BitVec.ofNat 8 n]

/-- Three bytes of a number. -/
def b24 (n : Nat) : List Byte := BitVec.ofNat 8 (n / 65536) :: b16 n

/-- Four bytes of a number. -/
def b32 (n : Nat) : List Byte := b16 (n / 65536) ++ b16 n

/-- A source set of a command: source n is bit n mod 8 of byte n / 8 (R200). -/
def sourceSet (b : List Byte) : Nat :=
  u8 b 0 + 256 * (u8 b 1 + 256 * (u8 b 2 + 256 * (u8 b 3 + 256 * (u8 b 4 + 256 * u8 b 5))))

/-- What an owner answers to a command: DONE with its fields and the new state, or one reason (R191). A
refusal carries the state too: a refused CUE raises a count (R79). -/
inductive Answer where
  | done (r : Result) (s : State)
  | refused (why : Reason) (s : State)

/-- The check of a body of one fixed length (R194). -/
def fixedLength (n : Nat) (body : List Byte) (s : State) (k : Answer) : Answer :=
  if body.length = n then k else .refused .badLength s

/-- The check of a lane number and, for all but QUERY_LANE and QUERY_SOUND, of RESETTING (R79, R194). -/
def onLane (inReset : Bool) (body : List Byte) (s : State) (k : LaneId → Answer) : Answer :=
  if h : u8 body 0 < 4 then
    let l : LaneId := ⟨u8 body 0, h⟩
    if (s.lane l).pl.state = .resetting ∧ inReset = false then .refused .busy s else k l
  else .refused .noSuch s

/-- The check of the identity of a package or licence that a command names: 0 is out of range (R194, R24,
R51). DEDUCED in its place before the search for a record: notes/assumptions/29.md. -/
def identity (id : Nat) (s : State) (k : Answer) : Answer := if id = 0 then .refused .badValue s else k

/-- A lane command with a body of one fixed length. -/
def laneCommand (n : Nat) (body : List Byte) (s : State) (k : LaneId → Answer) : Answer :=
  fixedLength n body s (onLane false body s k)

end Sys2Proof.Machine
end

