-- ==== Sys2Proof/Machine/Wire.lean ====
section
/-! DEFINITION. Frame and record formats (section 10.6, R189, R200): checks, catalogue records, cue
records, chunk frames, verdicts and sound blocks. -/

namespace Sys2Proof.Machine

open Sys2Proof

/-! ### Checks -/

/-- A function applied a number of times. -/
def iterate {α : Type} (f : α → α) : Nat → α → α
  | 0, a => a
  | n + 1, a => iterate f n (f a)

/-- One bit of the CRC-16, most significant bit first (R200). -/
def crc16Bit (c : BitVec 16) : BitVec 16 := if c.msb then (c <<< 1) ^^^ 0x1021#16 else c <<< 1

/-- CRC-16 of control frames (R200). -/
def crc16 (bytes : List Byte) : BitVec 16 :=
  bytes.foldl (fun c b => iterate crc16Bit 8 (c ^^^ (b.zeroExtend 16).shiftLeft 8)) 0xFFFF#16

/-- One bit of the CRC-32, least significant bit first, the register shifted right (R200): the
polynomial's bits stand reversed. -/
def crc32Bit (c : BitVec 32) : BitVec 32 :=
  if c.getLsbD 0 then (c >>> 1) ^^^ 0xEDB88320#32 else c >>> 1

/-- CRC-32 of chunk payloads and the catalogue (R200). -/
def crc32 (bytes : List Byte) : BitVec 32 :=
  ~~~ (bytes.foldl (fun c b => iterate crc32Bit 8 (c ^^^ b.zeroExtend 32)) 0xFFFFFFFF#32)

/-! ### Host frames -/

/-- A whole control frame of a kind, tag and body (R189). -/
def hostFrameBytes (kind : Nat) (tag : Byte) (body : List Byte) : List Byte :=
  let counted := b16 (body.length + 2) ++ b8 kind ++ [tag] ++ body
  0xC3#8 :: counted ++ b16 (crc16 counted).toNat

/-- The code of a refusal reason (R194). -/
def Reason.code : Reason → Nat
  | .busy => 0x01 | .overrun => 0x02 | .unknownKind => 0x03 | .badLength => 0x04 | .badValue => 0x05
  | .badState => 0x06 | .noSuch => 0x07 | .noRoom => 0x08 | .noSpace => 0x09 | .screenTaken => 0x0A
  | .held => 0x0B | .rateChange => 0x0C | .licenceNeeded => 0x0D | .licenceSpent => 0x0E
  | .licenceExpired => 0x0F | .licenceNotYet => 0x10 | .licenceRevoked => 0x11 | .logFull => 0x12
  | .timeUnset => 0x13 | .rehearsalOnly => 0x14

/-- A source set as its six bytes (R200). -/
def sourceSetBytes (set : BitVec 44) : List Byte :=
  (List.range 6).map (fun i => BitVec.ofNat 8 (set.toNat / 256 ^ i))

/-! ### Ingest link -/

/-- A CHUNK frame's fields (section 10.6). -/
structure Chunk where
  id : ChunkId
  length : Nat
  payload : List Byte
  crc : Nat
  deriving DecidableEq, Repr

/-- A CHUNK frame read from a whole ingest frame: none when the kind is not CHUNK or the frame is too
short for its identity, payload length and CRC (R29). -/
def parseChunk (frame : List Byte) : Option Chunk :=
  if frame.length < 19 then none
  else if u8 frame 0 ≠ 0x01 then none
  else some
    { id := { packageId := u16 frame 1, track := u8 frame 3, reel := u8 frame 4,
              first := u32 frame 5, count := u16 frame 9 },
      length := u32 frame 11,
      payload := (frame.drop 15).take (frame.length - 19),
      crc := u32 frame (frame.length - 4) }

/-- The code of a verdict (section 10.6). -/
def Verdict.code : Verdict → Nat
  | .taken => 0 | .duplicate => 1 | .retry _ => 2 | .fault => 3 | .refused _ => 4

/-- The code of a RETRY cause (section 10.6). -/
def RetryCause.code : RetryCause → Nat
  | .overlap => 0 | .fragmented => 1 | .stagingFull => 2

/-- The code of an offer's refusal (section 10.6). -/
def OfferRefusal.code : OfferRefusal → Nat
  | .noPackage => 0 | .notFilling => 1 | .outOfRange => 2 | .badSize => 3 | .badCheck => 4
  | .overrun => 5

/-- The further byte of a verdict (section 10.6). -/
def Verdict.further : Verdict → Nat
  | .retry cause => cause.code
  | .refused why => why.code
  | .taken | .duplicate | .fault => 0

/-- A VERDICT frame (section 10.6). -/
def verdictBytes (c : ChunkId) (v : Verdict) (ticket : Bool) : List Byte :=
  b8 0x02 ++ b16 c.packageId ++ b8 c.track ++ b8 c.reel ++ b32 c.first ++ b16 c.count ++ b8 v.code
    ++ b8 v.further ++ b8 (if ticket then 1 else 0)

/-- A LINK_RESET frame (section 10.6). -/
def linkResetBytes : List Byte := b8 0x03

/-! ### Sound blocks -/

/-- A 24-bit two's complement sample, most significant byte first. -/
def sampleBytes (x : Int) : List Byte := b24 (x % 16777216).toNat

/-- A sound block (section 10.6). -/
def SoundBlock.bytes (b : SoundBlock) : List Byte :=
  b8 b.lane.val ++ b8 b.tag ++ (b.samples.map sampleBytes).flatten

/-! ### Cue records -/

/-- The text lines of a cue record: none when a line runs past the block (R144). -/
def cueLines : Nat → List Byte → Option (List (List Byte))
  | 0, _ => some []
  | n + 1, b =>
    if b.length < 2 then none
    else
      let len := u16 b 0
      if b.length < len + 2 then none
      else (cueLines n (b.drop (len + 2))).map (fun rest => (b.drop 2).take len :: rest)

/-- A valid cue record of a stored block, or none when the record is invalid (R144). -/
def parseCue (block : List Byte) : Option CueRecord :=
  let lines := u8 block 15
  let c : CueRecord :=
    { number := u16 block 0, inFrame := u32 block 2, outFrame := u32 block 6, fadeIn := u8 block 10,
      fadeOut := u8 block 11, region := u8 block 12, offset := u8 block 13, style := u8 block 14,
      lines := [] }
  if 1 ≤ c.number ∧ c.inFrame ≤ 216000 ∧ c.outFrame ≤ 216000 ∧ c.fadeIn ≤ 60 ∧ c.fadeOut ≤ 60 ∧
      c.region ≤ 1 ∧ c.offset ≤ 100 ∧ c.style ≤ 15 ∧ 1 ≤ lines ∧ lines ≤ 4 then
    match cueLines lines ((block.take 4096).drop 16) with
    | none => none
    | some ls => if (ls.map List.length).sum ≤ 400 then some { c with lines := ls } else none
  else none

/-! ### Catalogue -/

/-- The catalogue's magic value (R15). -/
def catalogueMagic : Nat := 0x564D4354

/-- The header block's contents: magic, slot count, CRC-32 over the two. DESIGN CHOICE: the slot count is
taken as four bytes, notes/assumptions/8.md; unsafe. -/
def headerBytes : List Byte :=
  let counted := b32 catalogueMagic ++ b32 32
  counted ++ b32 (crc32 counted).toNat

/-- Whether a header block as read is the catalogue's (R19). -/
def headerGood (block : List Byte) : Bool :=
  u32 block 0 == catalogueMagic && u32 block 4 == 32 && u32 block 8 == (crc32 (block.take 8)).toNat

/-- The code of a window state (section 10.6). -/
def WindowState.code : WindowState → Nat
  | .filling => 0 | .complete => 1 | .retiring => 2

/-- Range count and ranges of a track; an absent track has count 0 (section 10.6). -/
def rangesBytes (t : Option Track) : List Byte :=
  let rs := (t.map Track.received).getD []
  b8 rs.length ++ (rs.map (fun r => b32 r.lo ++ b32 r.hi)).flatten

/-- One reel of a slot image. A subtitle start behind a window that ends with block 4,294,967,295 loses its top bit.
DESIGN CHOICE: notes/assumptions/63.md; unsafe. -/
def reelBytes (e : ReelDecl × ReelLayout) : List Byte :=
  b32 e.1.frames ++ b16 e.1.cues ++ b32 e.2.picture ++ b32 e.2.sound ++ b32 e.2.subtitle

/-- The slot image of a table entry (R15, section 10.6). -/
def slotImage (e : TableEntry) : List Byte :=
  let w := e.window
  let d := e.record.decl
  let counted :=
    b16 w.packageId ++ b8 w.state.code ++ b32 w.base ++ b32 w.limit ++ b16 w.faults ++ b8 d.rate
      ++ b8 d.slotBlocks ++ b8 d.channels ++ b8 (if d.licenceRequired then 1 else 0)
      ++ b8 d.reels.length ++ ((d.reels.zip w.layout).map reelBytes).flatten
      ++ (e.record.reels.map (fun r =>
            rangesBytes (some r.picture) ++ rangesBytes r.sound ++ rangesBytes r.subtitle)).flatten
  counted ++ b32 (crc32 counted).toNat

/-- The image of an empty slot: every field 0, and its CRC (section 10.6). -/
def emptyImage : List Byte :=
  let counted := List.replicate 18 0x00#8
  counted ++ b32 (crc32 counted).toNat

/-- A slot image as read, its check already found correct. -/
structure SlotImage where
  packageId : Nat
  state : Nat
  base : Nat
  limit : Nat
  faults : Nat
  rate : Nat
  slotBlocks : Nat
  channels : Nat
  licenceRequired : Nat
  reels : List (ReelDecl × ReelLayout)
  ranges : List (List Span)
  deriving DecidableEq, Repr

/-- The reel entries of a slot image, with the bytes behind them. -/
def parseReels : Nat → List Byte → Option (List (ReelDecl × ReelLayout) × List Byte)
  | 0, b => some ([], b)
  | n + 1, b =>
    if b.length < 18 then none
    else
      let d : ReelDecl := { frames := u32 b 0, cues := u16 b 4 }
      let y : ReelLayout := { picture := u32 b 6, sound := u32 b 10, subtitle := u32 b 14 }
      (parseReels n (b.drop 18)).map (fun r => ((d, y) :: r.1, r.2))

/-- A number of ranges, with the bytes behind them. -/
def parseSpans : Nat → List Byte → Option (List Span × List Byte)
  | 0, b => some ([], b)
  | n + 1, b =>
    if b.length < 8 then none
    else (parseSpans n (b.drop 8)).map (fun r => ({ lo := u32 b 0, hi := u32 b 4 } :: r.1, r.2))

/-- A number of range lists, with the bytes behind them. -/
def parseRanges : Nat → List Byte → Option (List (List Span) × List Byte)
  | 0, b => some ([], b)
  | n + 1, b =>
    if b.length < 1 then none
    else
      match parseSpans (u8 b 0) (b.drop 1) with
      | none => none
      | some (l, rest) => (parseRanges n rest).map (fun r => (l :: r.1, r.2))

/-- A slot image read from a slot's bytes: none when its fields run past the slot or its CRC-32 over
every byte before it is wrong (section 10.6). -/
def parseSlot (b : List Byte) : Option SlotImage :=
  if b.length < 18 then none
  else
    match parseReels (u8 b 17) (b.drop 18) with
    | none => none
    | some (reels, rest) =>
      match parseRanges (3 * u8 b 17) rest with
      | none => none
      | some (ranges, tail) =>
        let counted := b.take (b.length - tail.length)
        if tail.length < 4 ∨ u32 tail 0 ≠ (crc32 counted).toNat then none
        else some
          { packageId := u16 b 0, state := u8 b 2, base := u32 b 3, limit := u32 b 7,
            faults := u16 b 11, rate := u8 b 13, slotBlocks := u8 b 14, channels := u8 b 15,
            licenceRequired := u8 b 16, reels := reels, ranges := ranges }

/-! ### Chunk writes -/

/-- Bytes followed by zeros up to a whole number of blocks (R34). -/
def padToBlock (b : List Byte) : List Byte :=
  b ++ List.replicate ((4096 - b.length % 4096) % 4096) 0x00#8

/-- A payload cut into a number of units of a size, each padded to whole blocks (R34). -/
def paddedUnits (size : Nat) : Nat → List Byte → List Byte
  | 0, _ => []
  | n + 1, b => padToBlock (b.take size) ++ paddedUnits size n (b.drop size)

end Sys2Proof.Machine
end

