-- ==== Sys2Proof/Machine/Ingest.lean ====
section
/-! DEFINITION. The package assembler (chapter 2) and the release of windows (R8): range lists, judging
offers, staging, retry tickets, write returns, completion. -/

namespace Sys2Proof.Machine

open Sys2Proof

/-! ### Range lists (R27, R28) -/

/-- Whether two ranges overlap or touch (R27). -/
def Span.touches (a b : Span) : Bool := a.lo ≤ b.hi && b.lo ≤ a.hi

/-- Whether two ranges share at least one unit (R31). -/
def Span.overlaps (a b : Span) : Bool := a.lo < b.hi && b.lo < a.hi

/-- The least range that holds both. -/
def Span.join (a b : Span) : Span := { lo := min a.lo b.lo, hi := max a.hi b.hi }

/-- A range inserted into a received-range list: every range it overlaps or touches is replaced by one
range over them all, in ascending order (R27). -/
def mergeSpan (l : List Span) (n : Span) : List Span :=
  insertBy (fun a b => a.lo ≤ b.lo) ((l.filter (Span.touches n)).foldl Span.join n)
    (l.filter (fun r => !(Span.touches n r)))

/-- Whether a range lies inside one range of a list (R30 step 6). -/
def inside (l : List Span) (n : Span) : Bool := l.any (fun r => r.lo ≤ n.lo && n.hi ≤ r.hi)

/-- Whether a unit is present (R27). -/
def Track.present (t : Track) (u : Nat) : Bool := t.received.any (fun r => r.lo ≤ u && u < r.hi)

/-- Whether a track is complete: its received-range list is the single range of all its units (R26). -/
def Track.complete (t : Track) : Bool := t.received == [{ lo := 0, hi := t.units }]

/-! ### Package records (R24, R26) -/

/-- A track with empty lists. -/
def Track.empty (units : Nat) : Track := { units := units, received := [], inFlight := [], stalled := [] }

/-- The tracks of a reel of a declaration (R26). -/
def newTracks (d : Declaration) (r : ReelDecl) : ReelTracks :=
  { picture := Track.empty r.frames,
    sound := if 0 < d.channels then some (Track.empty r.frames) else none,
    subtitle := if 0 < r.cues then some (Track.empty r.cues) else none }

/-- The record of a placed declaration (R24). -/
def newRecord (d : Declaration) : PackageRecord :=
  { decl := d, reels := d.reels.map (newTracks d), takenSince := 0, badChecks := 0, writeFaults := 0 }

/-- A reel's track of a kind, if present (R26). -/
def ReelTracks.get (r : ReelTracks) : TrackKind → Option Track
  | .picture => some r.picture
  | .sound => r.sound
  | .subtitle => r.subtitle

/-- A reel's track of a kind changed. -/
def ReelTracks.modify (f : Track → Track) (r : ReelTracks) : TrackKind → ReelTracks
  | .picture => { r with picture := f r.picture }
  | .sound => { r with sound := r.sound.map f }
  | .subtitle => { r with subtitle := r.subtitle.map f }

/-- Every track of a reel changed. -/
def ReelTracks.mapAll (f : Track → Track) (r : ReelTracks) : ReelTracks :=
  { picture := f r.picture, sound := r.sound.map f, subtitle := r.subtitle.map f }

/-- A reel's present tracks with their kinds, in the order of R26. -/
def ReelTracks.present (r : ReelTracks) : List (TrackKind × Track) :=
  (TrackKind.picture, r.picture)
    :: ((r.sound.map (fun t => (TrackKind.sound, t))).toList
      ++ (r.subtitle.map (fun t => (TrackKind.subtitle, t))).toList)

/-- A record's track, if present. -/
def PackageRecord.track (p : PackageRecord) (reel : Nat) (k : TrackKind) : Option Track :=
  match p.reels[reel]? with
  | none => none
  | some r => r.get k

/-- A record's track changed. -/
def PackageRecord.modTrack (p : PackageRecord) (reel : Nat) (k : TrackKind) (f : Track → Track) :
    PackageRecord :=
  { p with reels := modifyAt (fun r => r.modify f k) reel p.reels }

/-- Every track of a record changed. -/
def PackageRecord.mapTracks (p : PackageRecord) (f : Track → Track) : PackageRecord :=
  { p with reels := p.reels.map (ReelTracks.mapAll f) }

/-- Whether every present track of every reel is complete (R42). -/
def PackageRecord.complete (p : PackageRecord) : Bool :=
  p.reels.all (fun r => r.present.all (fun t => t.2.complete))

/-- The kind of a track code (section 10.6). -/
def trackKind : Nat → Option TrackKind
  | 0 => some .picture
  | 1 => some .sound
  | 2 => some .subtitle
  | _ => none

/-- The range of a chunk's units. -/
def ChunkId.span (c : ChunkId) : Span := { lo := c.first, hi := c.first + c.count }

/-! ### Staging slots and tickets (R33, R37, R38) -/

/-- A freed slot passed to the oldest ticket that waits for one, or made FREE (R37). -/
def Assembler.passOn (p : Assembler) (slot : Nat) : Assembler :=
  match findFrom (fun t => t.cause == .stagingFull && t.slot.isNone) 0 p.tickets with
  | none => { p with staging := modifyAt (fun _ => .free) slot p.staging }
  | some (i, t) =>
    { p with staging := modifyAt (fun _ => .reserved t.chunk) slot p.staging,
             tickets := modifyAt (fun t => { t with slot := some slot }) i p.tickets }

/-- Slots freed together: passed on one at a time, lowest number first (R37). -/
def Assembler.passOnAll (p : Assembler) (slots : List Nat) : Assembler :=
  (sortBy (fun a b => a ≤ b) slots).foldl Assembler.passOn p

/-- The lowest-numbered FREE slot (R32). -/
def Assembler.freeSlot (p : Assembler) : Option Nat :=
  (findFrom (fun s => s == Staging.free) 0 p.staging).map Prod.fst

/-- A VERDICT frame for an offer (R29). -/
def State.verdict (s : State) (c : ChunkId) (v : Verdict) (ticket : Bool) : State :=
  s.emit (.verdict c v ticket)

/-- The verdict of an outstanding offer, which stops being outstanding (R29). -/
def State.settleOffer (s : State) (c : ChunkId) (v : Verdict) : State :=
  (s.verdict c v false).modPka (fun p => { p with outstanding := p.outstanding - 1 })

/-- The discard time of a setting, in base ticks (R40). -/
def DiscardSetting.ticks : DiscardSetting → Nat
  | .short => 250
  | .long => 8000

/-- Whether a ticket's age has reached the discard time (R40). -/
def Ticket.expired (now : Nat) (setting : DiscardSetting) (t : Ticket) : Bool :=
  setting.ticks ≤ now - t.created

/-- The expiry of every ticket whose age has reached the discard time: all leave the list, each counted
and INGEST_DISCARD raised, then their reserved slots are freed together (R37, R40, R41). -/
def State.expireTickets (s : State) : State :=
  let dead := s.pka.tickets.filter (Ticket.expired s.clock.ticks s.pka.setting)
  if dead.isEmpty then s
  else
    let p := { s.pka with
      tickets := s.pka.tickets.filter (fun t => !(t.expired s.clock.ticks s.pka.setting)),
      discards := min top16 (s.pka.discards + dead.length) }
    ({ s with pka := p.passOnAll (dead.filterMap Ticket.slot) }).raise srcIngestDiscard

/-! ### Release of a window (R8, R9, R44) -/

/-- Whether a staging slot holds a chunk of a package, not yet orphaned. -/
def Staging.ofPackage (pid : Nat) : Staging → Bool
  | .held c _ => c.packageId == pid
  | .writing c _ orphan => c.packageId == pid && !orphan
  | .free | .reserved _ => false

/-- The chunk of a HELD slot of a package. -/
def Staging.heldOf (pid : Nat) : Staging × Nat → Option (ChunkId × Nat)
  | (.held c _, i) => if c.packageId = pid then some (c, i) else none
  | _ => none

/-- A WRITING slot of a released package keeps its write, which is answered at its return (R44). -/
def Staging.orphaned (pid : Nat) : Staging → Staging
  | .writing c b orphan => .writing c b (orphan || c.packageId == pid)
  | x => x

/-- What PKA does at the release of a package (R44): its tickets leave, its HELD chunks are withdrawn and
answered REFUSED NO_PACKAGE, its WRITING chunks wait for their return, and the freed slots are passed on
together. The verdicts leave in ascending slot number. DESIGN CHOICE: notes/assumptions/43.md; unsafe. -/
def State.dropPackage (s : State) (pid : Nat) : State :=
  let mine := s.pka.tickets.filter (fun t => t.chunk.packageId == pid)
  let held := s.pka.staging.zipIdx.filterMap (Staging.heldOf pid)
  let s := s.modPka (fun p =>
    { p with tickets := p.tickets.filter (fun t => t.chunk.packageId != pid),
             order := p.order.filter (fun n => !(held.any (fun h => h.2 == n))),
             staging := p.staging.map (Staging.orphaned pid) })
  let s := held.foldl (fun s h => s.settleOffer h.1 (.refused .noPackage)) s
  s.modPka (fun p => p.passOnAll (mine.filterMap Ticket.slot ++ held.map Prod.snd))

/-- A window is released: its entry becomes empty, its blocks drain while operations against them are in
flight, its slot's write is requested as empty, and PKA drops the package (R8). -/
def State.release (s : State) (pid : Nat) : State :=
  match s.stc.find pid with
  | none => s
  | some (i, e) =>
    let w := e.window
    let s := s.modStc (fun c =>
      { c with table := modifyAt (fun _ => none) i c.table,
               draining := if 0 < w.ops then
                   c.draining ++ [{ first := w.base, last := w.limit, ops := w.ops }]
                 else c.draining })
    (s.modStc (fun c => c.request i)).dropPackage pid

/-- A queue item naming a package is appended: its window's reference count rises (R6). -/
def State.addReference (s : State) (pid : Nat) : State :=
  s.modStc (fun c => c.modWindow pid (fun w => { w with refs := w.refs + 1 }))

/-- A queue item naming a package leaves its queue: the count falls, and a RETIRING window is released at
0 (R6, R8). -/
def State.dropReference (s : State) (pid : Nat) : State :=
  let s := s.modStc (fun c => c.modWindow pid (fun w => { w with refs := w.refs - 1 }))
  match s.stc.find pid with
  | some (_, e) => if e.window.state = .retiring ∧ e.window.refs = 0 then s.release pid else s
  | none => s

/-! ### Judging an offer (R30, R31) -/

/-- What the tests of R30 and R31 find for an offer. -/
inductive Judgement where
  | refused (why : OfferRefusal)
  | duplicate
  | deferred (cause : RetryCause)
  | accepted
  deriving DecidableEq, Repr

/-- Whether an offer's sizes fit its track (R30 step 4). -/
def sizesFit (d : Declaration) (k : TrackKind) (c : Chunk) : Bool :=
  c.length == c.payload.length &&
  match k with
  | .picture => c.id.count == 1 && 1 ≤ c.length && c.length ≤ d.slotBlocks * 4096 - 4
  | .sound => c.id.count != 0 && c.length == c.id.count * d.soundUnit && c.length ≤ 262144
  | .subtitle => 1 ≤ c.id.count && c.id.count ≤ 64 && c.length == c.id.count * 4096

/-- The tests of R30 steps 3 to 6 and of R31 against a track; `slotReady` says whether a staging slot is
available to the offer. -/
def judgeTrack (d : Declaration) (k : TrackKind) (t : Track) (c : Chunk) (slotReady : Bool) : Judgement :=
  if ¬ c.id.first < t.units ∨ t.units < c.id.first + c.id.count then .refused .outOfRange
  else if !(sizesFit d k c) then .refused .badSize
  else if (crc32 c.payload).toNat ≠ c.crc then .refused .badCheck
  else if inside t.received c.id.span then .duplicate
  else if t.inFlight.any (Span.overlaps c.id.span) then .deferred .overlap
  else if 16 < (mergeSpan t.received c.id.span).length + t.inFlight.length then .deferred .fragmented
  else if !slotReady then .deferred .stagingFull
  else .accepted

/-- The judgement of an offer (R30, R31). While the start-up load runs or awaits the port no offer finds
a record (R30 step 1, R48). -/
def judge (s : State) (c : Chunk) (slotReady : Bool) : Judgement :=
  if s.stc.load ≠ .idle then .refused .noPackage
  else
    match s.stc.find c.id.packageId with
    | none => .refused .noPackage
    | some (_, e) =>
      if e.window.state = .retiring then .refused .notFilling
      else
        match trackKind c.id.track with
        | none => .refused .outOfRange
        | some k =>
          match e.record.track c.id.reel k with
          | none => .refused .outOfRange
          | some t => judgeTrack e.record.decl k t c slotReady

/-- An offer taken into a staging slot (R32). -/
def State.stage (s : State) (c : Chunk) (slot : Nat) : State :=
  let s := s.modPka (fun p =>
    { p with staging := modifyAt (fun _ => .held c.id c.payload) slot p.staging,
             order := p.order ++ [slot], outstanding := p.outstanding + 1 })
  match trackKind c.id.track with
  | none => s
  | some k =>
    s.modStc (fun st => st.modRecord c.id.packageId (fun r => r.modTrack c.id.reel k (fun t =>
      { t with inFlight := insertBy (fun a b => a.lo ≤ b.lo) c.id.span t.inFlight })))

/-- A refused offer's count: BAD_CHECK raises the package's bad-check count (R30 step 5). -/
def State.countRefusal (s : State) (c : ChunkId) (why : OfferRefusal) : State :=
  if why = .badCheck then
    s.modStc (fun st => st.modRecord c.packageId (fun r =>
      { r with badChecks := satInc top16 r.badChecks }))
  else s

/-- An offer that is not a re-offer (R30 to R32, R38). -/
def State.freshOffer (s : State) (c : Chunk) : State :=
  match judge s c s.pka.freeSlot.isSome with
  | .refused why => (s.countRefusal c.id why).verdict c.id (.refused why) false
  | .duplicate => s.verdict c.id .duplicate false
  | .deferred cause =>
    if s.pka.tickets.length < 8 then
      (s.modPka (fun p => { p with tickets := p.tickets ++
        [{ chunk := c.id, cause := cause, created := s.clock.ticks, slot := none }] })).verdict
        c.id (.retry cause) true
    else s.verdict c.id (.retry cause) false
  | .accepted =>
    match s.pka.freeSlot with
    | none => s
    | some slot => s.stage c slot

/-- A handed-over slot that the offer has not taken is freed (R39). -/
def State.handBack (s : State) (slot : Option Nat) : State :=
  s.modPka (fun p => p.passOnAll slot.toList)

/-- A re-offer: its ticket is consumed at its arrival and the offer judged afresh with the slot the
ticket held (R39). A deferred re-offer keeps the same ticket in its place, which may yet expire at the tick it was due
at (R40). DESIGN CHOICE: notes/assumptions/70.md; unsafe. -/
def State.reOffer (s : State) (c : Chunk) (place : Nat) (t : Ticket) : State :=
  let s1 := s.modPka (fun p => { p with tickets := removeAt place p.tickets })
  match judge s1 c (t.slot.isSome || s1.pka.freeSlot.isSome) with
  | .refused why => ((s1.countRefusal c.id why).handBack t.slot).verdict c.id (.refused why) false
  | .duplicate => (s1.handBack t.slot).verdict c.id .duplicate false
  | .deferred cause =>
    let kept := modifyAt (fun t => { t with cause := cause, slot := none }) place s.pka.tickets
    ((s.modPka (fun p => { p with tickets := kept })).handBack t.slot).verdict c.id (.retry cause) true
  | .accepted =>
    match t.slot with
    | some slot => s1.stage c slot
    | none =>
      match s1.pka.freeSlot with
      | none => s1
      | some slot => s1.stage c slot

/-- An arriving offer (R29): a ninth outstanding offer is answered REFUSED OVERRUN unjudged, a matching
live ticket makes it a re-offer. -/
def State.offer (s : State) (c : Chunk) : State :=
  if 8 ≤ s.pka.outstanding then s.verdict c.id (.refused .overrun) false
  else
    match findFrom (fun t => t.chunk == c.id) 0 s.pka.tickets with
    | some (place, t) => s.reOffer c place t
    | none => s.freshOffer c

/-! ### Chunk writes (R34 to R36) -/

/-- The write of a chunk: first block, block count and contents (R34). -/
def chunkBlocks (e : TableEntry) (c : ChunkId) (payload : List Byte) : Nat × Nat × List Byte :=
  let d := e.record.decl
  match e.window.layout[c.reel]?, trackKind c.track with
  | some y, some .picture =>
    (y.picture + c.first * d.slotBlocks, (payload.length + 4 + 4095) / 4096,
      padToBlock (b32 payload.length ++ payload))
  | some y, some .sound =>
    (y.sound + c.first * d.soundBlocks, c.count * d.soundBlocks,
      paddedUnits d.soundUnit c.count payload)
  | some y, some .subtitle => (y.subtitle + c.first, c.count, payload)
  | _, _ => (e.window.base, 0, [])

/-- Lanes woken by a successful write on a track: their fetchers ask again, and their registrations on
every track of that reel are removed (R46). -/
def State.wake (s : State) (pid reel : Nat) (lanes : List LaneId) : State :=
  let s := s.modStc (fun st => st.modRecord pid (fun r =>
    { r with reels := modifyAt (ReelTracks.mapAll (fun t =>
        { t with stalled := t.stalled.filter (fun l => !(lanes.contains l)) })) reel r.reels }))
  lanes.foldl (fun s l => s.modFetch l (fun f =>
    if f.state = .stalled then { f with state := .running } else f)) s

/-- Every registration of a lane withdrawn (R46). -/
def State.dropStalls (s : State) (l : LaneId) : State :=
  s.modStc (fun st => { st with table := st.table.map (fun e => e.map (fun e =>
    { e with record := e.record.mapTracks (fun t =>
        { t with stalled := t.stalled.filter (fun x => x != l) }) })) })

/-- The completion test: a FILLING window whose tracks are all complete becomes COMPLETE, its slot's
write is requested and INGEST_DONE raised (R42). -/
def State.testComplete (s : State) (pid : Nat) : State :=
  match s.stc.find pid with
  | none => s
  | some (i, e) =>
    if e.window.state = .filling ∧ e.record.complete then
      (s.modStc (fun c =>
        (c.modWindow pid (fun w => { w with state := .complete })).request i)).raise srcIngestDone
    else s

/-- A chunk's entry leaves its in-flight range list. -/
def Track.landed (c : ChunkId) (t : Track) : Track :=
  { t with inFlight := t.inFlight.filter (fun r => r != c.span) }

/-- One TAKEN more since the last checkpoint: the 64th requests one and returns the count to 0 (R43). -/
def State.checkpoint (s : State) (pid : Nat) : State :=
  match s.stc.find pid with
  | none => s
  | some (i, e) =>
    if 64 ≤ e.record.takenSince + 1 then
      s.modStc (fun c => (c.modRecord pid (fun r => { r with takenSince := 0 })).request i)
    else s.modStc (fun c => c.modRecord pid (fun r => { r with takenSince := r.takenSince + 1 }))

/-- A chunk write of a live package returns successfully (R35 steps 1 to 5). -/
def State.chunkTaken (s : State) (c : ChunkId) (k : TrackKind) : State :=
  let s := s.modStc (fun st => st.modRecord c.packageId (fun r => r.modTrack c.reel k (fun t =>
    { t.landed c with received := mergeSpan t.received c.span })))
  let s := s.settleOffer c .taken
  let waiting := match s.stc.find c.packageId with
    | none => []
    | some (_, e) => ((e.record.track c.reel k).map Track.stalled).getD []
  let s := (s.wake c.packageId c.reel waiting).checkpoint c.packageId
  s.testComplete c.packageId

/-- A chunk write of a live package returns with a fault (R36); the storage counts are STC's (R22). -/
def State.chunkFaulted (s : State) (c : ChunkId) (k : TrackKind) : State :=
  let s := s.modStc (fun st => st.modRecord c.packageId (fun r =>
    { (r.modTrack c.reel k (Track.landed c)) with writeFaults := satInc top16 r.writeFaults }))
  (s.settleOffer c .fault).raise srcIngestFault

/-- A chunk write of a released package returns: REFUSED NO_PACKAGE whatever the result (R44), and a fault
raises INGEST_FAULT as at any chunk write (R22). -/
def State.orphanReturn (s : State) (c : ChunkId) (ok : Bool) : State :=
  let s := s.settleOffer c (.refused .noPackage)
  if ok then s else s.raise srcIngestFault

/-- A chunk write returns from its staging slot (R35, R36, R44), which is then freed (R37). -/
def State.chunkReturn (s : State) (slot : Nat) (ok : Bool) : State :=
  match s.pka.staging[slot]? with
  | some (.writing c _ orphan) =>
    let s :=
      match orphan, trackKind c.track with
      | false, some k => if ok then s.chunkTaken c k else s.chunkFaulted c k
      | _, _ => s.orphanReturn c ok
    s.modPka (fun p => p.passOn slot)
  | _ => s

/-! ### Readiness (R45) -/

/-- What PKA answers a lane's fetcher for a frame: ready, or missing in the tracks named (R45). -/
inductive Readiness where
  | ready
  | missing (tracks : List TrackKind)
  deriving DecidableEq, Repr

/-- Whether a frame of a reel is ready (R45). -/
def frameReady (s : State) (pid reel f : Nat) : Readiness :=
  match s.stc.find pid with
  | none => .missing []
  | some (_, e) =>
    match e.record.reels[reel]? with
    | none => .missing []
    | some r =>
      let absent := (if r.picture.present f then [] else [TrackKind.picture])
        ++ (match r.sound with
          | none => []
          | some t => if t.present f then [] else [TrackKind.sound])
      if absent.isEmpty then .ready else .missing absent

/-- A stall registered on the tracks a MISSING answer named (R46). -/
def State.registerStall (s : State) (l : LaneId) (pid reel : Nat) (tracks : List TrackKind) : State :=
  s.modStc (fun st => st.modRecord pid (fun r => tracks.foldl (fun r k => r.modTrack reel k (fun t =>
    if t.stalled.contains l then t else { t with stalled := t.stalled ++ [l] })) r))

/-- What PKA answers a cue engine for a reel's subtitle track (R45). -/
inductive SubtitleAnswer where
  | absent
  | incomplete
  | complete (cues : Nat)
  deriving DecidableEq, Repr

/-- The subtitle track of a reel (R45). -/
def subtitleTrack (s : State) (pid reel : Nat) : SubtitleAnswer :=
  match s.stc.find pid with
  | none => .absent
  | some (_, e) =>
    match e.record.track reel .subtitle with
    | none => .absent
    | some t => if t.complete then .complete t.units else .incomplete

/-! ### Reporting (R47) -/

/-- The report of a present track (R47). -/
def trackReport (t : TrackKind × Track) : TrackReport :=
  { kind := t.1, units := t.2.units, complete := t.2.complete, received := t.2.received,
    inFlight := t.2.inFlight, stalled := t.2.stalled }

/-- The snapshot of QUERY_PACKAGE (R47). -/
def packageReport (s : State) (e : TableEntry) (r : ReelTracks) : PackageReport :=
  let all := (e.record.reels.map ReelTracks.present).flatten
  { state := e.window.state, reelCount := e.record.reels.length,
    tracksComplete := (all.filter (fun t => t.2.complete)).length, tracksPresent := all.length,
    takenSince := e.record.takenSince, badChecks := e.record.badChecks,
    writeFaults := e.record.writeFaults,
    ownTickets := (s.pka.tickets.filter (fun t =>
      t.chunk.packageId == e.window.packageId)).length,
    tracks := r.present.map trackReport, setting := s.pka.setting,
    slotsFree := (s.pka.staging.filter (fun x => x == .free)).length,
    slotsReserved := (s.pka.staging.filter (fun x => match x with
      | .reserved _ => true | _ => false)).length,
    slotsHeld := (s.pka.staging.filter (fun x => match x with
      | .held _ _ => true | _ => false)).length,
    slotsWriting := (s.pka.staging.filter (fun x => match x with
      | .writing _ _ _ => true | _ => false)).length,
    tickets := s.pka.tickets.length, outstanding := s.pka.outstanding, discards := s.pka.discards }

end Sys2Proof.Machine
end

