-- ==== Sys2Proof/Machine/Cues.lean ====
section
/-! DEFINITION. The subtitle cue engine (chapter 7): banks, loading, activation, retirement, pauses and
the rebuild after a SEEK. An engine step answers the overlay commands it sends, in order. -/

namespace Sys2Proof.Machine

open Sys2Proof

/-- What an engine step leaves: the engine, and the overlay commands sent so far in order. -/
abbrev CueOut := CueEngine × List ScreenCommand

/-! ### Banks (R146, R147) -/

/-- A bank of the engine. -/
def CueEngine.bank (e : CueEngine) : BankId → Bank
  | .bankA => e.bankA
  | .bankB => e.bankB

/-- One bank changed. -/
def CueEngine.modBank (e : CueEngine) (b : BankId) (f : Bank → Bank) : CueEngine :=
  match b with
  | .bankA => { e with bankA := f e.bankA }
  | .bankB => { e with bankB := f e.bankB }

/-- The bank a take-up uses: A if A is FREE, and B otherwise (R147). -/
def CueEngine.takeBank (e : CueEngine) : BankId := if e.bankA.state = .free then .bankA else .bankB

/-- The bank that records a reel of an item. -/
def CueEngine.bankOf (e : CueEngine) (item reel : Nat) : Option BankId :=
  if e.bankA.state ≠ .free ∧ e.bankA.reel = some (item, reel) then some .bankA
  else if e.bankB.state ≠ .free ∧ e.bankB.reel = some (item, reel) then some .bankB
  else none

/-- A bank at a take-up whose answer is given (R147). -/
def takenBank (item reel frames : Nat) (delta : Int) (answer : SubtitleAnswer) : Bank :=
  { Bank.empty with
    reel := some (item, reel), delta := delta, frames := frames,
    state := match answer with
      | .absent => .loaded
      | .incomplete => .missing
      | .complete _ => .loading,
    awaiting := match answer with
      | .absent | .incomplete => 0
      | .complete n => n }

/-- A reel taken up by the lane's fetcher (R147): a bank records it by PKA's answer, an INCOMPLETE track
raises SUBS_MISSING, a COMPLETE one has the fetcher read its cue records (R148). -/
def State.takeUpReel (s : State) (l : LaneId) (pid item reel frames : Nat) : State :=
  let answer := subtitleTrack s pid reel
  let b := (s.lane l).sce.takeBank
  let s := s.modSce l (fun e => e.modBank b (fun _ =>
    takenBank item reel frames (s.lane l).pl.set.subtitleOffset answer))
  match answer with
  | .absent => s
  | .incomplete =>
    (s.modSce l (fun e => { e with missing := satInc top32 e.missing })).raiseLane l srcSubsMissing
  | .complete n => s.modFetch l (fun f => { f with work := .cues b 0 n })

/-! ### Building a bank (R149) -/

/-- The bank entry of a valid record, or none when its times leave it no frame (R140, R141). -/
def cueEntry (delta : Int) (frames index : Nat) (c : CueRecord) : Option CueEntry :=
  let inAt := cueTime c.inFrame delta frames
  let outAt := cueTime c.outFrame delta frames
  if outAt ≤ inAt then none
  else some
    { number := c.number, inAt := inAt, outAt := outAt,
      fadeIn := scaledFadeIn (outAt - inAt) c.fadeIn c.fadeOut,
      fadeOut := scaledFadeOut (outAt - inAt) c.fadeIn c.fadeOut, region := c.region,
      offset := c.offset, style := c.style, lines := c.lines, index := index }

/-- Bank order: ascending in', then cue number, then cue index (R146). -/
def CueEntry.before (a b : CueEntry) : Bool :=
  a.inAt < b.inAt || (a.inAt == b.inAt && (a.number < b.number
    || (a.number == b.number && a.index ≤ b.index)))

/-- The entries of the records returned, in bank order (R149 steps 1 to 4). -/
def Bank.built (b : Bank) : List CueEntry :=
  sortBy CueEntry.before (b.records.filterMap (fun r =>
    match r.2 with
    | none => none
    | some c => cueEntry b.delta b.frames r.1 c))

/-- A count raised by a number, holding at its top. -/
def satAdd (top n k : Nat) : Nat := min top (n + k)

/-- The bank built in one event when its last cue read has returned; the cues discarded count as bad
(R149). -/
def CueEngine.build (e : CueEngine) (b : BankId) : CueEngine :=
  let k := e.bank b
  if k.state = .loading ∧ k.awaiting = 0 then
    let entries := k.built
    { (e.modBank b (fun k => { k with state := .loaded, entries := entries, cursor := 0, records := [] }))
      with bad := satAdd top32 e.bad (k.records.length - entries.length) }
  else e

/-- A LOADING bank after the return of one of its cue reads: with data the record is taken (R148). -/
def Bank.returned (index : Nat) (r : Returned) (k : Bank) : Bank :=
  { k with awaiting := k.awaiting - 1,
           records := match r with
             | .data block => k.records ++ [(index, parseCue block)]
             | .fault => k.records }

/-- A current-epoch cue read returned: a fault counts as a bad cue whatever has become of the bank; the bank
still LOADING for that take-up takes the return, and its last builds it (R148, R149). -/
def CueEngine.cueReturn (e : CueEngine) (b : BankId) (item reel index : Nat) (r : Returned) : CueEngine :=
  let e := match r with
    | .data _ => e
    | .fault => { e with bad := satInc top32 e.bad }
  if (e.bank b).state = .loading ∧ (e.bank b).reel = some (item, reel) then
    (e.modBank b (Bank.returned index r)).build b
  else e

/-! ### Active slots (R151, R152) -/

/-- The lowest-numbered free slot. -/
def CueEngine.freeSlot (e : CueEngine) : Option (Fin 4) :=
  fours.find? (fun i => (e.active.get i).isNone)

/-- The SHOW of a cue in a slot at an opacity (R153). -/
def showCommand (i : Fin 4) (c : CueEntry) (opacity : Nat) : ScreenCommand :=
  .showCue i.val c.region c.offset c.style opacity c.lines

/-- A slot is freed, with a HIDE unless its cue is hidden. -/
def freeActive (o : CueOut) (i : Fin 4) : CueOut :=
  match o.1.active.get i with
  | none => o
  | some a =>
    ({ o.1 with active := o.1.active.set i none }, if a.hidden then o.2 else o.2 ++ [.hide i.val])

/-- The retire step for one slot (R151 step 1). -/
def retireSlot (f : Nat) (o : CueOut) (i : Fin 4) : CueOut :=
  match o.1.active.get i with
  | none => o
  | some a => if a.cue.outAt ≤ f then freeActive o i else o

/-- A cue enters the lowest free slot with a SHOW, or is dropped when every slot holds one (R151, R152). -/
def enterCue (c : CueEntry) (opacity : Nat) (o : CueOut) : CueOut :=
  match o.1.freeSlot with
  | none => ({ o.1 with dropped := satInc top32 o.1.dropped }, o.2)
  | some i =>
    ({ o.1 with active := o.1.active.set i (some { cue := c, opacity := opacity, hidden := false }) },
      o.2 ++ [showCommand i c opacity])

/-- The enter step: entries reached from the cursor on, up to the first with in' above f; answers how many
were reached (R151 step 2). -/
def enterCues (f : Nat) : List CueEntry → Nat → CueOut → Nat × CueOut
  | [], n, o => (n, o)
  | c :: rest, n, o =>
    if f < c.inAt then (n, o)
    else if f < c.outAt then enterCues f rest (n + 1) (enterCue c (opacityAt c f) o)
    else enterCues f rest (n + 1) o

/-- The update step for one slot that held its cue before the frame (R151 step 3). -/
def updateSlot (f : Nat) (kept : Quad (Option ActiveCue)) (o : CueOut) (i : Fin 4) : CueOut :=
  match kept.get i, o.1.active.get i with
  | some _, some a =>
    let v := opacityAt a.cue f
    if v = a.opacity ∨ a.hidden then o
    else ({ o.1 with active := o.1.active.set i (some { a with opacity := v }) },
          o.2 ++ [.opacity i.val v])
  | _, _ => o

/-- The three steps of a presented frame with a LOADED current bank (R151). -/
def CueEngine.activate (e : CueEngine) (b : BankId) (f : Nat) : CueOut :=
  let o := fours.foldl (retireSlot f) (e, [])
  let k := e.bank b
  let r := enterCues f (k.entries.drop k.cursor) 0 o
  let p := (r.2.1.modBank b (fun k => { k with cursor := k.cursor + r.1 }), r.2.2)
  fours.foldl (updateSlot f o.1.active) p

/-- The rebuild of the active set after a SEEK (R157). -/
def CueEngine.rebuildAt (e : CueEngine) (b : BankId) (f : Nat) : CueOut :=
  let k := e.bank b
  let o := (k.entries.filter (fun c => c.inAt ≤ f && f < c.outAt)).foldl
    (fun o c => enterCue c (rebuildOpacity c f) o) (e, [])
  ({ o.1.modBank b (fun k => { k with cursor := (k.entries.filter (fun c => c.inAt ≤ f)).length })
      with rebuild := false }, o.2)

/-- The bank of the reel being presented becomes current (R150). -/
def CueEngine.enterReel (e : CueEngine) (item reel : Nat) : CueEngine :=
  match e.bankOf item reel with
  | none => e
  | some b => { e with current := some b }

/-- A presented real frame with its reel frame (R150, R151, R157). -/
def CueEngine.presented (e : CueEngine) (item reel f : Nat) : CueOut :=
  let e := e.enterReel item reel
  match e.current with
  | none => (e, [])
  | some b =>
    match (e.bank b).state with
    | .loaded => if e.rebuild then e.rebuildAt b f else e.activate b f
    | .missing => ({ e with rebuild := false }, [])
    | .loading | .free => (e, [])

/-- Every active slot freed, with a HIDE for each that is not hidden, ascending. -/
def CueEngine.hideAll (e : CueEngine) : CueOut := fours.foldl freeActive (e, [])

/-- A reel leaves hand with its last frame: its cues are retired and its bank is FREE (R150). -/
def CueEngine.leaveReel (e : CueEngine) (item reel : Nat) : CueOut :=
  let o := e.hideAll
  match o.1.bankOf item reel with
  | none => o
  | some b => ({ o.1.modBank b (fun _ => Bank.empty) with current := none }, o.2)

/-- A slot hidden by a pause (R155). -/
def hideSlot (o : CueOut) (i : Fin 4) : CueOut :=
  match o.1.active.get i with
  | none => o
  | some a =>
    if a.hidden then o
    else ({ o.1 with active := o.1.active.set i (some { a with hidden := true }) },
          o.2 ++ [.hide i.val])

/-- Entry of the lane to PAUSED by a cause (R155). -/
def CueEngine.paused (e : CueEngine) (cause : PauseCause) : CueOut :=
  match cause with
  | .host | .intermission => (e, [])
  | .pulseLost | .gap => fours.foldl hideSlot (e, [])

/-- A hidden slot shown again at the opacity last sent (R156). -/
def unhideSlot (o : CueOut) (i : Fin 4) : CueOut :=
  match o.1.active.get i with
  | none => o
  | some a =>
    if a.hidden then
      ({ o.1 with active := o.1.active.set i (some { a with hidden := false }) },
        o.2 ++ [showCommand i a.cue a.opacity])
    else o

/-- RESUME (R156). -/
def CueEngine.resumed (e : CueEngine) : CueOut := fours.foldl unhideSlot (e, [])

/-- SEEK (R157). -/
def CueEngine.seek (e : CueEngine) : CueOut :=
  let o := e.hideAll
  ({ o.1 with bankA := Bank.empty, bankB := Bank.empty, current := none, rebuild := true }, o.2)

/-- A stop: the engine empties itself and sends nothing (R158). -/
def CueEngine.emptied (e : CueEngine) : CueEngine :=
  { e with bankA := Bank.empty, bankB := Bank.empty, current := none,
           active := ⟨none, none, none, none⟩, rebuild := false }

/-- An engine step on a lane: the engine's new state, and its overlay commands on the screen link. -/
def State.cueStep (s : State) (l : LaneId) (f : CueEngine → CueOut) : State :=
  let o := f (s.lane l).sce
  (s.modSce l (fun _ => o.1)).toScreenAll l o.2

/-! ### Reporting (R160) -/

/-- A bank's report; its item is given as its index in the queue (R160). -/
def bankReport (queue : List Item) (b : Bank) : BankReport :=
  { state := b.state,
    reel := match b.reel with
      | none => none
      | some (item, reel) =>
        (findFrom (fun i => i.uid == item) 0 queue).map (fun i => (i.1, reel)),
    entries := b.entries.length, cursor := b.cursor }

/-- An active slot's report (R160). -/
def activeReport (a : ActiveCue) : ActiveReport :=
  { number := a.cue.number, inAt := a.cue.inAt, outAt := a.cue.outAt, opacity := a.opacity,
    hidden := a.hidden }

end Sys2Proof.Machine
end

