-- ==== Sys2Proof/Machine/Sound.lean ====
section
/-! DEFINITION. The sound engine (chapter 8): content, wall samples, presented frames, ramp-downs, tick
blocks and the sound link queue; and the clock that produces wall samples up to an instant. -/

namespace Sys2Proof.Machine

open Sys2Proof

/-! ### Content (R130) -/

/-- The slot whose sound an item frame's content is read from: READY or PRESENTED, not read-faulted. -/
def Playout.soundSlot (p : Playout) (item frame : Nat) : Option BufSlot :=
  p.buffer.find? (fun b => b.item == item && b.pos.frame == frame && b.stage != .reading && !b.faulted)

/-- The content of a channel at a content sample index (R130). -/
def Lane.content (n : Lane) (ch : Nat) (c : Int) : Int :=
  match n.sne.item, n.pl.rate with
  | some it, some rate =>
    if c < 0 ∨ it.channels ≤ ch ∨ it.total * spf rate ≤ c.toNat then 0
    else
      match n.pl.soundSlot it.item (c.toNat / spf rate) with
      | none => 0
      | some b => s24 b.sound ((c.toNat % spf rate * it.channels + ch) * 3)
  | _, _ => 0

/-- The channels a ramp store copies: those enabled in the map, and those of the present tick. -/
def Sound.stored (u : Sound) : List Nat :=
  (List.range 16).filter (fun ch =>
    (match u.map[ch]? with
      | none => false
      | some c => c.enabled) || u.latched.any (fun e => e.1 == ch))

/-- The 48 content samples of each channel from the pointer on, C to C + 47 (R169), at a resync too (R134). DEDUCED:
notes/assumptions/74.md; unsafe. -/
def Lane.readAhead (n : Lane) : List (Nat × List Int) :=
  match n.sne.pointer with
  | none => []
  | some c =>
    n.sne.stored.map (fun ch => (ch, (List.range 48).map (fun (j : Nat) => n.content ch (c + j))))

/-- A stored sample of a channel; a channel that was not stored is silent. -/
def Sound.storeAt (u : Sound) (i ch : Nat) : Int :=
  match u.store.find? (fun e => e.1 == ch) with
  | none => 0
  | some e => e.2.getD i 0

/-! ### One wall sample (R166, R169, R171) -/

/-- The wall sample's values for the channels of the tick, from each channel's content and the ramp
factor (R136). -/
def Sound.carry (u : Sound) (r : Nat) (content : Nat → Int) : List Int :=
  u.latched.map (fun e =>
    match u.map[e.1]? with
    | none => 0
    | some c => emitSample (content e.1) r c.gain c.trim)

/-- A correction made: the counts of R177. -/
def SoundCounts.corrected (k : SoundCounts) (repeated : Bool) : SoundCounts :=
  if repeated then { k with repeats := satInc top32 k.repeats }
  else { k with skips := satInc top32 k.skips }

/-- The index carried and the pointer after a wall sample (R166). -/
def sampleMove (c : Int) : Option Correction → Int × Int
  | none => (c, c + 1)
  | some k => if k.repeated then (c - 1, c) else (c + 1, c + 2)

/-- The values of a wall sample of a RUNNING lane under its ramp (R134, R135, R168). -/
def Lane.runningValues (n : Lane) (w : Nat) (idx : Int) : List Int :=
  let u := n.sne
  match u.ramp with
  | .none | .down _ => u.carry 48 (fun ch => n.content ch idx)
  | .up start => u.carry (min 48 (w - start)) (fun ch => n.content ch idx)
  | .resync start =>
    if w - start < 48 then u.carry (47 - (w - start)) (u.storeAt (w - start))
    else u.carry (min 48 (w - start - 48)) (fun ch => n.content ch idx)

/-- The ramp and its store after a wall sample of a RUNNING lane. -/
def rampAfter (w : Nat) (ramp : Ramp) : Ramp :=
  match ramp with
  | .none | .down _ => .none
  | .up start => if w - start < 47 then .up start else .none
  | .resync start => if w - start < 95 then .resync start else .none

/-- The store after a wall sample of a RUNNING lane: kept while a resync's first 48 run. -/
def storeAfter (w : Nat) (ramp : Ramp) (store : List (Nat × List Int)) : List (Nat × List Int) :=
  match ramp with
  | .resync start => if w - start < 47 then store else []
  | .none | .up _ | .down _ => []

/-- A wall sample of a RUNNING lane (R166). -/
def Lane.runningSample (n : Lane) (w : Nat) : Lane :=
  let u := n.sne
  match u.pointer with
  | none => n
  | some c =>
    let k := u.corrections.find? (fun k => k.sample == w)
    let move := sampleMove c k
    { n with sne := { u with
        pointer := some move.2, built := n.runningValues w move.1 :: u.built, sounded := true,
        corrections := u.corrections.filter (fun k => w < k.sample),
        ramp := rampAfter w u.ramp, store := storeAfter w u.ramp u.store,
        counts := match k with
          | none => u.counts
          | some k => u.counts.corrected k.repeated } }

/-- A ramp-down's end: the store is emptied, and the lane is OFF, its pointer unset, or HELD (R169). Frame k,
error, last action, seat pending and the mark of a RESUME stay. DESIGN CHOICE for the last two:
notes/assumptions/56.md; unsafe. -/
def Sound.fallen (u : Sound) : Sound :=
  if u.thenOff then
    { u with state := .off, pointer := none, item := none, ramp := .none, store := [], thenOff := false }
  else { u with state := .held, ramp := .none, store := [] }

/-- The ramp-down's wall sample number. -/
def Sound.downIndex (u : Sound) (w : Nat) : Nat :=
  match u.ramp with
  | .down start => w - start
  | .none | .up _ | .resync _ => 47

/-- A wall sample of a FALLING lane (R169). -/
def Sound.fallingSample (u : Sound) (w : Nat) : Sound :=
  let i := u.downIndex w
  let u := { u with built := u.carry (47 - i) (u.storeAt i) :: u.built, sounded := true }
  if i < 47 then u else u.fallen

/-- One wall sample of a lane; OFF and HELD carry content 0 (R171). -/
def Lane.sample (n : Lane) (w : Nat) : Lane :=
  match n.sne.state with
  | .off | .held => { n with sne := { n.sne with built := n.sne.carry 48 (fun _ => 0) :: n.sne.built } }
  | .running => n.runningSample w
  | .falling => { n with sne := n.sne.fallingSample w }

/-- A number of wall samples of a lane from one on. -/
def Lane.samples (n : Lane) (w : Nat) : Nat → Lane
  | 0 => n
  | k + 1 => (n.sample w).samples (w + 1) k

/-! ### The clock -/

/-- Every wall sample below a number produced, on every lane. -/
def State.produceTo (s : State) (n : Nat) : State :=
  { s with lanes := Quad.ofFn (fun l => (s.lane l).samples s.clock.samples (n - s.clock.samples)),
           clock := { s.clock with samples := max s.clock.samples n } }

/-- The instant of a lane's next injected pulse (R117). -/
def Monitor.injectAt (m : Monitor) : Option Instant := m.injection.map (fun j => j.nextTick * tickUnits)

/-- The instant at which an opened gate's count reaches 16,777,215: that of the 16,777,215th tick, the opening
pulse's tick the first (R119, R120). DEDUCED: notes/assumptions/65.md; unsafe. -/
def Monitor.overflowAt (m : Monitor) : Option Instant :=
  if m.gate.state = .opened ∧ m.gate.opened then some ((m.gate.openTick + 16777214) * tickUnits)
  else none

/-- The timed instants of a lane's monitor. -/
def Monitor.timed (m : Monitor) : List Instant := m.injectAt.toList ++ m.overflowAt.toList

/-- The instant no other event is taken behind: the next base tick, injected pulse or gate overflow
(notes/assumptions/1.md). -/
def State.horizon (s : State) : Instant :=
  (fours.flatMap (fun l => (s.lane l).ftm.timed)).foldl min s.nextBase

/-- An event's instant: not before the last event's, and not behind the horizon. DESIGN CHOICE:
notes/assumptions/1.md; unsafe. -/
def State.takenAt (s : State) (t : Instant) : Instant := max s.clock.now (min t s.horizon)

/-- The clock moved to an instant: the wall samples before it are produced. -/
def State.clockTo (s : State) (t : Instant) : State :=
  let s := s.produceTo (sampleFrom t)
  { s with clock := { s.clock with now := t } }

/-- The instant of the last base tick (R196). -/
def State.lastBase (s : State) : Instant := s.clock.ticks * baseUnits

/-! ### Ramp-downs (R165, R169) -/

/-- A ramp-down begun with the next wall sample, or the course of one already running (R165): one begun at a
stop or entry to IDLE still ends OFF when a pause or gap start finds it running. DESIGN CHOICE:
notes/assumptions/47.md; unsafe. -/
def Lane.rampDown (n : Lane) (w : Nat) (toOff : Bool) : Lane :=
  let u := n.sne
  match u.state with
  | .off => n
  | .running =>
    { n with sne := { u with state := .falling, corrections := [], ramp := .down w,
                             store := n.readAhead, thenOff := toOff } }
  | .falling => { n with sne := { u with thenOff := u.thenOff || toOff } }
  | .held =>
    if toOff then { n with sne := { u with state := .off, pointer := none, item := none } } else n

/-- A lane's ramp-down: to HELD at a pause or a gap start, to OFF at a stop or entry to IDLE. -/
def State.rampDown (s : State) (l : LaneId) (toOff : Bool) : State :=
  s.modLane l (fun n => n.rampDown s.clock.samples toOff)

/-- The values of an OFF wall sample of the present tick, that of a discarded one. -/
def Sound.quiet (u : Sound) : List Int := u.carry 48 (fun _ => 0)

/-- Sound ended at once by a hold or a lane reset (R170). The discarded samples of the present tick stand
as content 0. The mark of a RESUME goes too. DESIGN CHOICE: notes/assumptions/61.md; unsafe. -/
def Sound.ended (u : Sound) : Sound :=
  { u with state := .off, pointer := none, item := none, frame := none, error := none, last := .none,
           corrections := [], ramp := .none, store := [], thenOff := false, seatPending := false,
           resumed := false, built := u.built.map (fun _ => u.quiet), sounded := false }

/-! ### Presented frames (R131, R132, R167) -/

/-- A frame handed to the engine: its item, its item frame, samples per frame, and whether it ends a
gap. -/
structure Handed where
  item : SoundItem
  frame : Nat
  samples : Nat
  gapEnded : Bool
  deriving DecidableEq, Repr

/-- Whether a presented real frame begins a ramp-up (R168). -/
def Sound.rampsUp (u : Sound) (h : Handed) : Bool := u.state != .running || u.resumed || h.gapEnded

/-- The engine RUNNING with a presented frame: corrections abandoned, a ramp-down cut off (R167). -/
def Sound.running (u : Sound) (h : Handed) (up : Bool) (w : Nat) : Sound :=
  { u with state := .running, item := some h.item, frame := some h.frame, corrections := [],
           thenOff := false, resumed := false,
           ramp := if up then .up w else match u.ramp with
             | .down _ => .none
             | r => r,
           store := if up then [] else match u.ramp with
             | .resync _ => u.store
             | .none | .up _ | .down _ => [] }

/-- A presented real frame of an item with sound, at its wall sample (R131 to R134, R167). At a frame k > 0 the
pointer is compared as it stands, whichever item it was set in. DESIGN CHOICE: notes/assumptions/59.md; unsafe. The
error kept at a seat is taken from the pointer as it stands too, at k = 0 of a new item from that left by the old item.
DESIGN CHOICE: notes/assumptions/81.md; unsafe. -/
def Lane.soundFrame (n : Lane) (h : Handed) (w : Nat) : Lane :=
  let target := soundTarget h.frame h.samples n.pl.set.soundDelay
  let up := n.sne.rampsUp h
  let u := n.sne.running h up w
  match n.sne.pointer with
  | none =>
    { n with sne := { u with pointer := some target, error := none, last := .seat, seatPending := false } }
  | some c =>
    let e := c - target
    if h.frame = 0 ∨ n.sne.seatPending then
      { n with sne := { u with pointer := some target, error := some e, last := .seat,
                               seatPending := false } }
    else if e.natAbs ≤ n.pl.set.resyncLimit then
      { n with sne := { u with pointer := some c, error := some e, last := .slip (slipOf e n.pl.set.maxSlip),
                               corrections := slipSchedule w h.samples (slipOf e n.pl.set.maxSlip) } }
    else
      { n with sne := { u with
          pointer := some target, error := some e, last := .resync,
          ramp := if up then .up w else .resync w,
          store := if up then [] else n.readAhead,
          counts := { u.counts with resyncs := satInc top32 u.counts.resyncs } } }

/-- Whether a presented real frame is a resync (R132). -/
def Lane.resyncs (n : Lane) (h : Handed) : Bool :=
  match n.sne.pointer with
  | none => false
  | some c =>
    h.frame ≠ 0 && !n.sne.seatPending
      && n.pl.set.resyncLimit
        < (c - soundTarget h.frame h.samples n.pl.set.soundDelay).natAbs

/-- A presented frame of an item without sound: C is set to the target, no error is computed, and no
ramp is made (R131, R167). A BLACK frame that ends a gap ends it for the engine too: no later frame ramps up
for it. DESIGN CHOICE: notes/assumptions/48.md; unsafe. A real frame of a COMPOSITION without channels clears seat
pending, a BLACK frame does not. DESIGN CHOICE: notes/assumptions/75.md; unsafe. -/
def Lane.silentFrame (n : Lane) (h : Handed) (w : Nat) (real : Bool) : Lane :=
  let u := n.sne.running h false w
  let u := { u with pointer := some (soundTarget h.frame h.samples n.pl.set.soundDelay) }
  { n with sne :=
      if real then { u with error := none, last := .none, seatPending := false }
      else { u with frame := n.sne.frame, seatPending := n.sne.seatPending, resumed := n.sne.resumed } }

/-- A BufSlot freed by the pointer: PRESENTED, and of an item that is abandoned or with its sound's end at
or before the pointer (R92, R175). -/
def Sound.passes (u : Sound) (samples : Nat) (b : BufSlot) : Bool :=
  b.stage == .presented &&
    match u.item, u.pointer with
    | some it, some c => b.item != it.item || ((b.pos.frame + 1) * samples : Nat) ≤ c
    | _, _ => false

/-- The engine's report of C to its lane (R175). -/
def Lane.reported (n : Lane) : Lane :=
  match n.pl.rate with
  | none => n
  | some rate =>
    { n with pl := { n.pl with buffer := n.pl.buffer.filter (fun b => !(n.sne.passes (spf rate) b)) } }

/-- A presented frame handed to the engine at the present wall sample, and the report that follows it. -/
def State.soundPresented (s : State) (l : LaneId) (h : Handed) (real : Bool) : State :=
  let w := s.clock.samples
  if real ∧ 0 < h.item.channels then
    let r := (s.lane l).resyncs h
    let s := s.modLane l (fun n => (n.soundFrame h w).reported)
    if r then s.raiseLane l srcSoundResync else s
  else s.modLane l (fun n => (n.silentFrame h w real).reported)

/-! ### Tick blocks and the sound link queue (R171 to R174) -/

/-- The lane's blocks of a tick that ends (R171). -/
def Sound.blocks (u : Sound) (l : LaneId) : List SoundBlock :=
  u.latched.zipIdx.map (fun e =>
    { lane := l, tag := e.1.2, samples := u.built.reverse.map (fun v => v.getD e.2 0) })

/-- The block set of the next tick begun: channels and tags read at its start (R164, R171). -/
def Sound.nextTick (u : Sound) : Sound :=
  { u with latched := Channel.latch u.map, built := [], sounded := false }

/-- The oldest block sent as the answer to a ready (R174). -/
def State.answerReady (s : State) : State :=
  match s.link.queue with
  | [] => s
  | b :: rest =>
    { (s.emit (.soundBlock b)) with
      link := { s.link with queue := rest, ready := false, sent := satInc top32 s.link.sent } }

/-- A lane's blocks offered for its tick: all admitted, or the tick dropped (R172, R173). A pending ready is
answered by the first block admitted. -/
def State.offerBlocks (s : State) (l : LaneId) (blocks : List SoundBlock) : State :=
  let count := fun (f : SoundCounts → SoundCounts) =>
    s.modSne l (fun u => { u with counts := f u.counts })
  if s.link.queue.length + blocks.length ≤ 1024 then
    let s := count (fun k =>
      { k with offered := satInc top32 k.offered, admitted := satInc top32 k.admitted,
               blocks := min top32 (k.blocks + blocks.length) })
    let s := { s with link := { s.link with queue := s.link.queue ++ blocks } }
    if s.link.ready then s.answerReady else s
  else
    let s := count (fun k =>
      { k with offered := satInc top32 k.offered, dropped := satInc top32 k.dropped })
    ({ s with link := { s.link with dropped := satInc top32 s.link.dropped } }).raise srcSoundDrop

/-- A lane's tick closed: its blocks offered if it sounded and its screen is not in HOLD (R171). A lane
with no enabled channel makes no block and offers none. -/
def State.closeTick (s : State) (l : LaneId) : State :=
  let u := (s.lane l).sne
  let s := if u.sounded && !(s.laneHeld l) && !u.latched.isEmpty then s.offerBlocks l (u.blocks l) else s
  s.modSne l Sound.nextTick

/-! ### Reporting (R176) -/

/-- The start of a ramp, the wall sample its position is counted from. -/
def Ramp.start : Ramp → Option Nat
  | .none => Option.none
  | .up i | .down i | .resync i => some i

/-- The snapshot of QUERY_SOUND (R176); the ramp's position is the count of its wall samples produced. -/
def soundReport (s : State) (l : LaneId) : SoundReport :=
  let n := s.lane l
  let u := n.sne
  { state := u.state, pointer := u.pointer, spf := n.pl.rate.map spf, frame := u.frame,
    error := u.error, last := u.last, corrections := u.corrections, ramp := u.ramp,
    rampAt := u.ramp.start.map (fun i => s.clock.samples - i), seatPending := u.seatPending,
    map := u.map, counts := u.counts, held := s.link.queue.length, free := 1024 - s.link.queue.length,
    ready := s.link.ready, sent := s.link.sent, starved := s.link.starved, dropped := s.link.dropped }

end Sys2Proof.Machine
end

