-- ==== Sys2Proof/Machine/Monitor.lean ====
section
/-! DEFINITION. The frame monitor's gate counter, its rate watch and its snapshot (chapter 5). -/

namespace Sys2Proof.Machine

open Sys2Proof

/-! ### The gate counter (R118 to R120) -/

/-- The top of a gate's tick count (R118). -/
def gateTop : Nat := 16777215

/-- A gate just opened, waiting for its opening pulse (R119). -/
def Gate.start (owner : GateOwner) (length : Option Nat) : Gate :=
  { Gate.reset with owner := owner, state := .opened, length := length }

/-- A gate's opening pulse taken at an instant, which the monitor reads as the tick at or just before it, as it
reads every pulse's (R110, R119). DEDUCED: notes/assumptions/62.md; unsafe. -/
def Gate.openAt (g : Gate) (now : Instant) : Gate := { g with opened := true, openTick := tickAt now }

/-- The ticks counted so far: from the opening pulse's tick up to, not including, that at or just before the
present instant (R119), so that a VALID gate has at least 4,000 (R111, R137). DEDUCED: notes/assumptions/62.md;
unsafe. -/
def Gate.ticks (g : Gate) (now : Instant) : Nat :=
  if g.opened then min gateTop (tickAt now - g.openTick) else 0

/-- A gate ended VALID with L and N: measured rate, and deviation if a running rate stands (R120). -/
def Gate.valid (g : Gate) (rate : Option Nat) (length ticks : Nat) : Gate :=
  { g with state := .done, result := some .valid, count := ticks, rate := some (measuredRate length ticks),
           deviation := rate.map (Machine.deviation (measuredRate length ticks)) }

/-- A gate ended DONE with another result and a tick count (R120, R122). -/
def Gate.doneWith (g : Gate) (r : GateResult) (ticks : Nat) : Gate :=
  { g with state := .done, result := some r, count := ticks }

/-- A gate cut off, its counts as they stand (R123). -/
def Gate.abort (g : Gate) (r : GateResult) (now : Instant) : Gate :=
  { g with state := .aborted, result := some r, count := g.ticks now }

/-- One lane's gate record changed. -/
def State.modGate (s : State) (l : LaneId) (f : Gate → Gate) : State :=
  s.modFtm l (fun m => { m with gate := f m.gate })

/-- GATE raised at the end of a host gate (R120, R123). -/
def State.raiseGate (s : State) (l : LaneId) (owner : GateOwner) : State :=
  if owner = .host then s.raiseLane l srcGate else s

/-- An OPEN gate of any owner aborted with a result; GATE is raised for HOST (R123). -/
def State.abortGate (s : State) (l : LaneId) (r : GateResult) : State :=
  let g := (s.lane l).ftm.gate
  if g.state = .opened then (s.modGate l (fun g => g.abort r s.clock.now)).raiseGate l g.owner else s

/-! ### Lane faults and the watch (R96, R126, R127) -/

/-- A fault of a lane: kept as its last fault, and LANE_FAULT raised (R74). -/
def State.laneFault (s : State) (l : LaneId) (f : LaneFault) : State :=
  (s.modPl l (fun p => { p with fault := some f })).raiseLane l srcLaneFault

/-- The watch begins running: an open host gate is aborted and a WATCH gate opened (R126). -/
def State.beginWatch (s : State) (l : LaneId) : State :=
  (s.abortGate l .aborted).modFtm l (fun m =>
    { m with watch := true, gate := Gate.start .watch (some 32) })

/-- The watch stops running: its open gate is aborted (R126). -/
def State.endWatch (s : State) (l : LaneId) (r : GateResult) : State :=
  let m := (s.lane l).ftm
  let s := if m.watch ∧ m.gate.owner = .watch then s.abortGate l r else s
  s.modFtm l (fun m => { m with watch := false })

/-- A watch gate's verdict: the count, and RATE_OUT, whose change raises RATE_WARN (R127). -/
def State.verdictOf (s : State) (l : LaneId) (rateOut : Bool) : State :=
  let was := (s.lane l).ftm.rateOut
  let s := s.modFtm l (fun m =>
    { m with watchGates := satInc top32 m.watchGates, rateOut := rateOut })
  if was = rateOut then s else s.raiseLane l srcRateWarn

/-- A lane enters PLAYING; the watch begins if its setting is on (R126). -/
def State.enterPlaying (s : State) (l : LaneId) : State :=
  let s := s.modPl l (fun p => { p with state := .playing })
  if (s.lane l).pl.set.rateWatch then s.beginWatch l else s

/-- The check gate fails: the lane is CUED with a fault (R96). -/
def State.failCheck (s : State) (l : LaneId) (f : LaneFault) : State :=
  (s.modPl l (fun p => { p with state := .cued })).laneFault l f

/-- The check gate passes: the lane is PLAYING, with the watch running if its setting is on. The record
stays CHECK until the next counted pulse, which opens the first watch gate (R125 and its example). -/
def State.passCheck (s : State) (l : LaneId) : State :=
  s.modLane l (fun n =>
    { n with pl := { n.pl with state := .playing }, ftm := { n.ftm with watch := n.pl.set.rateWatch } })

/-- The judgement of a VALID check gate (R125). -/
def State.judgeCheck (s : State) (l : LaneId) (deviation : Option Int) : State :=
  if (deviation.getD 0).natAbs ≤ (s.lane l).pl.set.tolerance then s.passCheck l
  else s.failCheck l .rateMismatch

/-! ### The ends of a gate -/

/-- What the owner of a gate that has ended VALID does: GATE, the lane's judgement, or the watch's verdict
and its next gate, which this same pulse opens (R120, R126). -/
def State.ownerValid (s : State) (l : LaneId) (owner : GateOwner) (deviation : Option Int) : State :=
  match owner with
  | .host => s.raiseGate l .host
  | .check => s.judgeCheck l deviation
  | .watch =>
    (s.verdictOf l ((s.lane l).pl.set.tolerance < (deviation.getD 0).natAbs)).modGate l
      (fun _ => (Gate.start .watch (some 32)).openAt s.clock.now)

/-- A counted pulse taken by the gate counter (R114, R119); with the watch running and no gate open it is
the opening pulse of a watch gate (R125). -/
def State.gatePulse (s : State) (l : LaneId) : State :=
  let g := (s.lane l).ftm.gate
  if g.state ≠ .opened then
    if (s.lane l).ftm.watch then
      s.modGate l (fun _ => (Gate.start .watch (some 32)).openAt s.clock.now)
    else s
  else if g.opened = false then s.modGate l (fun g => g.openAt s.clock.now)
  else
    let k := satInc top32 g.pulses
    let g := { g with pulses := k, count := g.ticks s.clock.now }
    if g.length = some k then
      let v := g.valid (s.lane l).pl.rate k g.count
      (s.modGate l (fun _ => v)).ownerValid l g.owner v.deviation
    else s.modGate l (fun _ => g)

/-- The overflow of a gate (R120, R125, R127). -/
def State.gateOverflow (s : State) (l : LaneId) : State :=
  let g := (s.lane l).ftm.gate
  let s := s.modGate l (fun g => g.doneWith .overflow gateTop)
  match g.owner with
  | .host => s.raiseGate l .host
  | .check => s.failCheck l .rateMismatch
  | .watch => (s.verdictOf l true).modGate l (fun _ => Gate.start .watch (some 32))

/-- The gate at GATE_STOP (R122). -/
def Gate.stopped (g : Gate) (rate : Option Nat) (now : Instant) : Gate :=
  match g.length with
  | some _ => g.abort .aborted now
  | none =>
    if g.opened ∧ 1 ≤ g.pulses then g.valid rate g.pulses g.count
    else g.doneWith .noPulses (g.ticks now)

/-- A setting of the divider: the phase is 0, and an open gate is aborted (R115). A watch gate's record is
replaced at once by the new watch gate that waits for the next counted pulse (R126). DEDUCED:
notes/assumptions/52.md; unsafe. -/
def State.setDivider (s : State) (l : LaneId) : State :=
  let g := (s.lane l).ftm.gate
  let s := (s.abortGate l .aborted).modFtm l (fun m => { m with phase := 0 })
  if g.state = .opened then
    match g.owner with
    | .host => s
    | .check => s.failCheck l .rateMismatch
    | .watch => s.modGate l (fun _ => Gate.start .watch (some 32))
  else s

/-- The rate watch set while the lane is PLAYING or not (R126, R127). -/
def State.setWatch (s : State) (l : LaneId) (on : Bool) : State :=
  let n := s.lane l
  if on then
    if n.pl.state = .playing ∧ n.ftm.watch = false then s.beginWatch l else s
  else
    let s := s.endWatch l .aborted
    if n.ftm.rateOut then (s.modFtm l (fun m => { m with rateOut := false })).raiseLane l srcRateWarn
    else s

/-- The injection run of a lane ended (R117). -/
def State.endInjection (s : State) (l : LaneId) : State := s.modFtm l (fun m => { m with injection := none })

/-! ### Conditioning (R111, R112, R114) -/

/-- Whether the glitch filter accepts a pulse at a tick (R111). -/
def Monitor.accepts (m : Monitor) (tick : Nat) : Bool :=
  match m.lastAccepted with
  | none => true
  | some last => last + 4000 ≤ tick

/-- The loss timer restarted at 0 (R112). Restarted at a base tick's own instant before that tick, it does not rise
with it: the expiry comes more than loss time - 1 ms behind the restart. DEDUCED: notes/assumptions/72.md; unsafe. -/
def Monitor.restartLoss (m : Monitor) (atNextBase : Bool) : Monitor :=
  { m with lossTimer := some 0, lossFresh := atNextBase }

/-- The loss timer at a base tick: a running one rises, but for one restarted at the tick's own instant (R112). -/
def Monitor.lossTick (m : Monitor) : Monitor :=
  { m with lossTimer := if m.lossFresh then m.lossTimer else m.lossTimer.map (fun k => k + 1), lossFresh := false }

/-- An accepted pulse up to the divider: instant, count, pulse-absent, loss timer (R111, R112). -/
def Monitor.accept (m : Monitor) (tick : Nat) (atNextBase : Bool) : Monitor :=
  { m.restartLoss atNextBase with
      lastAccepted := some tick, accepted := satInc top32 m.accepted, absent := false }

/-- Whether the divider passes an accepted pulse (R114). -/
def Monitor.passes (m : Monitor) (divider : Nat) : Bool := divider != 2 || m.phase == 1

/-- The divider's phase after an accepted pulse, and the counted pulse count (R114). -/
def Monitor.divide (m : Monitor) (divider : Nat) : Monitor :=
  let m := if m.passes divider then { m with counted := satInc top32 m.counted } else m
  { m with phase := if divider = 2 then 1 - m.phase else 0 }

/-! ### The monitor at a lane reset (R128) -/

/-- The monitor after a lane reset; the gate has been aborted already. -/
def Monitor.laneReset (m : Monitor) (rebound : Bool) : Monitor :=
  let m := { m with phase := 0, watch := false, rateOut := false, injection := none }
  if rebound then { m with lastAccepted := none, lossTimer := none, lossFresh := false, absent := true } else m

/-! ### Reporting (R124) -/

/-- The gate record's fields at an instant: while a gate counts, N is the ticks counted so far (R119). -/
def Gate.fields (g : Gate) (now : Instant) : GateFields :=
  { owner := g.owner, state := g.state, length := g.length, opened := g.opened, pulses := g.pulses,
    ticks := if g.state = .opened then g.ticks now else g.count, result := g.result, rate := g.rate,
    deviation := g.deviation }

/-- The snapshot of QUERY_GATE (R124). DESIGN CHOICE: with the injection stopped its remaining count and Q
are 0, notes/assumptions/45.md; unsafe. -/
def gateReport (s : State) (l : LaneId) : GateReport :=
  let n := s.lane l
  let m := n.ftm
  { gate := m.gate.fields s.clock.now, divider := n.pl.set.divider, phase := m.phase,
    absent := m.absent, lossTimer := m.lossTimer, lossTime := n.pl.set.lossTime,
    rateWatch := n.pl.set.rateWatch, watch := m.watch, rateOut := m.rateOut,
    tolerance := n.pl.set.tolerance, watchGates := m.watchGates, injecting := m.injection.isSome,
    remaining := (m.injection.map Injection.remaining).getD 0, q := (m.injection.map Injection.q).getD 0,
    accepted := m.accepted, glitches := m.glitches, counted := m.counted,
    lossExpiries := m.lossExpiries }

end Sys2Proof.Machine
end

