-- ==== Sys2Proof/Machine/Showing.lean ====
section
/-! DEFINITION. The showing counter (chapter 3): licence states, promotion, showing records, the log. -/

namespace Sys2Proof.Machine

open Sys2Proof

/-! ### Licences (R51, R52) -/

/-- The state a licence has at a booth time (R52). -/
def Licence.state (booth : Option Nat) (c : Licence) : LicenceState :=
  if c.revoked then .revoked
  else if (match booth with
    | none => false
    | some t => c.notAfter < t) then .expired
  else if 0 < c.maxShowings ∧ c.count = c.maxShowings then .spent
  else .valid

/-- The record of a licence id. -/
def Showings.find (h : Showings) (id : Nat) : Option Licence := h.licences.find? (fun c => c.id == id)

/-- One licence record changed. -/
def Showings.modLicence (h : Showings) (id : Nat) (f : Licence → Licence) : Showings :=
  { h with licences := h.licences.map (fun c => if c.id = id then f c else c) }

/-- Whether a reservation's stage counts in its licence's held number (R57). -/
def Stage.holds : Stage → Bool
  | .promoted => true
  | .showing _ => true
  | .qualified _ => false

/-- Every reservation of every lane. -/
def Showings.allReservations (h : Showings) : List Reservation := h.reservations.toList.flatten

/-- A licence's held number: its reservations in stage PROMOTED or SHOWING (R51). -/
def Showings.heldOf (h : Showings) (id : Nat) : Nat :=
  (h.allReservations.filter (fun r => r.licenceId == id && r.stage.holds)).length

/-- The licences evaluated at a change of booth time: one that becomes EXPIRED from VALID or SPENT raises
LICENCE_EXPIRED (R52). -/
def State.expireLicences (s : State) (before after : Option Nat) : State :=
  if s.shc.licences.any (fun c =>
      (c.state before == .valid || c.state before == .spent) && c.state after == .expired) then
    s.raise srcLicenceExpired
  else s

/-- Booth time set to a value, and every licence evaluated (R52, R196, R197). -/
def State.setBooth (s : State) (t : Nat) : State :=
  ({ s with clock := { s.clock with booth := some t } }).expireLicences s.clock.booth (some t)

/-! ### The log (R67, R68) -/

/-- Log slots held by PROMOTED reservations (R67). -/
def Showings.heldSlots (h : Showings) : Nat :=
  (h.allReservations.filter (fun r => r.stage == .promoted)).length

/-- Log occupancy: held slots, open records and closed uncollected records (R67). -/
def Showings.occupancy (h : Showings) : Nat := h.heldSlots + h.log.length

/-- One record of the log changed. -/
def Showings.modRecord (h : Showings) (seq : Nat) (f : ShowRecord → ShowRecord) : Showings :=
  { h with log := h.log.map (fun r => if r.seq = seq then f r else r) }

/-- Whether a record is open. -/
def ShowRecord.isOpen (r : ShowRecord) : Bool := r.outcome == .opened

/-! ### Promotion (R58) -/

/-- The reason a promotion fails, checks in the order of R58, or none when it passes. -/
def promotionFailure (s : State) (licenceId packageId : Nat) : Option Reason :=
  match s.clock.booth with
  | none => some .timeUnset
  | some now =>
    match s.shc.find licenceId with
    | none => some .noSuch
    | some c =>
      if c.packageId ≠ packageId then some .badValue
      else if c.state (some now) = .revoked then some .licenceRevoked
      else if c.state (some now) = .expired then some .licenceExpired
      else if now < c.notBefore then some .licenceNotYet
      else if c.maxShowings ≠ 0 ∧ c.maxShowings ≤ c.count + s.shc.heldOf licenceId then
        some .licenceSpent
      else if 256 ≤ s.shc.occupancy ∨ top32 < s.shc.nextSeq then some .logFull
      else none

/-- A passed promotion: a reservation in PROMOTED at the tail of the lane's, with the item's qualify mark;
LOG_NEAR_FULL when occupancy rises from 239 to 240 (R58, R68, R139). -/
def State.reserve (s : State) (l : LaneId) (licenceId packageId total : Nat) : State :=
  match s.shc.find licenceId with
  | none => s
  | some c =>
    let r : Reservation :=
      { screen := (s.lane l).pl.screen, licenceId := licenceId, packageId := packageId,
        mark := qualifyMark total c.percent, stage := .promoted }
    let near := s.shc.occupancy = 239
    let s := { s with shc := { s.shc with
      reservations := s.shc.reservations.set l (s.shc.reservations.get l ++ [r]) } }
    if near then s.raise srcLogNearFull else s

/-- A lane's reservations changed. -/
def State.modReservations (s : State) (l : LaneId) (f : List Reservation → List Reservation) : State :=
  { s with shc := { s.shc with reservations := s.shc.reservations.set l (f (s.shc.reservations.get l)) } }

/-! ### Showing records (R60 to R65) -/

/-- The showing of the lane's first reservation qualifies when its record's real frames equal the mark
(R62): in LIVE the count rises, in both modes held falls with the stage, the time is kept and SHOW_COUNTED
raised. -/
def State.testQualify (s : State) (l : LaneId) : State :=
  match s.shc.reservations.get l with
  | r :: rest =>
    match r.stage with
    | .showing seq =>
      match s.shc.log.find? (fun x => x.seq == seq) with
      | none => s
      | some x =>
        if x.real = r.mark ∧ x.qualify = none then
          let h := s.shc.modRecord seq (fun x => { x with qualify := s.clock.booth })
          let h := if h.mode = .live then
              h.modLicence r.licenceId (fun c => { c with count := satInc top16 c.count })
            else h
          ({ s with shc := { h with
            reservations := h.reservations.set l ({ r with stage := .qualified seq } :: rest) }
            }).raiseLane l srcShowCounted
        else s
    | .promoted | .qualified _ => s
  | [] => s

/-- A real frame of a licensed item presented: its first creates the record in the held slot (R60), a
later one raises the record's count (R61); the qualification test follows. The counter goes on behind
4,294,967,295 for items promoted before. DESIGN CHOICE: notes/assumptions/50.md; unsafe. -/
def State.showReal (s : State) (l : LaneId) : State :=
  match s.shc.reservations.get l with
  | r :: rest =>
    match r.stage with
    | .promoted =>
      let x : ShowRecord :=
        { seq := s.shc.nextSeq, licenceId := r.licenceId, packageId := r.packageId, lane := l,
          screen := r.screen, rehearsal := s.shc.mode == .rehearsal, start := s.clock.booth,
          qualify := none, ended := none, real := 1, fill := 0, outcome := .opened, cause := none }
      ({ s with shc := { s.shc with
        log := s.shc.log ++ [x], nextSeq := s.shc.nextSeq + 1,
        reservations := s.shc.reservations.set l
          ({ r with stage := .showing s.shc.nextSeq } :: rest) } }).testQualify l
    | .showing seq | .qualified seq =>
      ({ s with shc := s.shc.modRecord seq (fun x => { x with real := satInc top32 x.real })
        }).testQualify l
  | [] => s

/-- A fill frame presented for a licensed item: it counts in an open record (R60, R61). -/
def State.showFill (s : State) (l : LaneId) : State :=
  match s.shc.reservations.get l with
  | r :: _ =>
    match r.stage with
    | .promoted => s
    | .showing seq | .qualified seq =>
      { s with shc := s.shc.modRecord seq (fun x => { x with fill := satInc top32 x.fill }) }
  | [] => s

/-- The outcome of a close (R63, R64). -/
def closeOutcome (cause : EndCause) (qualified : Bool) : ShowOutcome :=
  match cause, qualified with
  | .itemEnd, true => .complete
  | .itemEnd, false => .short
  | _, true => .countedEarlyEnd
  | _, false => .abandoned

/-- The record of a reservation closed, if it has one (R63, R64); a reservation without a record is
dropped by ending (R65). -/
def State.closeRecord (s : State) (r : Reservation) (cause : EndCause) : State :=
  match r.stage with
  | .promoted => s
  | .showing seq | .qualified seq =>
    { s with shc := s.shc.modRecord seq (fun x =>
        { x with ended := s.clock.booth, cause := some cause,
                 outcome := closeOutcome cause x.qualify.isSome }) }

/-- The end of a licensed item: its record closes, or its reservation is dropped (R63, R65). -/
def State.showItemEnd (s : State) (l : LaneId) : State :=
  match s.shc.reservations.get l with
  | r :: _ => (s.closeRecord r .itemEnd).modReservations l List.tail
  | [] => s

/-- A stop or reset of a lane: its open record closes with the cause and every reservation ends (R64,
R65). -/
def State.showStop (s : State) (l : LaneId) (cause : EndCause) : State :=
  ((s.shc.reservations.get l).foldl (fun s r => s.closeRecord r cause) s).modReservations l
    (fun _ => [])

/-! ### The time check at START (R59) -/

/-- The reason the head item's licence refuses a START, or none. -/
def startFailure (s : State) (licence : Option Nat) : Option Reason :=
  match licence with
  | none => none
  | some id =>
    match s.shc.find id with
    | none => none
    | some c =>
      if c.state s.clock.booth = .expired then some .licenceExpired
      else if (match s.clock.booth with
        | none => false
        | some t => t < c.notBefore) then some .licenceNotYet
      else none

/-! ### Reporting (R56, R69) -/

/-- One line of the licence summary (R56). -/
def licenceLine (s : State) (c : Licence) : LicenceLine :=
  { id := c.id, packageId := c.packageId, state := c.state s.clock.booth, count := c.count,
    held := s.shc.heldOf c.id, maxShowings := c.maxShowings }

/-- A lane's reservations of a licence by stage (R56). -/
def stageCounts (id : Nat) (rs : List Reservation) : StageCounts :=
  let mine := rs.filter (fun r => r.licenceId == id)
  { promoted := (mine.filter (fun r => r.stage == .promoted)).length,
    showing := (mine.filter (fun r => match r.stage with | .showing _ => true | _ => false)).length,
    qualified := (mine.filter (fun r => match r.stage with
      | .qualified _ => true | _ => false)).length }

/-- The full record of a licence (R56). -/
def licenceReport (s : State) (c : Licence) : LicenceReport :=
  { licence := c, held := s.shc.heldOf c.id, state := c.state s.clock.booth,
    notYet := match s.clock.booth with
      | none => false
      | some t => t < c.notBefore,
    openShowings := (s.shc.log.filter (fun r => r.isOpen && r.licenceId == c.id)).length,
    perLane := Quad.ofFn (fun l => stageCounts c.id (s.shc.reservations.get l)),
    remaining := if 0 < c.maxShowings then some (c.maxShowings - c.count - s.shc.heldOf c.id)
      else none }

/-- The reply of READ_LOG from a sequence number, up to a number of records (R69). -/
def logReport (h : Showings) (n limit : Nat) : LogReport :=
  let records := (h.log.filter (fun r => n ≤ r.seq)).take limit
  { nextSeq := h.nextSeq, lowest := match h.log with
      | [] => 0
      | r :: _ => r.seq,
    heldSlots := h.heldSlots, openRecords := (h.log.filter ShowRecord.isOpen).length,
    closedRecords := (h.log.filter (fun r => !r.isOpen)).length,
    returned := records.length, records := records }

end Sys2Proof.Machine
end

