-- ==== Sys2Proof/Machine/Lane.lean ====
section
/-! DEFINITION. The playout lane (chapter 4): items and places, entries to HOLD, PAUSED, IDLE, the stop,
the lane reset, presentation, fills and item ends. -/

namespace Sys2Proof.Machine

open Sys2Proof

/-! ### Items and places (R81, R97) -/

/-- An item's total frames (R81). -/
def Item.total (i : Item) : Nat :=
  match i.kind with
  | .composition _ _ _ _ => i.reelFrames.sum
  | .black frames => frames
  | .intermission => 0

/-- The package of a COMPOSITION. -/
def Item.package (i : Item) : Option Nat :=
  match i.kind with
  | .composition pid _ _ _ => some pid
  | .black _ | .intermission => none

/-- The licence of a licensed COMPOSITION. -/
def Item.licence (i : Item) : Option Nat :=
  match i.kind with
  | .composition _ _ _ licence => licence
  | .black _ | .intermission => none

/-- Whether an item is a COMPOSITION. -/
def Item.isComposition (i : Item) : Bool := i.package.isSome

/-- Whether an item is an INTERMISSION. -/
def Item.isIntermission (i : Item) : Bool :=
  match i.kind with
  | .intermission => true
  | .composition _ _ _ _ | .black _ => false

/-- The reel, and the frame in it, of a frame counted through reels from one on. -/
def reelPlace : Nat → List Nat → Nat → Nat × Nat
  | reel, [], f => (reel, f)
  | reel, n :: rest, f => if f < n then (reel, f) else reelPlace (reel + 1) rest (f - n)

/-- The place of an item frame (R81). A BLACK item has no reels; its frames stand in reel 0, each its own reel
frame. DESIGN CHOICE: notes/assumptions/51.md; unsafe. -/
def Item.posAt (i : Item) (f : Nat) : Pos :=
  match i.kind with
  | .composition _ first _ _ =>
    { frame := f, reel := (reelPlace first i.reelFrames f).1, reelFrame := (reelPlace first i.reelFrames f).2 }
  | .black _ | .intermission => { frame := f, reel := 0, reelFrame := f }

/-- The place after one in the item, or none after its last frame. -/
def Item.after (i : Item) (p : Pos) : Option Pos :=
  if p.frame + 1 < i.total then some (i.posAt (p.frame + 1)) else none

/-- Whether a place is the last frame of its reel. -/
def Item.endsReel (i : Item) (p : Pos) : Bool :=
  match i.after p with
  | none => true
  | some q => q.reel != p.reel

/-- The frames of an item's reel. -/
def Item.framesOf (i : Item) (reel : Nat) : Nat :=
  match i.kind with
  | .composition _ first _ _ => i.reelFrames.getD (reel - first) 0
  | .black _ | .intermission => 0

/-- A lane's item with a serial number. -/
def Playout.item (p : Playout) (uid : Nat) : Option Item := p.queue.find? (fun i => i.uid == uid)

/-- One item of a lane's queue changed. -/
def State.modItem (s : State) (l : LaneId) (uid : Nat) (f : Item → Item) : State :=
  s.modPl l (fun p => { p with queue := p.queue.map (fun i => if i.uid = uid then f i else i) })

/-- The queue rate (R83). -/
def Playout.queueRate (p : Playout) : Option Nat :=
  match p.queue.find? Item.isComposition with
  | some i => some i.rate
  | none => if p.state = .idle then none else p.rate

/-! ### Leaving items -/

/-- The references of items that leave the queue, dropped item by item: two RETIRING packages that one event releases
are released one after the other. DESIGN CHOICE: notes/assumptions/66.md; unsafe (R6, R37, R81). -/
def State.dropItems (s : State) (items : List Item) : State :=
  items.foldl (fun s i =>
    match i.package with
    | none => s
    | some pid => s.dropReference pid) s

/-- The items of a lane that satisfy a test leave its queue. -/
def State.removeItems (s : State) (l : LaneId) (leaves : Item → Bool) : State :=
  let gone := (s.lane l).pl.queue.filter leaves
  (s.modPl l (fun p => { p with queue := p.queue.filter (fun i => !(leaves i)) })).dropItems gone

/-- The head item leaves the queue. -/
def State.dropHead (s : State) (l : LaneId) : State :=
  match (s.lane l).pl.queue with
  | [] => s
  | i :: rest => (s.modPl l (fun p => { p with queue := rest })).dropItems [i]

/-- A reel leaves hand with its last frame (R91, R150). -/
def State.leaveReel (s : State) (l : LaneId) (item reel : Nat) : State :=
  (s.modFetch l (fun f => { f with inHand := f.inHand.filter (fun r => r != (item, reel)) })).cueStep l
    (fun e => e.leaveReel item reel)

/-! ### The fetcher stopped (R86, R102 to R104) -/

/-- The fetcher stopped with its waiting read withdrawn; `advance` advances the epoch. -/
def Fetcher.stop (f : Fetcher) (advance : Bool) : Fetcher :=
  Fetcher.stoppedAt (if advance then f.epoch + 1 else f.epoch)

/-- The fetcher stopped, its stall registrations removed, and the buffer discarded (R102, R104). -/
def State.stopFetch (s : State) (l : LaneId) (advance : Bool) : State :=
  (s.modPl l (fun p => { p with fetch := p.fetch.stop advance, buffer := [] })).dropStalls l

/-! ### HOLD (R75) -/

/-- A screen enters HOLD: one CLEAR unless it is in HOLD already, and its flag is set (R75). -/
def State.enterHold (s : State) (c : ScreenId) : State :=
  let s := if s.screenHeld c then s else s.emit (.screen c .clear)
  { s with held := s.held.set c true }

/-! ### PAUSED and IDLE (R99 to R101) -/

/-- The result a watch gate takes when the lane leaves PLAYING for a pause (R126). -/
def PauseCause.gateResult : PauseCause → GateResult
  | .pulseLost => .noPulses
  | .host | .gap | .intermission => .aborted

/-- Entry to PAUSED by a cause (R100). -/
def State.enterPaused (s : State) (l : LaneId) (cause : PauseCause) : State :=
  let s := s.modPl l (fun p => { p with state := .paused, pause := some cause })
  ((s.endWatch l cause.gateResult).rampDown l false).cueStep l (fun e => e.paused cause)

/-- Blocked marks cleared at the return to IDLE (R81). -/
def Item.unblocked (i : Item) : Item := { i with blocked := none }

/-- Entry to IDLE at an item end or at RESUME (R99, R101). The ramp-down copies its samples before the
buffer goes (R169). -/
def State.enterIdle (s : State) (l : LaneId) : State :=
  let s := (((s.rampDown l true).endWatch l .aborted).endInjection l).stopFetch l false
  s.modPl l (fun p =>
    { p with state := .idle, rate := none, next := none, pause := none,
             queue := p.queue.map Item.unblocked })

/-- The head of the queue examined at an item end, or at the RESUME from an INTERMISSION, where `target`
is a SEEK's target in the head (R99, R101, R103). An INTERMISSION leaves next frame none until a SEEK or the
RESUME sets it. DESIGN CHOICE: notes/assumptions/58.md; unsafe. -/
def State.examineHead (s : State) (l : LaneId) (target : Option Pos) : State :=
  match (s.lane l).pl.queue with
  | [] => s.enterIdle l
  | i :: _ =>
    if i.isIntermission then
      ((s.dropHead l).raiseLane l srcItemDone).enterPaused l .intermission
    else
      match i.blocked with
      | some why => (s.enterIdle l).laneFault l (.promotion why)
      | none => s.modPl l (fun p => { p with next := some (target.getD (i.posAt 0)) })

/-- An item's end, its last frame presented or consumed (R99). -/
def State.itemEnd (s : State) (l : LaneId) (i : Item) : State :=
  let s := (s.raiseLane l srcItemDone).modStats l (fun k =>
    { k with itemsDone := satInc top32 k.itemsDone })
  let s := if i.licence.isSome then s.showItemEnd l else s
  (s.dropHead l).examineHead l none

/-- A frame passed, presented or consumed: its reel leaves hand with its last frame, and its item ends
with its last (R97, R98). -/
def State.passFrame (s : State) (l : LaneId) (i : Item) (pos : Pos) : State :=
  let s := if i.isComposition && i.endsReel pos then s.leaveReel l i.uid pos.reel else s
  if (i.after pos).isNone then s.itemEnd l i else s

/-! ### Presentation (R97) -/

/-- The picture bytes of a slot: those its frame length word counts (R97). -/
def BufSlot.frameBytes (b : BufSlot) : List Byte := (b.picture.drop 4).take (u32 b.picture 0)

/-- The buffer after a frame is presented: a COMPOSITION frame with sound is PRESENTED, any other is freed
(R92, R97). -/
def presentSlot (b : BufSlot) (buffer : List BufSlot) : List BufSlot :=
  if b.hasSound then
    buffer.map (fun x => if x.num = b.num then { x with stage := .presented } else x)
  else buffer.filter (fun x => x.num != b.num)

/-- With all 48 slots held and every one PRESENTED, the earliest-fetched is freed (R92). -/
def relieve (buffer : List BufSlot) : List BufSlot :=
  if 48 ≤ buffer.length ∧ buffer.all (fun b => b.stage == .presented) then buffer.tail else buffer

/-- The lane's own record of a presented frame (R97). -/
def Playout.presented (p : Playout) (i : Item) (b : BufSlot) : Playout :=
  { p with buffer := presentSlot b p.buffer, shown := true, inGap := false, next := i.after b.pos,
           queue := p.queue.map (fun x => if x.uid = i.uid then { x with begun := true } else x),
           position := if i.isComposition then some b.pos else p.position,
           stats := if i.isComposition then { p.stats with real := satInc top32 p.stats.real }
             else p.stats }

/-- A frame of the lane's as the sound engine is handed it. -/
def handedFrame (p : Playout) (i : Item) (pos : Pos) : Handed :=
  { item := { item := i.uid, total := i.total, channels := i.channels }, frame := pos.frame,
    samples := (p.rate.map spf).getD 0, gapEnded := p.inGap }

/-- A lane's buffer relieved of its earliest slot where all 48 are PRESENTED (R92). -/
def State.relieved (s : State) (l : LaneId) : State :=
  s.modPl l (fun p => { p with buffer := relieve p.buffer })

/-- A READY frame presented (R97): the frame on the link, then the showing counter, the cue engine and the
sound engine, then the end of its reel and item, and at the end the freeing of R92, which a ramp-down's copy
at that end does not see (R169). DEDUCED in that order: notes/assumptions/53.md; unsafe. -/
def State.presentFrame (s : State) (l : LaneId) (i : Item) (b : BufSlot) : State :=
  let h := handedFrame (s.lane l).pl i b.pos
  let s := s.toScreen l (if i.isComposition then .frame b.frameBytes else .black)
  let s := s.modPl l (fun p => p.presented i b)
  let s := if i.licence.isSome then s.showReal l else s
  let s := if i.isComposition then s.cueStep l (fun e => e.presented i.uid b.pos.reel b.pos.reelFrame) else s
  let s := s.soundPresented l h i.isComposition
  (s.passFrame l i b.pos).relieved l

/-! ### Gaps (R98) -/

/-- The fill sent by a gap policy (R98). -/
def fillCommand (p : Playout) : ScreenCommand :=
  match p.set.gapPolicy with
  | .holdLast => if p.shown then .repeatFrame else .black
  | .black | .stop => .black

/-- A fill frame: sent, counted, GAP raised, and the first of a gap starts it (R98). -/
def State.fill (s : State) (l : LaneId) (i : Item) : State :=
  let s := s.toScreen l (fillCommand (s.lane l).pl)
  let start := !(s.lane l).pl.inGap
  let s := if i.licence.isSome then s.showFill l else s
  let s := (s.modPl l (fun p =>
    { p with shown := true, inGap := true,
             stats := { p.stats with fill := satInc top32 p.stats.fill,
                                     gaps := if start then satInc top32 p.stats.gaps
                                       else p.stats.gaps } })).raiseLane l srcGap
  if start then s.rampDown l false else s

/-- A faulted head frame consumed: its slot freed, its item begun, next frame moved on (R98). -/
def Playout.consumed (p : Playout) (i : Item) (b : BufSlot) : Playout :=
  { p with buffer := p.buffer.filter (fun x => x.num != b.num), next := i.after b.pos,
           queue := p.queue.map (fun x => if x.uid = i.uid then { x with begun := true } else x) }

/-- The lane paused by a gap under policy STOP (R98). -/
def State.gapPause (s : State) (l : LaneId) : State := (s.enterPaused l .gap).laneFault l .gap

/-- A gap at a missing head (R98). -/
def State.missingHead (s : State) (l : LaneId) (i : Item) : State :=
  if (s.lane l).pl.set.gapPolicy = .stop then s.gapPause l else s.fill l i

/-- A gap at a faulted head (R98). -/
def State.faultedHead (s : State) (l : LaneId) (i : Item) (b : BufSlot) : State :=
  if (s.lane l).pl.set.gapPolicy = .stop then
    let s := (s.modPl l (fun p => p.consumed i b)).passFrame l i b.pos
    if (s.lane l).pl.state = .playing then s.gapPause l else s
  else ((s.fill l i).modPl l (fun p => p.consumed i b)).passFrame l i b.pos

/-- A counted pulse that the lane takes in PLAYING (R97, R98). -/
def State.presentPulse (s : State) (l : LaneId) : State :=
  let p := (s.lane l).pl
  match p.queue.head?, p.next with
  | some i, some pos =>
    match p.buffer.find? (fun b => b.item == i.uid && b.pos == pos && b.stage != .presented) with
    | none => s.missingHead l i
    | some b =>
      if b.stage = .reading then s.missingHead l i
      else if b.faulted then s.faultedHead l i b
      else s.presentFrame l i b
  | _, _ => s

/-! ### Pulses and loss (R111 to R114) -/

/-- A counted pulse: the gate counter takes it, then the lane. A pulse that finds the lane STARTING is the
check gate's and is not presented (R114, R125). -/
def State.countedPulse (s : State) (l : LaneId) : State :=
  let starting := (s.lane l).pl.state = .starting
  let s := s.gatePulse l
  if ¬ starting ∧ (s.lane l).pl.state = .playing then s.presentPulse l else s

/-- A raw pulse through the glitch filter, the loss timer and the divider (R111, R112, R114). -/
def State.pulse (s : State) (l : LaneId) : State :=
  let m := (s.lane l).ftm
  let tick := tickAt s.clock.now
  let divider := (s.lane l).pl.set.divider
  if m.accepts tick then
    let s := s.modFtm l (fun m => (m.accept tick s.atNextBase).divide divider)
    if m.passes divider then s.countedPulse l else s
  else s.modFtm l (fun m => { m with glitches := satInc top16 m.glitches })

/-- The expiry of the loss timer (R112, R113). -/
def State.lossExpiry (s : State) (l : LaneId) : State :=
  let s := (s.modFtm l (fun m =>
    { m with lossTimer := none, lossFresh := false, absent := true,
             lossExpiries := satInc top16 m.lossExpiries })).abortGate
      l .noPulses
  match (s.lane l).pl.state with
  | .starting => s.failCheck l .noPulses
  | .playing => (s.enterPaused l .pulseLost).laneFault l .pulseLost
  | .idle | .cueing | .cued | .paused | .resetting => s

/-- Whether a lane's loss timer has reached its loss time (R112). -/
def Lane.lossDue (n : Lane) : Bool :=
  match n.ftm.lossTimer with
  | none => false
  | some k => n.pl.set.lossTime ≤ k

/-- The injected pulse of a lane: the remaining count falls, the pulse is conditioned, and the run ends
with its last (R117). -/
def State.injectedPulse (s : State) (l : LaneId) : State :=
  match (s.lane l).ftm.injection with
  | none => s
  | some j =>
    let j' : Injection := { j with remaining := j.remaining - 1, nextTick := j.nextTick + j.q + 1 }
    let s := (s.modFtm l (fun m => { m with injection := some j' })).pulse l
    if j'.remaining = 0 then s.endInjection l else s

/-! ### The stop (R102) -/

/-- Promoted and blocked marks lost by the items that stay (R102 step 4). -/
def Item.unmarked (i : Item) : Item := { i with promoted := false, blocked := none }

/-- Whether a stop removes the head: it is begun (R102 step 3). -/
def Playout.headBegun (p : Playout) : Bool :=
  match p.queue with
  | [] => false
  | i :: _ => i.begun

/-- The monitor's part of a stop: the check gate or the watch gate is aborted, an injection run ends
(R102 step 6, R117, R126). -/
def State.stopMonitor (s : State) (l : LaneId) : State :=
  let s := if (s.lane l).pl.state = .starting then s.abortGate l .aborted else s
  (s.endWatch l .aborted).endInjection l

/-- A stop as one event (R102). The sound engine copies its ramp-down before the buffer is discarded
(R169); at a hold it ends at once (R170). -/
def State.stopLane (s : State) (l : LaneId) (cause : EndCause) : State :=
  let begun := (s.lane l).pl.headBegun
  let s := if cause = .held then s.modSne l Sound.ended else s.rampDown l true
  let s := (s.stopFetch l true).showStop l cause
  let s := if begun then s.dropHead l else s
  let s := s.stopMonitor l
  let s := (s.modSce l CueEngine.emptied).toScreen l .clear
  s.modPl l (fun p =>
    { p with state := .idle, rate := none, next := none, position := none, pause := none,
             inGap := false, queue := p.queue.map Item.unmarked })

/-- Whether a lane is in a state that STOP takes (R102). -/
def LaneState.stoppable : LaneState → Bool
  | .cueing | .cued | .starting | .playing | .paused => true
  | .idle | .resetting => false

/-! ### The lane reset (R104, R105) -/

/-- Whether an operation is a lane's read (R105). -/
def Operation.ofLane (l : LaneId) (o : Operation) : Bool :=
  match o.kind with
  | .laneRead x _ _ _ _ _ => x == l
  | .cueRead x _ _ _ _ _ => x == l
  | .chunkWrite _ | .slotWrite _ _ => false

/-- A RESETTING lane with no read in flight completes its reset: IDLE, and LANE_READY raised (R105). -/
def State.completeReset (s : State) (l : LaneId) : State :=
  if (s.lane l).pl.state = .resetting ∧ !(s.stc.flight.any (Operation.ofLane l)) then
    (s.modPl l (fun p => { p with state := .idle })).raiseLane l srcLaneReady
  else s

/-- The lane's own fields at the start of a lane reset (R104). -/
def Playout.laneReset (p : Playout) : Playout :=
  { p with state := .resetting, confirmed := false, rate := none, next := none, position := none,
           shown := false, inGap := false, pause := none, fault := none, stats := .zero }

/-- The bound screen of a lane, if any, enters HOLD. -/
def State.holdBound (s : State) (l : LaneId) : State :=
  match (s.lane l).pl.screen with
  | none => s
  | some c => s.enterHold c

/-- The start of a lane reset as one event, without its completion (R104); `rebound` says that ASSIGN_LANE
changes the binding (R110, R128). -/
def State.beginReset (s : State) (l : LaneId) (cause : EndCause) (rebound : Bool) : State :=
  let s := ((s.stopFetch l true).showStop l cause).removeItems l (fun _ => true)
  let s := s.modFtm l (fun m =>
    { (m.laneReset rebound) with
      gate := if m.gate.state = .opened then m.gate.abort .aborted s.clock.now else m.gate })
  let s := s.modSce l (fun _ => CueEngine.reset)
  let s := s.modSne l (fun u => { u.ended with counts := .zero })
  (s.holdBound l).modPl l Playout.laneReset

/-- A lane reset (R104, R105). -/
def State.resetLane (s : State) (l : LaneId) (cause : EndCause) : State :=
  (s.beginReset l cause false).completeReset l

/-! ### SEEK and RESUME (R101, R103) -/

/-- SEEK to a target of the head item (R103). -/
def State.seekTo (s : State) (l : LaneId) (i : Item) (target : Nat) : State :=
  let pos := i.posAt target
  let s := (s.stopFetch l true).modPl l (fun p =>
    { p with next := some pos, inGap := false,
             fetch := { p.fetch with state := .running, cursor := some (.frameOf i.uid pos false) } })
  (s.cueStep l CueEngine.seek).modSne l (fun u => { u with seatPending := true })

/-- RESUME (R101). From INTERMISSION the head is examined first, so that a lane that goes IDLE or meets
another INTERMISSION is never PLAYING between. DEDUCED: notes/assumptions/22.md; unsafe. A RESUME that ends so leaves
the sound engine unmarked: no later real frame ramps up for it. DESIGN CHOICE: notes/assumptions/76.md; unsafe. -/
def State.resumeLane (s : State) (l : LaneId) : State :=
  let p := (s.lane l).pl
  let passes : Bool := match p.queue with
    | [] => false
    | i :: _ => !i.isIntermission && i.blocked.isNone
  if p.pause = some .intermission ∧ !passes then s.examineHead l none
  else
    let s := if p.pause = some .intermission then s.examineHead l p.next else s
    let s := (s.modPl l (fun p => { p with pause := none })).modSne l (fun u => { u with resumed := true })
    (s.enterPlaying l).cueStep l CueEngine.resumed

/-! ### Reporting (R107, R160) -/

/-- One item of the queue part (R107). -/
def itemReport (i : Item) : ItemReport :=
  { kind := i.kind, total := i.total, promoted := i.promoted, begun := i.begun, blocked := i.blocked }

/-- Held slots in a stage. -/
def Playout.inStage (p : Playout) (g : SlotStage) : Nat := (p.buffer.filter (fun b => b.stage == g)).length

/-- The index in the queue of an item named by its serial number. -/
def Playout.indexOf (p : Playout) (uid : Nat) : Option Nat :=
  (findFrom (fun i => i.uid == uid) 0 p.queue).map Prod.fst

/-- The fetch cursor as its item's index, reel and reel frame (R86): behind the last item, and while the fetcher is
stopped, there is none. DESIGN CHOICE: notes/assumptions/71.md; unsafe. -/
def Playout.cursorPlace (p : Playout) : Option (Nat × Nat × Nat) :=
  match p.fetch.cursor with
  | none => none
  | some (.frameOf uid pos _) => (p.indexOf uid).map (fun i => (i, pos.reel, pos.reelFrame))
  | some (.afterItem uid) =>
    (findFrom (fun i => uid < i.uid) 0 p.queue).map (fun i =>
      (i.1, (i.2.posAt 0).reel, (i.2.posAt 0).reelFrame))

/-- The snapshot of QUERY_LANE (R107, R160). -/
def laneReport (s : State) (l : LaneId) : LaneReport :=
  let n := s.lane l
  let p := n.pl
  { state := p.state, screen := p.screen, held := p.screen.map s.held.get, confirmed := p.confirmed,
    rate := p.rate, pause := p.pause, fault := p.fault, queue := p.queue.map itemReport,
    fetchState := p.fetch.state, cursor := p.cursorPlace,
    inHand := p.fetch.inHand.filterMap (fun r => (p.indexOf r.1).map (fun i => (i, r.2))),
    slotsReading := p.inStage .reading, slotsReady := p.inStage .ready,
    slotsPresented := p.inStage .presented, slotsFree := 48 - p.buffer.length,
    slotsFaulted := (p.buffer.filter BufSlot.faulted).length,
    readsInFlight := (s.stc.flight.filter (Operation.ofLane l)).length, next := p.next,
    position := p.position, inGap := p.inGap, stats := p.stats, set := p.set, current := n.sce.current,
    bankA := bankReport p.queue n.sce.bankA, bankB := bankReport p.queue n.sce.bankB,
    active := Quad.ofFn (fun k => (n.sce.active.get k).map activeReport), rebuild := n.sce.rebuild,
    bad := n.sce.bad, dropped := n.sce.dropped, missing := n.sce.missing }

end Sys2Proof.Machine
end

