-- ==== Sys2Proof/Machine/Passing.lean ====
section
/-! DEFINITION. The passing of time before an event: what fell due at the last base tick (R40, R112, R196) is
taken before the clock leaves that tick's instant. -/

namespace Sys2Proof.Machine

open Sys2Proof

/-- The second completed at a base tick: the sub-second count returns to 0, booth time rises by one and
licences are evaluated; after a SET_TIME taken first, the tick raises the count to 1 instead (R196, R197). -/
def State.boothSecond (s : State) : State :=
  let c := { s.clock with secondDue := false }
  match s.clock.booth with
  | none => { s with clock := c }
  | some t =>
    if s.clock.sub = 999 then ({ s with clock := { c with sub := 0 } }).setBooth (satInc top32 t)
    else { s with clock := { c with sub := s.clock.sub + 1 } }

/-- Whether a live ticket's age has reached the discard time (R40). -/
def State.ticketDue (s : State) : Bool :=
  s.pka.tickets.any (Ticket.expired s.clock.ticks s.pka.setting)

/-- What fell due at the last base tick and has not been taken: the second, loss expiries, tickets. DESIGN
CHOICE in their order: notes/assumptions/3.md; unsafe. -/
def State.takeOverdue (s : State) : State :=
  let s := if s.clock.secondDue then s.boothSecond else s
  let s := fours.foldl (fun s l => if (s.lane l).lossDue then s.lossExpiry l else s) s
  if s.ticketDue then s.expireTickets else s

/-- The state before an event at an instant: one behind the last base tick's instant finds what fell due at
that tick taken, one at the tick's own instant may come before it (R40, R112, R197). -/
def State.caughtUp (s : State) (t : Instant) : State := if s.lastBase < t then s.takeOverdue else s

/-- An event taken at an instant: what fell due before it, then the wall samples before it. -/
def State.takeAt (s : State) (t : Instant) : State := (s.caughtUp (s.takenAt t)).clockTo (s.takenAt t)

end Sys2Proof.Machine
end

