-- ==== Sys2Proof/Machine/Fetch.lean ====
section
/-! DEFINITION. The fetchers (R86 to R94), the storage arbiter (R11 to R14), and the settling of both at the
end of an event. -/

namespace Sys2Proof.Machine

open Sys2Proof

/-! ### The fetcher -/

/-- The first item behind one in the queue. -/
def Playout.itemAfter (p : Playout) (uid : Nat) : Option Item := p.queue.find? (fun i => uid < i.uid)

/-- The cursor at a taken-up item: its first frame, or behind an INTERMISSION (R90). -/
def Item.startCursor (i : Item) : Cursor :=
  if i.isIntermission then .afterItem i.uid else .frameOf i.uid (i.posAt 0) false

/-- The cursor after a frame of an item (R86). -/
def Item.cursorAfter (i : Item) (pos : Pos) : Cursor :=
  match i.after pos with
  | none => .afterItem i.uid
  | some q => .frameOf i.uid q (q.reel == pos.reel)

/-- A lane's fetcher state set. -/
def State.fetchState (s : State) (l : LaneId) (x : FetchState) : State :=
  s.modFetch l (fun f => { f with state := x })

/-- A lane's cursor moved, its fetcher RUNNING. -/
def State.fetchAt (s : State) (l : LaneId) (c : Cursor) : State :=
  s.modFetch l (fun f => { f with state := .running, cursor := some c })

/-- An item promoted and the cursor moved to it (R90). -/
def State.promoted (s : State) (l : LaneId) (i : Item) : State :=
  (s.modItem l i.uid (fun i => { i with promoted := true })).fetchAt l i.startCursor

/-- A failed promotion at a taking-up: the item is BLOCKED with its reason (R90). -/
def State.block (s : State) (l : LaneId) (i : Item) (why : Reason) : State :=
  ((s.modItem l i.uid (fun i => { i with blocked := some why })).modStats l (fun k =>
    { k with refused := satInc top32 k.refused })).fetchState l .blocked

/-- The taking-up of an item (R90), and whether the fetcher goes on. -/
def State.takeUp (s : State) (l : LaneId) (i : Item) : State × Bool :=
  if i.blocked.isSome then (s.fetchState l .blocked, false)
  else if i.promoted then (s.fetchAt l i.startCursor, true)
  else
    match i.licence, i.package with
    | some lic, some pid =>
      match promotionFailure s lic pid with
      | some why => (s.block l i why, false)
      | none => ((s.reserve l lic pid i.total).promoted l i, true)
    | _, _ => (s.promoted l i, true)

/-- The lowest-numbered free slot of the buffer (R88). -/
def Playout.freeSlot (p : Playout) : Nat :=
  ((List.range 48).find? (fun n => !(p.buffer.any (fun b => b.num == n)))).getD 0

/-- A frame taken into a slot (R87, R88): a BLACK frame READY at once, a COMPOSITION frame READING with its
reads to be issued. -/
def newSlot (num : Nat) (i : Item) (pos : Pos) : BufSlot :=
  { num := num, item := i.uid, pos := pos, composition := i.isComposition, hasSound := 0 < i.channels,
    faulted := false, stage := if i.isComposition then .reading else .ready,
    awaiting := if i.isComposition then (if 0 < i.channels then 2 else 1) else 0, picture := [],
    sound := [] }

/-- A BLACK frame fetched (R88). -/
def State.fetchBlack (s : State) (l : LaneId) (i : Item) (pos : Pos) : State :=
  (s.modPl l (fun p => { p with buffer := p.buffer ++ [newSlot p.freeSlot i pos] })).fetchAt l
    (i.cursorAfter pos)

/-- A ready COMPOSITION frame fetched: its slot is READING and its picture read waits (R88, R89). -/
def State.fetchFrame (s : State) (l : LaneId) (i : Item) (pos : Pos) : State :=
  s.modPl l (fun p =>
    { p with buffer := p.buffer ++ [newSlot p.freeSlot i pos],
             fetch := { p.fetch with state := .running,
                                     work := .picture p.freeSlot (0 < i.channels) } })

/-- A missing frame: the stall registered and counted (R88). -/
def State.stall (s : State) (l : LaneId) (pid reel : Nat) (tracks : List TrackKind) : State :=
  ((s.registerStall l pid reel tracks).modStats l (fun k =>
    { k with stalls := satInc top32 k.stalls })).fetchState l .stalled

/-- A reel taken up: in hand, and the cue engine told (R91). -/
def State.reelInHand (s : State) (l : LaneId) (i : Item) (pid : Nat) (pos : Pos) : State :=
  (s.modFetch l (fun f =>
    { f with state := .running, cursor := some (.frameOf i.uid pos true),
             inHand := f.inHand ++ [(i.uid, pos.reel)] })).takeUpReel l pid i.uid pos.reel
      (i.framesOf pos.reel)

/-- The fetcher at a frame (R86 to R91), and whether it goes on. At a reel's first frame the reels in hand are looked
at before the slots. DESIGN CHOICE: notes/assumptions/68.md; unsafe. PRESENTED slots of a reel no longer in hand do
not keep a further reel out. DEDUCED: notes/assumptions/69.md; unsafe. -/
def State.fetchAtFrame (s : State) (l : LaneId) (i : Item) (pos : Pos) (taken : Bool) : State × Bool :=
  let p := (s.lane l).pl
  match i.package with
  | none =>
    if 48 ≤ p.buffer.length then (s.fetchState l .full, false) else (s.fetchBlack l i pos, true)
  | some pid =>
    if taken = false then
      if p.fetch.inHand.length < 2 then (s.reelInHand l i pid pos, true)
      else (s.fetchState l .reelWait, false)
    else if 48 ≤ p.buffer.length then (s.fetchState l .full, false)
    else
      match frameReady s pid pos.reel pos.reelFrame with
      | .missing tracks => (s.stall l pid pos.reel tracks, false)
      | .ready => (s.fetchFrame l i pos, true)

/-- One move of a lane's fetcher, and whether it goes on. A BLOCKED fetcher looks again at the item behind
its cursor, which may have been removed (R84, R85). -/
def State.fetchOnce (s : State) (l : LaneId) : State × Bool :=
  let p := (s.lane l).pl
  if p.fetch.state = .stopped ∨ p.fetch.state = .stalled ∨ p.fetch.work ≠ .nothing then (s, false)
  else
    match p.fetch.cursor with
    | none => (s, false)
    | some (.afterItem uid) =>
      match p.itemAfter uid with
      | none => (s.fetchState l .done, false)
      | some i => s.takeUp l i
    | some (.frameOf uid pos taken) =>
      match p.item uid with
      | none => (s, false)
      | some i => s.fetchAtFrame l i pos taken

/-- A lane's fetcher moved until it waits: at most 48 frames, 16 items and 2 reels are taken up at once. -/
def State.fetchAll (s : State) (l : LaneId) : Nat → State
  | 0 => s
  | n + 1 =>
    match s.fetchOnce l with
    | (s', true) => s'.fetchAll l n
    | (s', false) => s'

/-! ### The cue point (R94) -/

/-- A lane's buffered frames as the arbiter counts them (R12, R87). -/
def Playout.buffered (p : Playout) : Nat := (p.buffer.filter (fun b => b.stage != .reading)).length

/-- Whether a lane's fetcher has reached its cue point (R94). -/
def Playout.atCuePoint (p : Playout) : Bool :=
  p.set.lowMark ≤ p.buffered || p.fetch.state == .done || p.fetch.state == .reelWait
    || p.fetch.state == .blocked

/-- A CUEING lane at its cue point is CUED, and LANE_READY is raised (R94). -/
def State.testCued (s : State) (l : LaneId) : State :=
  let p := (s.lane l).pl
  if p.state = .cueing ∧ p.atCuePoint then
    (s.modPl l (fun p => { p with state := .cued })).raiseLane l srcLaneReady
  else s

/-! ### The arbiter (R11 to R14) -/

/-- What a decision grants. -/
inductive Grant where
  | lane (l : LaneId)
  | catalogue (q : SlotRequest)
  | chunk (slot : Nat)
  deriving DecidableEq, Repr

/-- Whether a lane has a request waiting. -/
def State.laneWaits (s : State) (l : LaneId) : Bool := (s.lane l).pl.fetch.work != .nothing

/-- The lane with fewest buffered frames, the lowest numbered on a tie (R13). -/
def fewest (s : State) : List LaneId → Option LaneId
  | [] => none
  | l :: rest =>
    match fewest s rest with
    | none => some l
    | some k => if (s.lane l).pl.buffered ≤ (s.lane k).pl.buffered then some l else some k

/-- The waiting lanes below their low mark, or those at or above it (R13). -/
def State.tierLanes (s : State) (urgent : Bool) : List LaneId :=
  fours.filter (fun l =>
    s.laneWaits l && (decide ((s.lane l).pl.buffered < (s.lane l).pl.set.lowMark) == urgent))

/-- What the next decision grants, if anything waits (R13, R14). -/
def State.decide (s : State) : Option Grant :=
  let chunk := s.pka.order.head?.map Grant.chunk
  if 16 ≤ s.stc.guard ∧ chunk.isSome then chunk
  else
    match fewest s (s.tierLanes true), s.stc.catalogueRequest, chunk with
    | some l, _, _ => some (.lane l)
    | none, some q, _ => some (.catalogue q)
    | none, none, some g => some g
    | none, none, none => (fewest s (s.tierLanes false)).map Grant.lane

/-- The guard count after a grant (R14). -/
def guardAfter (guard : Nat) (g : Grant) (chunkWaits : Bool) : Nat :=
  match g with
  | .lane _ => if chunkWaits then guard + 1 else 0
  | .catalogue _ | .chunk _ => 0

/-- An operation on its way to the array (R11). -/
def State.issue (s : State) (o : Operation) (out : Output) : State :=
  (s.modStc (fun c => c.granted o)).emit out

/-- A lane's operation: its read of a run of blocks. -/
def State.issueRead (s : State) (kind : OpKind) (first count : Nat) : State :=
  s.issue { kind := kind, first := first, count := count } (.storageRead first count)

/-- The place and package of a buffered frame's storage. -/
def State.slotSource (s : State) (l : LaneId) (slot : Nat) : Option (BufSlot × Item × TableEntry) :=
  let p := (s.lane l).pl
  match p.buffer.find? (fun b => b.num == slot) with
  | none => none
  | some b =>
    match p.item b.item with
    | none => none
    | some i =>
      match i.package with
      | none => none
      | some pid => (s.stc.find pid).map (fun e => (b, i, e.2))

/-- The reel layout of a place. -/
def TableEntry.reelAt (e : TableEntry) (reel : Nat) : ReelLayout :=
  (e.window.layout[reel]?).getD { picture := 0, sound := 0, subtitle := 0 }

/-- The fetcher with its frame's last read granted: the cursor moves on (R89). -/
def State.frameGranted (s : State) (l : LaneId) (i : Item) (pos : Pos) : State :=
  s.modFetch l (fun f => { f with work := .nothing, cursor := some (i.cursorAfter pos) })

/-- A lane's waiting read granted (R89, R148). -/
def State.grantLane (s : State) (l : LaneId) : State :=
  let f := (s.lane l).pl.fetch
  let drop := s.modFetch l (fun f => { f with work := .nothing })
  match f.work with
  | .nothing => s
  | .picture slot alsoSound =>
    match s.slotSource l slot with
    | none => drop
    | some (b, i, e) =>
      let d := e.record.decl
      let s := s.issueRead (.laneRead l f.epoch slot b.item b.pos.frame false)
        ((e.reelAt b.pos.reel).picture + b.pos.reelFrame * d.slotBlocks) d.slotBlocks
      if alsoSound then s.modFetch l (fun f => { f with work := .sound slot })
      else s.frameGranted l i b.pos
  | .sound slot =>
    match s.slotSource l slot with
    | none => drop
    | some (b, i, e) =>
      let d := e.record.decl
      (s.issueRead (.laneRead l f.epoch slot b.item b.pos.frame true)
        ((e.reelAt b.pos.reel).sound + b.pos.reelFrame * d.soundBlocks) d.soundBlocks).frameGranted l i b.pos
  | .cues bank index count =>
    match ((s.lane l).sce.bank bank).reel with
    | none => drop
    | some (item, reel) =>
      match ((s.lane l).pl.item item).bind Item.package with
      | none => drop
      | some pid =>
        match s.stc.find pid with
        | none => drop
        | some (_, e) =>
          (s.issueRead (.cueRead l f.epoch bank item reel index) ((e.reelAt reel).subtitle + index)
            1).modFetch l (fun f =>
              { f with work := if index + 1 < count then .cues bank (index + 1) count else .nothing })

/-- The catalogue's request granted: the slot leaves the queue and its live image is written (R15, R16). -/
def State.grantCatalogue (s : State) (q : SlotRequest) : State :=
  let image := match (s.stc.table[q.slot]?).getD none with
    | none => emptyImage
    | some e => slotImage e
  let data := padToBlock image
  let s := s.modStc (fun c => { c with queue := c.queue.filter (fun x => x.slot != q.slot) })
  s.issue { kind := .slotWrite q.slot q.retry, first := 64 + 64 * q.slot, count := data.length / 4096 }
    (.storageWrite (64 + 64 * q.slot) (data.length / 4096) data)

/-- PKA's oldest staged chunk granted: its slot is WRITING (R33, R34). -/
def State.grantChunk (s : State) (slot : Nat) : State :=
  let s' := s.modPka (fun p => { p with order := p.order.filter (fun n => n != slot) })
  match s.pka.staging[slot]? with
  | some (.held c payload) =>
    match s.stc.find c.packageId with
    | none => s'
    | some (_, e) =>
      let w := chunkBlocks e c payload
      (s'.modPka (fun p =>
        { p with staging := modifyAt (fun _ => .writing c payload false) slot p.staging })).issue
        { kind := .chunkWrite slot, first := w.1, count := w.2.1 } (.storageWrite w.1 w.2.1 w.2.2)
  | _ => s'

/-- One decision's grant, with the guard count of R14. -/
def State.grant (s : State) (g : Grant) : State :=
  let s := s.modStc (fun c => { c with guard := guardAfter c.guard g (!s.pka.order.isEmpty) })
  match g with
  | .lane l => s.grantLane l
  | .catalogue q => s.grantCatalogue q
  | .chunk slot => s.grantChunk slot

/-! ### Settling -/

/-- Every fetcher moved until it waits, and every cue point tested, in ascending lane order. DESIGN CHOICE:
notes/assumptions/15.md; unsafe. -/
def State.fetchers (s : State) : State :=
  fours.foldl (fun s l => (s.fetchAll l 128).testCued l) s

/-- Decisions repeated while a slot is free and a request waits, the fetchers moving after each grant
(R12). -/
def State.decisions (s : State) : Nat → State
  | 0 => s
  | n + 1 =>
    let s := s.fetchers
    if s.stc.load ≠ .idle ∨ 8 ≤ s.stc.flight.length then s
    else
      match s.decide with
      | none => s
      | some g => (s.grant g).decisions n

/-- The guard count is 0 while no PKA write waits (R14). It stands when PKA withdraws its request and another
staged chunk follows in the staging order, which is then PKA's request. DESIGN CHOICE:
notes/assumptions/42.md; unsafe. -/
def Storage.restGuard (c : Storage) (chunkWaits : Bool) : Storage :=
  if chunkWaits then c else { c with guard := 0 }

/-- The end of an event: fetchers and arbiter have nothing left to do. At most 8 operations can be granted
before the port is full. -/
def State.settle (s : State) : State :=
  let s := s.decisions 9
  s.modStc (fun c => c.restGuard (!s.pka.order.isEmpty))

/-! ### Returns of lane reads (R89, R148) -/

/-- Whether a picture unit's frame length word is impossible (R89). -/
def badLengthWord (slotBlocks : Nat) (picture : List Byte) : Bool :=
  u32 picture 0 == 0 || slotBlocks * 4096 - 4 < u32 picture 0

/-- A slot after the return of one of its reads; the last makes it READY (R89). -/
def BufSlot.returned (slotBlocks : Nat) (sound : Bool) (r : Returned) (b : BufSlot) : BufSlot :=
  let b := { b with awaiting := b.awaiting - 1, stage := if b.awaiting ≤ 1 then .ready else b.stage }
  match r with
  | .fault => { b with faulted := true }
  | .data bytes =>
    if sound then { b with sound := bytes }
    else { b with picture := bytes, faulted := b.faulted || badLengthWord slotBlocks bytes }

/-- Whether a return counts as a read fault of the lane (R89). -/
def readFaulted (slotBlocks : Nat) (sound : Bool) : Returned → Bool
  | .fault => true
  | .data bytes => !sound && badLengthWord slotBlocks bytes

/-- A read fault counted in the lane's statistics. -/
def State.countReadFault (s : State) (l : LaneId) : State :=
  s.modStats l (fun k => { k with readFaults := satInc top32 k.readFaults })

/-- A current-epoch lane read returned into its slot (R89). -/
def State.readInto (s : State) (l : LaneId) (slot item frame : Nat) (sound : Bool) (r : Returned) :
    State :=
  match s.slotSource l slot with
  | none => s
  | some (b, _, e) =>
    if b.stage = .reading ∧ b.item = item ∧ b.pos.frame = frame then
      let blocks := e.record.decl.slotBlocks
      let s := s.modPl l (fun p => { p with buffer := p.buffer.map (fun x =>
        if x.num = slot then x.returned blocks sound r else x) })
      if readFaulted blocks sound r then s.countReadFault l else s
    else s

end Sys2Proof.Machine
end

