-- ==== Sys2Proof/Machine/Port.lean ====
section
/-! DEFINITION. The booth control port (chapter 10): the receiver, outstanding commands, their execution in
order, and the transmit line; and the guards of the storage array's returns. -/

namespace Sys2Proof.Machine

open Sys2Proof

/-! ### The receiver (R189, R190) -/

/-- What the receiver has collected is discarded: LINK_ERROR and the count (R190). -/
def State.discardFrame (s : State) : State :=
  (s.modBcp (fun b =>
    { b with receiver := .hunting, gap := 0, linkErrors := satInc top16 b.linkErrors })).raise srcLinkError

/-- A frame with a good check taken as a command: outstanding, or answered OVERRUN with its own tag, or
discarded with the count (R191, R192). -/
def ControlPort.take (b : ControlPort) (kind : Nat) (tag : Byte) (body : List Byte) : ControlPort :=
  if b.cmds.length < 4 then
    { b with cmds := b.cmds ++ [{ kind := kind, tag := tag, body := body, reply := none }] }
  else
    { b with overruns := satInc top16 b.overruns,
             overrunTags := if b.overrunTags.length < 4 then b.overrunTags ++ [tag] else b.overrunTags }

/-- Whether a length field is possible (R190). -/
def lengthPossible (n : Nat) : Bool := 2 ≤ n && n ≤ 1026

/-- A whole frame judged: length, kind, tag, body and CRC-16 stand in `bytes` (R190). -/
def State.judgeFrame (s : State) (bytes : List Byte) : State :=
  let counted := bytes.take (bytes.length - 2)
  if u16 bytes (bytes.length - 2) = (crc16 counted).toNat then
    s.modBcp (fun b =>
      ({ b with receiver := .hunting, gap := 0 }).take (u8 bytes 2) (bytes.getD 3 0#8) (counted.drop 4))
  else s.discardFrame

/-- A byte joined to those collected after the sync byte (R190). -/
def State.collect (s : State) (bytes : List Byte) : State :=
  if bytes.length < 2 then s.modBcp (fun b => { b with receiver := .collecting bytes, gap := 0 })
  else if !(lengthPossible (u16 bytes 0)) then s.discardFrame
  else if bytes.length < u16 bytes 0 + 4 then
    s.modBcp (fun b => { b with receiver := .collecting bytes, gap := 0 })
  else s.judgeFrame bytes

/-- Whether a frame being collected has waited more than 2 base ticks for its next byte (R190). -/
def ControlPort.overdue (b : ControlPort) : Bool :=
  match b.receiver with
  | .hunting => false
  | .collecting _ => 2 < b.gap

/-- A byte arriving on the control line (R190). A partial frame that is overdue is discarded first. -/
def State.rxByte (s : State) (x : Byte) : State :=
  let s := if s.bcp.overdue then s.discardFrame else s
  match s.bcp.receiver with
  | .hunting =>
    if x = 0xC3#8 then s.modBcp (fun b => { b with receiver := .collecting [], gap := 0 }) else s
  | .collecting bytes => s.collect (bytes ++ [x])

/-! ### Execution in order (R191, R194) -/

/-- The kinds of the command table (section 10.6). -/
def knownKinds : List Nat :=
  [0x10, 0x11, 0x20, 0x21, 0x22, 0x23, 0x30, 0x31, 0x32, 0x33, 0x34, 0x35, 0x40, 0x41, 0x42, 0x43, 0x44,
   0x45, 0x46, 0x47, 0x48, 0x49, 0x4A, 0x4B, 0x4C, 0x4D, 0x4E, 0x50, 0x51, 0x52, 0x53, 0x60, 0x61, 0x70,
   0x71, 0x72, 0x73, 0x74, 0x80, 0x81, 0x82]

/-- The oldest outstanding command not yet executed. -/
def ControlPort.next (b : ControlPort) : Option Outstanding := b.cmds.find? (fun c => c.reply.isNone)

/-- A reply given to the first command that has none. -/
def answerFirst (r : Reply) : List Outstanding → List Outstanding
  | [] => []
  | c :: rest => if c.reply.isNone then { c with reply := some r } :: rest else c :: answerFirst r rest

/-- The reply of the oldest unexecuted command built (R191). -/
def State.reply (s : State) (r : Reply) : State :=
  s.modBcp (fun b => { b with cmds := answerFirst r b.cmds })

/-- An owner's answer as a reply and a state (R191). -/
def Answer.state : Answer → State
  | .done r s => s.reply (.done r)
  | .refused why s => s.reply (.refused why)

/-- BCP's check of the part state before the owner's checks (R194, R195). -/
def portChecks (kind : Nat) (s : State) (k : Answer) : Answer :=
  if s.bcp.part = .startingUp ∧ kind ≠ 0x80 then .refused .busy s else k

/-- A host command of a kind executed: it is the oldest unexecuted one, BCP checks it, its owner answers
its body, the reply is built, and what it set going settles (R191, R194). -/
def runCommand (kind : Nat) (s : State) (owner : List Byte → State → Answer) : Step :=
  live s <|
    match s.bcp.next with
    | none => .refused .noCommandWaiting
    | some c =>
      if c.kind ≠ kind then .refused .otherCommandNext
      else .next (portChecks kind s (owner c.body s)).state.settle

/-- A host command that is executed at an instant (notes/assumptions/1.md). -/
def runCommandAt (kind : Nat) (t : Instant) (s : State) (owner : List Byte → State → Answer) : Step :=
  runCommand kind s (fun body s => owner body (s.takeAt t))

/-! ### The transmit line (R193) -/

/-- Whether a frame is the DONE of SOFT_RESET. -/
def HostFrame.isSoftResetDone : HostFrame → Bool
  | .reply _ (.done .softReset) => true
  | _ => false

/-- A frame begins to leave. -/
def State.sendFrame (s : State) (f : HostFrame) : State :=
  (s.modBcp (fun b => { b with line := some f })).emit (.host f)

/-- A due NOTICE taken at the free line: sent with the next number and the pending set of the moment, or
found empty or with the master off and cancelled (R183). -/
def State.sendNotice (s : State) : State :=
  if s.ntu.master ∧ s.ntu.pending ≠ 0#44 then
    let number := (s.ntu.number + 1) % 256
    ({ s with ntu := { s.ntu with outstanding := false, number := number } }).sendFrame
      (.notice number s.ntu.pending)
  else { s with ntu := { s.ntu with outstanding := false } }

/-- The frame on the line has left; the DONE of SOFT_RESET makes the reset due (R199). -/
def State.lineFreed (s : State) : State :=
  s.modBcp (fun b =>
    { b with line := none, resetDue := b.resetDue || (match b.line with
      | none => false
      | some f => f.isSoftResetDone) })

/-- The next frame chosen from what is ready (R193). No NOTICE begins between the leaving of the DONE of
SOFT_RESET and the reset (R199). -/
def State.nextFrame (s : State) : State :=
  match s.bcp.overrunTags with
  | tag :: rest =>
    (s.modBcp (fun b => { b with overrunTags := rest })).sendFrame (.reply tag (.refused .overrun))
  | [] =>
    match s.bcp.cmds with
    | { tag := tag, reply := some r, .. } :: rest =>
      (s.modBcp (fun b => { b with cmds := rest })).sendFrame (.reply tag r)
    | _ => if s.ntu.outstanding ∧ s.bcp.resetDue = false then s.sendNotice else s

/-! ### Returns of the storage array (R11, R18, R22) -/

/-- The return of an operation in flight: the operation leaves the port and its requester goes on. -/
def withOperation (s : State) (index : Nat) (k : Operation → State → Option State) : Step :=
  arriving s <|
    match s.stc.flight[index]? with
    | none => .refused .notInFlight
    | some o =>
      match k o (s.modStc (fun c => c.returned index o)) with
      | none => .refused .notInFlight
      | some s' => .next s'.settle

/-- Whether the results of returns are discarded: a soft reset's load waits for them (R18). -/
def State.discarding (s : State) : Bool := s.stc.load == .awaitingPort

end Sys2Proof.Machine
end

