-- ==== Sys2Proof/Machine/StorageEvents.lean ====
section
/-! DEFINITION. Meanings of the ingest rows and of the storage array's returns (R17, R22, R29, R35, R40,
R89, R148). -/

namespace Sys2Proof.Machine

open Sys2Proof

/-- CHUNK_OFFER: a frame of the ingest link; one that is no CHUNK or is too short is discarded (R29). -/
def execChunkOffer (frame : List Byte) (s : State) : Step :=
  arriving s <|
    match parseChunk frame with
    | none => .next s
    | some c => .next (s.offer c).settle

/-- TICKET_EXPIRY (R40). -/
def execTicketExpiry (s : State) : Step :=
  live s <| if s.ticketDue then .next s.expireTickets.settle else .refused .notDue

/-- A fault of a lane read or chunk write counted by STC (R22). -/
def State.countFault (s : State) (first : Nat) (faulted : Bool) : State :=
  if faulted then s.modStc (fun c => c.countFaultAt first) else s

/-- Whether a read returned with a fault. -/
def readFailed : Returned → Bool
  | .fault => true
  | .data _ => false

/-- CHUNK_WRITE_RETURN (R22, R35, R36, R44). While a soft reset's load waits for the port the result is
discarded and the slot alone is freed (R18, R33, R50). -/
def execChunkWriteReturn (op : Nat) (ok : Bool) (s : State) : Step :=
  withOperation s op (fun o s =>
    match o.kind with
    | .chunkWrite slot =>
      if s.discarding then some (s.modPka (fun p => p.passOn slot))
      else some ((s.countFault o.first (!ok)).chunkReturn slot ok)
    | .laneRead _ _ _ _ _ _ | .cueRead _ _ _ _ _ _ | .slotWrite _ _ => none)

/-- A catalogue write returned with a fault: counted, raised, and put back for its one retry (R17). -/
def State.slotWriteFault (s : State) (slot : Nat) (retry : Bool) : State :=
  let s := s.catalogueFault
  if retry then s else s.modStc (fun c => c.requeue slot)

/-- CATALOGUE_WRITE_RETURN (R17). -/
def execCatalogueWriteReturn (op : Nat) (ok : Bool) (s : State) : Step :=
  withOperation s op (fun o s =>
    match o.kind with
    | .slotWrite slot retry =>
      if s.discarding ∨ ok then some s else some (s.slotWriteFault slot retry)
    | .laneRead _ _ _ _ _ _ | .cueRead _ _ _ _ _ _ | .chunkWrite _ => none)

/-- LANE_READ_RETURN (R22, R89, R105). -/
def execLaneReadReturn (op : Nat) (r : Returned) (t : Instant) (s : State) : Step :=
  withOperation s op (fun o s =>
    match o.kind with
    | .laneRead l epoch slot item frame sound =>
      let s := s.takeAt t
      if s.discarding then some (s.completeReset l)
      else
        let s := s.countFault o.first (readFailed r)
        let s := if epoch = (s.lane l).pl.fetch.epoch then s.readInto l slot item frame sound r else s
        some (s.completeReset l)
    | .cueRead _ _ _ _ _ _ | .chunkWrite _ | .slotWrite _ _ => none)

/-- A current-epoch cue read taken by its engine; a fault counts as the lane's read fault (R148). -/
def State.cueReturned (s : State) (l : LaneId) (bank : BankId) (item reel index : Nat) (r : Returned) :
    State :=
  let s := s.modSce l (fun e => e.cueReturn bank item reel index r)
  if readFailed r then s.countReadFault l else s

/-- CUE_READ_RETURN (R22, R105, R148). -/
def execCueReadReturn (op : Nat) (r : Returned) (s : State) : Step :=
  withOperation s op (fun o s =>
    match o.kind with
    | .cueRead l epoch bank item reel index =>
      if s.discarding then some (s.completeReset l)
      else
        let s := s.countFault o.first (readFailed r)
        let s := if epoch = (s.lane l).pl.fetch.epoch then s.cueReturned l bank item reel index r else s
        some (s.completeReset l)
    | .laneRead _ _ _ _ _ _ | .chunkWrite _ | .slotWrite _ _ => none)

end Sys2Proof.Machine
end

