-- ==== Sys2Proof/Machine/ClockEvents.lean ====
section
/-! DEFINITION. Meanings of the pulse rows, of the timed events and of the clock's rows (R110 to R120, R133,
R169, R171 to R175, R196). -/

namespace Sys2Proof.Machine

open Sys2Proof

/-! ### Pulses -/

/-- The lane bound to a screen, if any (R75). -/
def State.boundTo (s : State) (c : ScreenId) : Option LaneId :=
  fours.find? (fun l => (s.lane l).pl.screen == some c)

/-- RAW_PULSE: a projector's pulse at its instant; one for an unbound screen, or during an injection run, is
discarded (R75, R110, R111). -/
def execRawPulse (c : ScreenId) (t : Instant) (s : State) : Step :=
  arriving s <|
    let s := s.takeAt t
    match s.boundTo c with
    | none => .next s.settle
    | some l => .next (if (s.lane l).ftm.injection.isSome then s else s.pulse l).settle

/-- A timed event of a lane's monitor taken at its instant: nothing else stands before it, and what fell due
at the last base tick has not undone it. -/
def atInstant (s : State) (l : LaneId) (due : Monitor → Option Instant) (k : State → State) : Step :=
  live s <|
    match due (s.lane l).ftm with
    | none => .refused .notDue
    | some i =>
      let u := s.caughtUp i
      if i ≤ s.horizon ∧ due (u.lane l).ftm = some i then
        .next (k (u.clockTo (max u.clock.now i))).settle
      else .refused .notDue

/-- INJECTED_PULSE (R117). -/
def execInjectedPulse (l : LaneId) (s : State) : Step :=
  atInstant s l Monitor.injectAt (fun s => s.injectedPulse l)

/-- GATE_OVERFLOW (R120). -/
def execGateOverflow (l : LaneId) (s : State) : Step :=
  atInstant s l Monitor.overflowAt (fun s => s.gateOverflow l)

/-- PULSE_LOSS_EXPIRY (R112, R113). -/
def execPulseLossExpiry (l : LaneId) (s : State) : Step :=
  live s <| if (s.lane l).lossDue then .next (s.lossExpiry l).settle else .refused .notDue

/-- BOOTH_SECOND (R196). -/
def execBoothSecond (s : State) : Step :=
  live s <| if s.clock.secondDue then .next s.boothSecond else .refused .notDue

/-! ### The base tick -/

/-- A lane's earliest timed event: its instant, and whether it is the injected pulse, which comes before an overflow at
one instant (R120). DESIGN CHOICE: notes/assumptions/73.md; unsafe. -/
def Monitor.earliest (m : Monitor) : Option (Instant × Bool) :=
  match m.injectAt, m.overflowAt with
  | some a, some b => if a ≤ b then some (a, true) else some (b, false)
  | some a, none => some (a, true)
  | none, some b => some (b, false)
  | none, none => none

/-- The earliest timed event of the lanes, the lowest lane first on a tie. -/
def State.earliest (s : State) : List LaneId → Option (LaneId × Instant × Bool)
  | [] => none
  | l :: rest =>
    match (s.lane l).ftm.earliest, s.earliest rest with
    | none, e => e
    | some a, none => some (l, a)
    | some a, some (k, b) => if a.1 ≤ b.1 then some (l, a) else some (k, b)

/-- Injected pulses and gate overflows before the next base tick, in the order of their instants. At most
two a lane fall in one tick. -/
def State.takeTimed (s : State) : Nat → State
  | 0 => s
  | n + 1 =>
    match s.earliest fours with
    | none => s
    | some (l, i, injected) =>
      if i < s.nextBase then
        let s := s.clockTo (max s.clock.now i)
        (if injected then s.injectedPulse l else s.gateOverflow l).settle.takeTimed n
      else s

/-- The blocks of the tick that ends, lane by lane, and the engine's reports of C (R171, R172, R175). -/
def State.closeTicks (s : State) : State :=
  fours.foldl (fun s l => (s.closeTick l).modLane l Lane.reported) s

/-- The loss timers' count of base ticks, lane by lane (R112). -/
def State.lossTick (s : State) : State := fours.foldl (fun s l => s.modFtm l Monitor.lossTick) s

/-- The receiver's count of base ticks since the last byte of a frame (R190). -/
def ControlPort.tick (b : ControlPort) : ControlPort :=
  match b.receiver with
  | .hunting => b
  | .collecting _ => { b with gap := min 3 (b.gap + 1) }

/-- The clock at a base tick: while booth time is set the sub-second count rises, and the tick that would
bring it to 1,000 stands to be taken by BOOTH_SECOND (R196). -/
def Clock.tick (c : Clock) : Clock :=
  let c := { c with ticks := c.ticks + 1, now := max c.now ((c.ticks + 1) * baseUnits) }
  match c.booth with
  | none => c
  | some _ => if c.sub = 999 then { c with secondDue := true } else { c with sub := c.sub + 1 }

/-- A base tick: wall samples up to it, their blocks offered, then the counts of base ticks. -/
def State.baseTick (s : State) : State :=
  let s := (s.produceTo (48 * (s.clock.ticks + 1))).closeTicks.lossTick
  { s with clock := s.clock.tick, bcp := s.bcp.tick }

/-- BASE_TICK (R171, R196): what fell due before it is taken first. -/
def execBaseTick (s : State) : Step := live s (.next (s.takeOverdue.takeTimed 8).baseTick.settle)

/-! ### Wall samples -/

/-- A lane's event at a wall sample, due when no other event stands before it: the clock passes the sample,
and what fell due at the last base tick has not undone it. -/
def atSample (s : State) (l : LaneId) (due : Sound → Option Nat) : Step :=
  live s <|
    match due (s.lane l).sne with
    | none => .refused .notDue
    | some w =>
      let u := s.caughtUp (w * sampleUnits + 1)
      if w * sampleUnits < s.horizon ∧ due (u.lane l).sne = some w then
        .next (u.clockTo (max u.clock.now (w * sampleUnits + 1))).settle
      else .refused .notDue

/-- A lane's next scheduled correction (R133). -/
def Sound.nextCorrection (u : Sound) : Option Nat :=
  if u.state = .running then
    match u.corrections with
    | [] => none
    | k :: rest => some (rest.foldl (fun m x => min m x.sample) k.sample)
  else none

/-- SLIP_CORRECTION: the wall sample of the next correction is produced, a repeat or a skip (R133, R166). -/
def execSlipCorrection (l : LaneId) (s : State) : Step := atSample s l Sound.nextCorrection

/-- A ramp-down's last wall sample (R169). -/
def Sound.lastFalling (u : Sound) : Option Nat :=
  match u.state, u.ramp with
  | .falling, .down start => some (start + 47)
  | _, _ => none

/-- RAMP_DOWN_END: the 48th wall sample of the ramp-down is produced, and the sound is HELD or OFF (R169). -/
def execRampDownEnd (l : LaneId) (s : State) : Step := atSample s l Sound.lastFalling

/-- SOUND_READY: the head block is sent, or the ready is kept pending (R174). A ready that comes while one is
pending changes nothing. -/
def execSoundReady (s : State) : Step :=
  arriving s <|
    match s.link.queue with
    | _ :: _ => .next s.answerReady
    | [] =>
      if s.link.ready then .next s
      else .next { s with link := { s.link with ready := true, starved := satInc top32 s.link.starved } }

end Sys2Proof.Machine
end

