-- ==== Sys2Proof/Machine/LaneCommands.lean ====
section
/-! DEFINITION. Meanings of the playout lane's commands (R76 to R78, R82 to R85, R93, R95, R100 to R107). -/

namespace Sys2Proof.Machine

open Sys2Proof

/-- DONE with the lane's state after the command. -/
def doneState (l : LaneId) (s : State) : Answer := .done (.laneState (s.lane l).pl.state) s

/-! ### Binding and holds -/

/-- The screen of a screen field: 0 to 3, or none; absent when the field names neither (section 10.6). -/
def screenField (n : Nat) : Option (Option ScreenId) :=
  if h : n < 4 then some (some ⟨n, h⟩) else if n = 255 then some none else none

/-- Whether a screen is bound to another lane (R75). -/
def State.takenElsewhere (s : State) (l : LaneId) (c : ScreenId) : Bool :=
  fours.any (fun k => k != l && (s.lane k).pl.screen == some c)

/-- A lane moved to another screen or to none: a lane reset, the old screen unbound in HOLD, the new bound
in HOLD (R76, R104, R128). -/
def State.rebind (s : State) (l : LaneId) (c : Option ScreenId) : State :=
  let s := s.beginReset l .laneReset true
  let s := match c with
    | none => s
    | some c => s.enterHold c
  (s.modPl l (fun p => { p with screen := c })).completeReset l

/-- ASSIGN_LANE at its owner (R76). -/
def assignLane (l : LaneId) (field : Nat) (s : State) : Answer :=
  match screenField field with
  | none => .refused .badValue s
  | some c =>
    if (s.lane l).pl.screen = c then .done .empty (s.modPl l (fun p => { p with confirmed := true }))
    else
      match c with
      | none => doneState l (s.rebind l none)
      | some x => if s.takenElsewhere l x then .refused .screenTaken s else doneState l (s.rebind l (some x))

/-- ASSIGN_LANE (R76). -/
def execAssignLane (t : Instant) (s : State) : Step :=
  runCommandAt 0x40 t s (fun body s => laneCommand 2 body s (fun l => assignLane l (u8 body 1) s))

/-- HOLD_SCREEN at its owner (R77): a lane that is presenting or preparing is stopped first, its sound ended
at once (R170). The DONE for a screen already in HOLD has the lane's state too. DESIGN CHOICE:
notes/assumptions/67.md; unsafe. -/
def holdScreen (l : LaneId) (s : State) : Answer :=
  match (s.lane l).pl.screen with
  | none => .refused .badState s
  | some c =>
    if s.screenHeld c then doneState l s
    else
      let s := if (s.lane l).pl.state.stoppable then s.stopLane l .held else s
      doneState l ((s.modSne l Sound.ended).enterHold c)

/-- HOLD_SCREEN (R77). -/
def execHoldScreen (t : Instant) (s : State) : Step :=
  runCommandAt 0x41 t s (fun body s => laneCommand 1 body s (fun l => holdScreen l s))

/-- RELEASE_SCREEN at its owner (R78). -/
def releaseScreen (l : LaneId) (s : State) : Answer :=
  match (s.lane l).pl.screen with
  | none => .refused .badState s
  | some c => .done .empty { s with held := s.held.set c false }

/-- RELEASE_SCREEN (R78). -/
def execReleaseScreen (s : State) : Step :=
  runCommand 0x42 s (fun body s => laneCommand 1 body s (fun l => releaseScreen l s))

/-! ### The queue -/

/-- An item of a kind with no marks (R81). -/
def newItem (uid : Nat) (kind : ItemKind) (rate channels : Nat) (frames : List Nat) : Item :=
  { uid := uid, kind := kind, promoted := false, begun := false, blocked := none, rate := rate,
    channels := channels, reelFrames := frames }

/-- An item joined to the tail of a lane's queue; its reply gives its index and the length (R82). -/
def appended (l : LaneId) (kind : ItemKind) (rate channels : Nat) (reelFrames : List Nat)
    (applied : Option Nat) (s : State) : Answer :=
  let p := (s.lane l).pl
  .done (.appended p.queue.length (p.queue.length + 1) applied)
    (s.modPl l (fun p =>
      { p with queue := p.queue ++ [newItem p.uids kind rate channels reelFrames], uids := p.uids + 1 }))

/-- A COMPOSITION appended (R82 steps 4 to 8). -/
def appendComposition (l : LaneId) (body : List Byte) (s : State) : Answer :=
  let pid := u16 body 2
  let first := u8 body 4
  let last := u8 body 5
  let lic := u16 body 6
  identity pid s <| match s.stc.find pid with
  | none => .refused .noSuch s
  | some (_, e) =>
    let d := e.record.decl
    if e.window.state = .retiring then .refused .badState s
    else if last < first ∨ d.reels.length ≤ last then .refused .badValue s
    else if d.licenceRequired ∧ lic = 0 then .refused .licenceNeeded s
    else if (s.lane l).pl.queueRate.isSome ∧ (s.lane l).pl.queueRate ≠ some d.rate then
      .refused .rateChange s
    else
      appended l (.composition pid first last (if lic = 0 then none else some lic)) d.rate d.channels
        (((d.reels.map ReelDecl.frames).take (last + 1)).drop first) none (s.addReference pid)

/-- APPEND_ITEM at its owner (R82). -/
def appendItem (l : LaneId) (body : List Byte) (s : State) : Answer :=
  let full : Bool := 16 ≤ (s.lane l).pl.queue.length
  if body.length < 2 then .refused .badLength s
  else
    match u8 body 1 with
    | 0 =>
      if body.length ≠ 8 then .refused .badLength s
      else if full then .refused .noRoom s
      else appendComposition l body s
    | 1 =>
      if body.length ≠ 4 then .refused .badLength s
      else if full then .refused .noRoom s
      else
        appended l (.black (clampNat 1 14400 (u16 body 2))) 0 0 [] (some (clampNat 1 14400 (u16 body 2))) s
    | 2 =>
      if body.length ≠ 2 then .refused .badLength s
      else if full then .refused .noRoom s
      else appended l .intermission 0 0 [] none s
    | _ => .refused .badValue s

/-- APPEND_ITEM (R82): its body has no one fixed length, and one too short to name a lane is BAD_LENGTH
(R194). -/
def execAppendItem (s : State) : Step :=
  runCommand 0x43 s (fun body s =>
    if body.length < 1 then .refused .badLength s
    else onLane false body s (fun l => appendItem l body s))

/-- REMOVE_ITEM at its owner (R84). -/
def removeItem (l : LaneId) (index : Nat) (s : State) : Answer :=
  match (s.lane l).pl.queue[index]? with
  | none => .refused .badValue s
  | some i =>
    if i.promoted ∨ i.begun then .refused .badState s
    else
      let s := s.removeItems l (fun x => x.uid == i.uid)
      .done (.queueLength (s.lane l).pl.queue.length) s

/-- REMOVE_ITEM (R84). -/
def execRemoveItem (s : State) : Step :=
  runCommand 0x44 s (fun body s => laneCommand 2 body s (fun l => removeItem l (u8 body 1) s))

/-- CLEAR_QUEUE at its owner (R85). -/
def clearQueue (l : LaneId) (s : State) : Answer :=
  let before := (s.lane l).pl.queue.length
  let s := s.removeItems l (fun x => !x.promoted && !x.begun)
  let after := (s.lane l).pl.queue.length
  .done (.cleared (before - after) after) s

/-- CLEAR_QUEUE (R85). -/
def execClearQueue (s : State) : Step :=
  runCommand 0x45 s (fun body s => laneCommand 1 body s (fun l => clearQueue l s))

/-! ### Cueing and starting -/

/-- The promotion of the head item at a CUE: its reservation, or the reason it fails (R90, R93 step 4). -/
def promoteHead (s : State) (l : LaneId) (i : Item) : Except Reason State :=
  match i.licence, i.package with
  | some lic, some pid =>
    match promotionFailure s lic pid with
    | some why => .error why
    | none => .ok (s.reserve l lic pid i.total)
  | _, _ => .ok s

/-- The lane's record at an accepted CUE (R93). -/
def Playout.cueHead (p : Playout) (i : Item) : Playout :=
  { p with state := .cueing, rate := p.queueRate, fault := none, shown := false, inGap := false,
           next := some (i.posAt 0), position := none,
           queue := p.queue.map (fun x => if x.uid = i.uid then { x with promoted := true } else x),
           fetch := { Fetcher.stoppedAt p.fetch.epoch with
             state := .running, cursor := some (.frameOf i.uid (i.posAt 0) false) } }

/-- CUE at its owner (R93). -/
def cueLane (l : LaneId) (s : State) : Answer :=
  let p := (s.lane l).pl
  if p.state ≠ .idle then .refused .badState s
  else if p.screen = none ∨ p.confirmed = false then .refused .badState s
  else if s.laneHeld l then .refused .held s
  else
    match p.queue with
    | [] => .refused .badState s
    | i :: _ =>
      if i.isIntermission ∨ p.queueRate = none then .refused .badState s
      else
        match promoteHead s l i with
        | .error why =>
          .refused why (s.modStats l (fun k => { k with refused := satInc top32 k.refused }))
        | .ok s => .done .empty (s.modPl l (fun p => p.cueHead i))

/-- CUE (R93). -/
def execCue (s : State) : Step :=
  runCommand 0x46 s (fun body s => laneCommand 1 body s (fun l => cueLane l s))

/-- The lane's entry to STARTING: a host gate is aborted, the check gate opened and the loss timer
restarted (R125). -/
def State.enterStarting (s : State) (l : LaneId) : State :=
  let s := (s.abortGate l .aborted).modPl l (fun p => { p with state := .starting })
  s.modFtm l (fun m => { m.restartLoss s.atNextBase with gate := Gate.start .check (some 8) })

/-- START at its owner (R95). -/
def startLane (l : LaneId) (s : State) : Answer :=
  let p := (s.lane l).pl
  if p.state ≠ .cued then .refused .badState s
  else
    match startFailure s (p.queue.head?.bind Item.licence) with
    | some why => .refused why s
    | none => doneState l (if p.set.rateCheck then s.enterStarting l else s.enterPlaying l)

/-- START (R95). -/
def execStart (t : Instant) (s : State) : Step :=
  runCommandAt 0x47 t s (fun body s => laneCommand 1 body s (fun l => startLane l s))

/-! ### Pause, resume, stop and seek -/

/-- PAUSE at its owner (R100). -/
def pauseLane (l : LaneId) (s : State) : Answer :=
  if (s.lane l).pl.state = .playing then .done .empty (s.enterPaused l .host) else .refused .badState s

/-- PAUSE (R100). -/
def execPause (t : Instant) (s : State) : Step :=
  runCommandAt 0x48 t s (fun body s => laneCommand 1 body s (fun l => pauseLane l s))

/-- RESUME at its owner (R101). -/
def resume (l : LaneId) (s : State) : Answer :=
  if (s.lane l).pl.state = .paused then doneState l (s.resumeLane l) else .refused .badState s

/-- RESUME (R101). -/
def execResume (t : Instant) (s : State) : Step :=
  runCommandAt 0x49 t s (fun body s => laneCommand 1 body s (fun l => resume l s))

/-- STOP at its owner (R102). -/
def stop (l : LaneId) (s : State) : Answer :=
  let p := (s.lane l).pl
  if p.state.stoppable then
    let s := s.stopLane l .stop
    .done (.cleared (if p.headBegun then 1 else 0) (s.lane l).pl.queue.length) s
  else .refused .badState s

/-- STOP (R102). -/
def execStop (t : Instant) (s : State) : Step :=
  runCommandAt 0x4A t s (fun body s => laneCommand 1 body s (fun l => stop l s))

/-- SEEK at its owner (R103): a target behind the item's last frame is clamped to it. -/
def seek (l : LaneId) (target : Nat) (s : State) : Answer :=
  let p := (s.lane l).pl
  if p.state ≠ .paused then .refused .badState s
  else
    match p.queue with
    | [] => .refused .badState s
    | i :: _ =>
      if i.isIntermission ∨ i.promoted = false then .refused .badState s
      else .done (.seekTarget (min target (i.total - 1))) (s.seekTo l i (min target (i.total - 1)))

/-- SEEK (R103). -/
def execSeek (t : Instant) (s : State) : Step :=
  runCommandAt 0x4B t s (fun body s => laneCommand 5 body s (fun l => seek l (u32 body 1) s))

/-! ### Settings (R106, R112, R115, R126) -/

/-- One lane's settings changed. -/
def State.modSet (s : State) (l : LaneId) (f : Settings → Settings) : State :=
  s.modPl l (fun p => { p with set := f p.set })

/-- The gap policy of a value (section 10.6). -/
def gapPolicyOf : Int → Option GapPolicy
  | 0 => some .holdLast
  | 1 => some .black
  | 2 => some .stop
  | _ => none

/-- The value of an on or off setting (section 10.6). -/
def switchOf : Int → Option Bool
  | 0 => some false
  | 1 => some true
  | _ => none

/-- A setting that is clamped to a range: the applied value is the reply. -/
def setClamped (l : LaneId) (lo hi v : Int) (s : State) (f : Int → Settings → Settings) : Answer :=
  .done (.applied (clampInt lo hi v)) (s.modSet l (f (clampInt lo hi v)))

/-- The divider set (R115). -/
def setDivider (l : LaneId) (v : Int) (s : State) : Answer :=
  if v = 1 ∨ v = 2 then
    .done (.applied v) ((s.modSet l (fun x => { x with divider := v.toNat })).setDivider l)
  else .refused .badValue s

/-- The rate watch set (R126, R127). -/
def setRateWatch (l : LaneId) (v : Int) (s : State) : Answer :=
  match switchOf v with
  | none => .refused .badValue s
  | some on => .done (.applied v) ((s.modSet l (fun x => { x with rateWatch := on })).setWatch l on)

/-- The loss time set: a running timer that has reached it expires with the command (R112). -/
def setLossTime (l : LaneId) (v : Int) (s : State) : Answer :=
  let s := s.modSet l (fun x => { x with lossTime := (clampInt 100 2000 v).toNat })
  .done (.applied (clampInt 100 2000 v)) (if (s.lane l).lossDue then s.lossExpiry l else s)

/-- SET_LANE at its owner, by the setting codes of section 10.6 (R106). -/
def setLane (l : LaneId) (code : Nat) (v : Int) (s : State) : Answer :=
  match code with
  | 0 =>
    match gapPolicyOf v with
    | none => .refused .badValue s
    | some g => .done (.applied v) (s.modSet l (fun x => { x with gapPolicy := g }))
  | 1 => setClamped l (-4800) 4800 v s (fun v x => { x with soundDelay := v })
  | 2 => setClamped l (-12) 12 v s (fun v x => { x with subtitleOffset := v })
  | 3 => setClamped l 0 16 v s (fun v x => { x with maxSlip := v.toNat })
  | 4 => setClamped l 48 48000 v s (fun v x => { x with resyncLimit := v.toNat })
  | 5 => setClamped l 8 40 v s (fun v x => { x with lowMark := v.toNat })
  | 6 => setDivider l v s
  | 7 => setClamped l 1000 50000 v s (fun v x => { x with tolerance := v.toNat })
  | 8 =>
    match switchOf v with
    | none => .refused .badValue s
    | some on => .done (.applied v) (s.modSet l (fun x => { x with rateCheck := on }))
  | 9 => setRateWatch l v s
  | 10 => setLossTime l v s
  | _ => .refused .badValue s

/-- SET_LANE (R106). -/
def execSetLane (t : Instant) (s : State) : Step :=
  runCommandAt 0x4C t s (fun body s =>
    laneCommand 6 body s (fun l => setLane l (u8 body 1) (s32 body 2) s))

/-! ### Reset and reading -/

/-- LANE_RESET (R104): a RESETTING lane has been refused BUSY by the first checks. -/
def execLaneReset (t : Instant) (s : State) : Step :=
  runCommandAt 0x4D t s (fun body s =>
    laneCommand 1 body s (fun l => doneState l (s.resetLane l .laneReset)))

/-- QUERY_LANE (R107, R160): taken in RESETTING too. -/
def execQueryLane (s : State) : Step :=
  runCommand 0x4E s (fun body s =>
    fixedLength 1 body s (onLane true body s (fun l => .done (.lane (laneReport s l)) s)))

end Sys2Proof.Machine
end

