-- ==== Sys2Proof/Machine/MonitorCommands.lean ====
section
/-! DEFINITION. Meanings of the commands of the frame monitor (R116, R121, R122, R124) and of the sound
engine (R164, R176). -/

namespace Sys2Proof.Machine

open Sys2Proof

/-! ### Gates -/

/-- The gate length of a value (R121, section 10.6); absent when it names none. -/
def gateLength (n : Nat) : Option (Option Nat) :=
  if n = 0 then some none else if n = 2 ∨ n = 8 ∨ n = 32 then some (some n) else none

/-- GATE_START at its owner (R121). -/
def gateStart (l : LaneId) (field : Nat) (s : State) : Answer :=
  let n := s.lane l
  match gateLength field with
  | none => .refused .badValue s
  | some length =>
    if n.pl.state = .starting ∨ n.ftm.watch ∨ n.ftm.gate.state = .opened then .refused .badState s
    else .done .empty (s.modGate l (fun _ => Gate.start .host length))

/-- GATE_START (R121). -/
def execGateStart (s : State) : Step :=
  runCommand 0x50 s (fun body s => laneCommand 2 body s (fun l => gateStart l (u8 body 1) s))

/-- GATE_STOP at its owner: the reply carries the gate record as it stands after the stop (R122). -/
def gateStop (l : LaneId) (s : State) : Answer :=
  let n := s.lane l
  if n.ftm.gate.state = .opened ∧ n.ftm.gate.owner = .host then
    let s := (s.modGate l (fun g => g.stopped n.pl.rate s.clock.now)).raiseGate l .host
    .done (.gateStopped ((s.lane l).ftm.gate.fields s.clock.now)) s
  else .refused .badState s

/-- GATE_STOP (R122). -/
def execGateStop (t : Instant) (s : State) : Step :=
  runCommandAt 0x51 t s (fun body s => laneCommand 1 body s (fun l => gateStop l s))

/-- QUERY_GATE (R124). -/
def execQueryGate (t : Instant) (s : State) : Step :=
  runCommandAt 0x52 t s (fun body s =>
    laneCommand 1 body s (fun l => .done (.gate (gateReport s l)) s))

/-- INJECT_PULSES at its owner (R116, R117). The run starts at the monitor tick at or before the command.
DESIGN CHOICE: notes/assumptions/46.md; unsafe. -/
def injectPulses (l : LaneId) (count q : Nat) (s : State) : Answer :=
  let n := s.lane l
  if s.shc.mode = .live then .refused .rehearsalOnly s
  else if n.pl.state = .idle then .refused .badState s
  else if n.ftm.injection.isSome then .refused .badState s
  else
    let count := clampNat 1 65535 count
    let q := clampNat 9999 999999 q
    let run : Injection := { remaining := count, q := q, nextTick := tickAt s.clock.now + q + 1 }
    .done (.injected count q) (s.modFtm l (fun m => { m with injection := some run }))

/-- INJECT_PULSES (R116). -/
def execInjectPulses (t : Instant) (s : State) : Step :=
  runCommandAt 0x53 t s (fun body s =>
    laneCommand 7 body s (fun l => injectPulses l (u16 body 1) (u32 body 3) s))

/-! ### Channels and sound -/

/-- Whether another enabled channel of a map has an output tag (R164). -/
def tagTaken (map : List Channel) (channel tag : Nat) : Bool :=
  map.zipIdx.any (fun e => e.2 != channel && e.1.enabled && e.1.tag == tag)

/-- A map entry set. At the instant of a base tick the tick that begins reads the new enable and tag at its
start, whichever of the two is taken first (R164); within a tick its channels and tags stand. -/
def Sound.setEntry (u : Sound) (atTick : Bool) (channel : Nat) (c : Channel) : Sound :=
  let map := modifyAt (fun _ => c) channel u.map
  { u with map := map, latched := if atTick && u.built.isEmpty then Channel.latch map else u.latched }

/-- SET_CHANNEL at its owner (R164). -/
def setChannel (l : LaneId) (channel enable tag gain : Nat) (trim : Int) (s : State) : Answer :=
  let map := (s.lane l).sne.map
  if 15 < channel ∨ 1 < enable ∨ 15 < tag then .refused .badValue s
  else if enable = 1 ∧ tagTaken map channel tag then .refused .badValue s
  else
    let c : Channel :=
      { enabled := enable == 1, tag := tag, gain := min gain 131072, trim := clampInt (-4096) 4095 trim }
    .done (.channel c.gain c.trim)
      (s.modSne l (fun u => u.setEntry (s.clock.now == s.lastBase) channel c))

/-- SET_CHANNEL (R164). -/
def execSetChannel (t : Instant) (s : State) : Step :=
  runCommandAt 0x60 t s (fun body s =>
    laneCommand 12 body s (fun l =>
      setChannel l (u8 body 1) (u8 body 2) (u8 body 3) (u32 body 4) (s32 body 8) s))

/-- QUERY_SOUND (R176): taken in RESETTING too. -/
def execQuerySound (t : Instant) (s : State) : Step :=
  runCommandAt 0x61 t s (fun body s =>
    fixedLength 1 body s (onLane true body s (fun l => .done (.sound (soundReport s l)) s)))

end Sys2Proof.Machine
end

