-- ==== Sys2Proof/Config.lean ====
section
/-! DEFINITION. What one part fixes and the manual leaves open. -/

namespace Sys2Proof

/-- The part revision less one. R198 gives the revision as 1 to 255 and no value. DESIGN CHOICE: a
free value, notes/assumptions/6.md; safe. -/
opaque Config.revisionLessOne : Fin 255

/-- The part revision that QUERY_PART reports, 1 to 255 (R198). -/
def Config.revision : Nat := Config.revisionLessOne.val + 1

/-- Enumerations that a reply carries and that no table of section 10.6 gives codes for. -/
inductive ReplyEnumeration where
  | catalogueStatus | retirement | licenceState | outcome | endCause | mode | laneState | pauseCause
  | laneFault | fetcherState | bank | bankState | gateOwner | gateState | gateResult | soundState
  | soundAction | ramp | partState | resetCause
  deriving DecidableEq, Repr

/-- The one-byte code of a value of such an enumeration, given by its place among the enumeration's values;
never 0xFF, which is the absent code (R200). DESIGN CHOICE: a free value, notes/assumptions/7.md; safe. -/
opaque Config.replyCode (e : ReplyEnumeration) (place : Nat) : Fin 255

end Sys2Proof
end

