-- ==== Sys2Proof/Machine/PartCommands.lean ====
section
/-! DEFINITION. Meanings of the commands of the notice unit (R184 to R187), of the control port (R198, R199)
and of the booth clock (R197). -/

namespace Sys2Proof.Machine

open Sys2Proof

/-! ### Notices -/

/-- DONE with the notice unit's state after a command (R184). -/
def doneNotices (s : State) (f : Notices → Notices) : Answer :=
  .done (.notices (f s.ntu).report) { s with ntu := f s.ntu }

/-- The checks of a command that carries a source set: its length, and no number above 43 (R184). -/
def sourceCommand (body : List Byte) (s : State) (k : BitVec 44 → Answer) : Answer :=
  fixedLength 6 body s <|
    if 2 ^ 44 ≤ sourceSet body then .refused .badValue s else k (BitVec.ofNat 44 (sourceSet body))

/-- SET_ENABLES (R184). -/
def execSetEnables (s : State) : Step :=
  runCommand 0x70 s (fun body s => sourceCommand body s (fun set => doneNotices s (fun u => u.enable set)))

/-- CLEAR_ENABLES (R184). -/
def execClearEnables (s : State) : Step :=
  runCommand 0x71 s (fun body s => sourceCommand body s (fun set => doneNotices s (fun u => u.disable set)))

/-- SET_MASTER at its owner (R185). -/
def setMaster (value : Nat) (s : State) : Answer :=
  match value with
  | 0 => doneNotices s (fun u => u.setMaster false)
  | 1 => doneNotices s (fun u => u.setMaster true)
  | _ => .refused .badValue s

/-- SET_MASTER (R185). -/
def execSetMaster (s : State) : Step :=
  runCommand 0x72 s (fun body s => fixedLength 1 body s (setMaster (u8 body 0) s))

/-- ACK_NOTICE (R186). -/
def execAckNotice (s : State) : Step :=
  runCommand 0x73 s (fun body s => sourceCommand body s (fun set => doneNotices s (fun u => u.ack set)))

/-- INJECT_NOTICE at its owner (R187). -/
def injectNotice (set : BitVec 44) (s : State) : Answer :=
  if s.shc.mode = .live then .refused .rehearsalOnly s else doneNotices s (fun u => u.raiseSet set)

/-- INJECT_NOTICE (R187). -/
def execInjectNotice (s : State) : Step :=
  runCommand 0x74 s (fun body s => sourceCommand body s (fun set => injectNotice set s))

/-! ### The part -/

/-- The snapshot of QUERY_PART (R198). -/
def partReport (s : State) : PartReport :=
  { vendor := 0x0D3A, part := "VS4", revision := Config.revision, state := s.bcp.part, mode := s.shc.mode,
    booth := s.clock.booth, cause := s.bcp.cause, capacity := s.stc.capacity, status := s.stc.status,
    windows := s.stc.windows.length, licences := s.shc.licences.length, occupancy := s.shc.occupancy,
    nextSeq := s.shc.nextSeq, storageFaults := s.stc.faults, linkErrors := s.bcp.linkErrors,
    overruns := s.bcp.overruns }

/-- QUERY_PART (R198). -/
def execQueryPart (s : State) : Step :=
  runCommand 0x80 s (fun body s => fixedLength 0 body s (.done (.part (partReport s)) s))

/-- SET_TIME at its owner (R197). -/
def setTime (now : Nat) (s : State) : Answer :=
  .done (.time now s.clock.booth) (({ s with clock := { s.clock with sub := 0 } }).setBooth now)

/-- SET_TIME (R197). -/
def execSetTime (s : State) : Step :=
  runCommand 0x81 s (fun body s => fixedLength 4 body s (setTime (u32 body 0) s))

/-- SOFT_RESET at its owner (R199). -/
def askSoftReset (s : State) : Answer :=
  .done .softReset (s.modBcp (fun b => { b with part := .startingUp, cause := .soft }))

/-- SOFT_RESET (R199). -/
def execSoftReset (s : State) : Step :=
  runCommand 0x82 s (fun body s => fixedLength 0 body s (askSoftReset s))

end Sys2Proof.Machine
end

