-- ==== Sys2Proof/Machine/PortEvents.lean ====
section
/-! DEFINITION. Meanings of the control port's own rows (R190 to R193). -/

namespace Sys2Proof.Machine

open Sys2Proof

/-- COMMAND_FRAME_RECEIVED: bytes arrive, and a frame they complete is judged and taken (R190, R191). -/
def execCommandFrameReceived (bytes : List Byte) (s : State) : Step :=
  arriving s (.next (bytes.foldl State.rxByte s))

/-- SYNC_BYTE_RECEIVED: a byte 0xC3 (R190). -/
def execSyncByteReceived (s : State) : Step := arriving s (.next (s.rxByte 0xC3#8))

/-- FRAME_BYTE_TIMEOUT (R190). -/
def execFrameByteTimeout (s : State) : Step :=
  live s <| if s.bcp.overdue then .next s.discardFrame else .refused .notDue

/-- UNKNOWN_KIND (R191, R194). -/
def execUnknownKind (s : State) : Step :=
  live s <|
    match s.bcp.next with
    | none => .refused .noCommandWaiting
    | some c =>
      if knownKinds.contains c.kind then .refused .otherCommandNext
      else .next (s.reply (.refused .unknownKind))

/-- TRANSMIT_LINE_FREE: the frame on the line, if any, has left, and the next is chosen (R193). -/
def execTransmitLineFree (s : State) : Step := live s (.next s.lineFreed.nextFrame)

end Sys2Proof.Machine
end

