-- ==== Sys2Proof/Machine/ShowingCommands.lean ====
section
/-! DEFINITION. Meanings of the commands of the showing counter (R53 to R56, R69 to R71). -/

namespace Sys2Proof.Machine

open Sys2Proof

/-! ### LOAD_LICENCE (R53) -/

/-- The licence a LOAD_LICENCE body creates, its settings clamped (R53 step 6, section 10.6). -/
def loadedLicence (body : List Byte) : Licence :=
  let showings := min (u16 body 12) 9999
  { id := u16 body 0, packageId := u16 body 2, notBefore := u32 body 4, notAfter := u32 body 8,
    maxShowings := showings,
    count := if 0 < showings then min (u16 body 14) showings else u16 body 14,
    percent := clampNat 1 100 (u8 body 16), revoked := false }

/-- Whether a showing record of a licence is open (R53 step 4). -/
def Showings.openOf (h : Showings) (id : Nat) : Bool :=
  h.log.any (fun r => r.isOpen && r.licenceId == id)

/-- A licence record created, or put in the place of the one it replaces (R53). -/
def Showings.putLicence (h : Showings) (c : Licence) : Showings :=
  if (h.find c.id).isSome then h.modLicence c.id (fun _ => c)
  else { h with licences := h.licences ++ [c] }

/-- LOAD_LICENCE at its owner (R53). -/
def loadLicence (body : List Byte) (s : State) : Answer :=
  let c := loadedLicence body
  let known := (s.shc.find c.id).isSome
  if c.id = 0 ∨ c.packageId = 0 then .refused .badValue s
  else if c.notAfter < c.notBefore then .refused .badValue s
  else if known ∧ (0 < s.shc.heldOf c.id ∨ s.shc.openOf c.id) then .refused .badState s
  else if ¬ known ∧ 64 ≤ s.shc.licences.length then .refused .noRoom s
  else
    .done (.licenceLoaded c.maxShowings c.count c.percent (c.state s.clock.booth))
      { s with shc := s.shc.putLicence c }

/-- LOAD_LICENCE (R53). -/
def execLoadLicence (s : State) : Step :=
  runCommand 0x30 s (fun body s => fixedLength 17 body s (loadLicence body s))

/-! ### REVOKE_LICENCE (R54, R55) -/

/-- Whether a lane uses a licence: it holds a reservation of it in any stage (R55). -/
def Showings.uses (h : Showings) (id : Nat) (l : LaneId) : Bool :=
  (h.reservations.get l).any (fun r => r.licenceId == id)

/-- Whether a lane has an open record (R57). -/
def Showings.hasOpen (h : Showings) (l : LaneId) : Bool :=
  (h.reservations.get l).any (fun r => match r.stage with
    | .promoted => false
    | .showing _ | .qualified _ => true)

/-- A licence's revoked flag set (R54). -/
def State.setRevoked (s : State) (id : Nat) : State :=
  { s with shc := s.shc.modLicence id (fun c => { c with revoked := true }) }

/-- REVOKE_LICENCE at its owner (R54, R55). A forced revoke stops every lane that holds a reservation of the
licence, in ascending lane order. DESIGN CHOICE in that order: notes/assumptions/64.md; unsafe. Every DONE has
both counts, records closed too where nothing was stopped. DESIGN CHOICE: notes/assumptions/57.md; unsafe. -/
def revokeLicence (id force : Nat) (s : State) : Answer :=
  if 1 < force then .refused .badValue s
  else identity id s <| if (s.shc.find id).isNone then .refused .noSuch s
  else if force = 0 then
    if 0 < s.shc.heldOf id then .refused .badState s else .done (.revoked 0 0) (s.setRevoked id)
  else
    let lanes := fours.filter (s.shc.uses id)
    .done (.revoked lanes.length (lanes.filter s.shc.hasOpen).length)
      ((lanes.foldl (fun s l => s.stopLane l .revoked) s).setRevoked id)

/-- REVOKE_LICENCE (R54, R55). -/
def execRevokeLicence (t : Instant) (s : State) : Step :=
  runCommandAt 0x31 t s (fun body s =>
    fixedLength 3 body s (revokeLicence (u16 body 0) (u8 body 2) s))

/-! ### Reading (R56, R69) -/

/-- QUERY_LICENCE at its owner (R56). -/
def queryLicence (id : Nat) (s : State) : Answer :=
  if id = 0 then
    .done (.licences s.shc.licences.length
      (sortBy (fun a b => a.id ≤ b.id) (s.shc.licences.map (licenceLine s)))) s
  else
    match s.shc.find id with
    | none => .refused .noSuch s
    | some c => .done (.licence (licenceReport s c)) s

/-- QUERY_LICENCE (R56). -/
def execQueryLicence (s : State) : Step :=
  runCommand 0x32 s (fun body s => fixedLength 2 body s (queryLicence (u16 body 0) s))

/-- READ_LOG at its owner (R69). -/
def readLog (n limit : Nat) (s : State) : Answer :=
  if s.shc.nextSeq ≤ n ∨ s.shc.nextSeq = 1 then .refused .noSuch s
  else .done (.log (logReport s.shc n (clampNat 1 8 limit))) s

/-- READ_LOG (R69). -/
def execReadLog (s : State) : Step :=
  runCommand 0x33 s (fun body s => fixedLength 5 body s (readLog (u32 body 0) (u8 body 4) s))

/-- The log without its closed records up to a number (R70). -/
def Showings.collected (h : Showings) (n : Nat) : Showings :=
  { h with log := h.log.filter (fun r => r.isOpen || n < r.seq) }

/-- COLLECT_LOG at its owner (R70). -/
def collectLog (n : Nat) (s : State) : Answer :=
  let h := s.shc.collected n
  .done (.collected (s.shc.log.length - h.log.length) h.occupancy) { s with shc := h }

/-- COLLECT_LOG (R70). -/
def execCollectLog (s : State) : Step :=
  runCommand 0x34 s (fun body s => fixedLength 4 body s (collectLog (u32 body 0) s))

/-- GO_LIVE at its owner (R71). -/
def goLive (s : State) : Answer :=
  if s.shc.mode = .live then .done (.mode .live) s
  else if fours.all (fun l => (s.lane l).pl.state == .idle) then
    .done (.mode .live) { s with shc := { s.shc with mode := .live } }
  else .refused .badState s

/-- GO_LIVE (R71). -/
def execGoLive (s : State) : Step := runCommand 0x35 s (fun body s => fixedLength 0 body s (goLive s))

end Sys2Proof.Machine
end

