-- ==== Sys2Proof/Machine/Startup.lean ====
section
/-! DEFINITION. The start-up load (R18 to R21, R49) and the resets (R195, R199). -/

namespace Sys2Proof.Machine

open Sys2Proof

/-! ### Moves of the load -/

/-- The load's place set. -/
def State.loadAt (s : State) (x : Load) : State := s.modStc (fun c => { c with load := x })

/-- A start-up read issued (R18); it does not pass through the arbiter. -/
def State.loadRead (s : State) (x : Load) (first count : Nat) : State :=
  (s.loadAt x).emit (.storageRead first count)

/-- A start-up write of one block issued. -/
def State.loadWrite (s : State) (x : Load) (first : Nat) (image : List Byte) : State :=
  (s.loadAt x).emit (.storageWrite first 1 (padToBlock image))

/-- The end of the load: the part is READY (R21). -/
def State.loadEnd (s : State) : State :=
  ((s.modStc (fun c => { c with load := .idle, draining := [], guard := 0 })).modBcp
    (fun b => { b with part := .ready })).settle

/-- The catalogue found UNAVAILABLE: a storage fault, and the end of the load (R18, R19). -/
def State.unavailable (s : State) : State :=
  ((s.modStc (fun c => { c with status := some .unavailable })).catalogueFault).loadEnd

/-- The capacity read failed or is too small (R18). -/
def State.noCapacity (s : State) : State := (s.modStc (fun c => { c with capacity := 0 })).unavailable

/-- The write of an empty slot while formatting. -/
def State.formatSlot (s : State) (slot : Nat) (retry : Bool) : State :=
  s.loadWrite (.formatWrite slot retry) (64 + 64 * slot) emptyImage

/-- The write of an empty slot after its image was not restored. -/
def State.emptySlot (s : State) (slot : Nat) (retry : Bool) : State :=
  s.loadWrite (.emptyWrite slot retry) (64 + 64 * slot) emptyImage

/-- The slots formatted on from one behind the last (R19). -/
def State.formatOn (s : State) (slot : Nat) : State :=
  if slot < 32 then s.formatSlot slot false else s.loadEnd

/-- The slots read on from one behind the last judged (R20, R21). -/
def State.readOn (s : State) (slot : Nat) : State :=
  if slot < 32 then s.loadRead (.slotRead slot) (64 + 64 * slot) 64 else s.loadEnd

/-! ### Restoring a slot (R20, R49) -/

/-- The declaration a slot image records. -/
def SlotImage.decl (m : SlotImage) : Declaration :=
  { packageId := m.packageId, rate := m.rate, slotBlocks := m.slotBlocks, channels := m.channels,
    licenceRequired := m.licenceRequired == 1, reels := m.reels.map Prod.fst }

/-- The fields of a declaration are in the ranges of R25. -/
def Declaration.inRange (d : Declaration) : Bool :=
  1 ≤ d.packageId && d.packageId ≤ 65535 && editRates.contains d.rate && 1 ≤ d.slotBlocks
    && d.slotBlocks ≤ 64 && d.channels ≤ 16 && 1 ≤ d.reels.length && d.reels.length ≤ 12
    && d.reels.all (fun r => 1 ≤ r.frames && r.frames ≤ 216000 && r.cues ≤ 512)

/-- Whether a received-range list keeps the form of R27 within a track's units: ascending, apart, and at
most 16 long. -/
def rangesSound (units : Nat) : List Span → Bool
  | [] => true
  | [a] => a.lo < a.hi && a.hi ≤ units
  | a :: b :: rest => a.lo < a.hi && a.hi < b.lo && rangesSound units (b :: rest)

/-- A recorded list fits its track: an absent track has none (R26, R27, section 10.6). -/
def rangesFit (t : Option Track) (l : List Span) : Bool :=
  match t with
  | none => l.isEmpty
  | some t => l.length ≤ 16 && rangesSound t.units l

/-- A track with a recorded list. -/
def Track.recorded (t : Track) (l : List Span) : Track := { t with received := l }

/-- The tracks of the reels with their recorded lists, three to a reel, or none when one does not fit. -/
def restoreTracks : List ReelTracks → List (List Span) → Option (List ReelTracks)
  | [], _ => some []
  | r :: rest, p :: a :: c :: more =>
    if rangesFit (some r.picture) p && rangesFit r.sound a && rangesFit r.subtitle c then
      (restoreTracks rest more).map (fun rs =>
        { picture := r.picture.recorded p, sound := r.sound.map (fun t => t.recorded a),
          subtitle := r.subtitle.map (fun t => t.recorded c) } :: rs)
    else none
  | _ :: _, _ => none

/-- The window state of a code that a slot may be restored in. -/
def restoredState : Nat → Option WindowState
  | 0 => some .filling
  | 1 => some .complete
  | _ => none

/-- Whether two windows share a block. -/
def Window.meets (a b : Window) : Bool := a.base ≤ b.limit && b.base ≤ a.limit

/-- The window and place of an image: size, layout, capacity, and no clash with the windows restored from
lower slots (R20). The layout is compared unwrapped, so that a start the image could not hold drops the slot.
DESIGN CHOICE: notes/assumptions/63.md; unsafe. -/
def SlotImage.placedIn (m : SlotImage) (c : Storage) (w : Window) : Bool :=
  m.limit + 1 == m.base + m.decl.windowSize && w.layout == m.reels.map Prod.snd && 4096 ≤ m.base
    && m.limit < c.capacity && c.windows.all (fun x => !(x.meets w) && x.packageId != m.packageId)

/-- The table entry that a slot image restores, or none when it is to be dropped (R20, R49). -/
def restoreSlot (c : Storage) (m : SlotImage) : Option TableEntry :=
  match restoredState m.state with
  | none => none
  | some st =>
    let d := m.decl
    let w : Window := { newWindow d m.base with limit := m.limit, state := st, faults := m.faults }
    if d.inRange && m.licenceRequired ≤ 1 && m.placedIn c w then
      (restoreTracks (newRecord d).reels m.ranges).map (fun reels =>
        { window := w, record := { newRecord d with reels := reels } })
    else none

/-- A slot dropped: a storage fault, and the slot written empty (R20). -/
def State.dropSlot (s : State) (slot : Nat) : State := s.catalogueFault.emptySlot slot false

/-- A slot image with a correct check judged (R20, R49). -/
def State.judgeSlot (s : State) (slot : Nat) (m : SlotImage) : State :=
  if m.packageId = 0 then s.readOn (slot + 1)
  else if m.state = 2 then s.emptySlot slot false
  else
    match restoreSlot s.stc m with
    | none => s.dropSlot slot
    | some e =>
      ((s.modStc (fun c => { c with table := modifyAt (fun _ => some e) slot c.table })).testComplete
        m.packageId).readOn (slot + 1)

/-! ### Writes of the load (R19, R20) -/

/-- A write of the load returned with a fault: counted, raised and retried once at once; a header that
faults twice makes the catalogue UNAVAILABLE, a slot that does is left (R19, R20). -/
def State.loadWriteFault (s : State) : State :=
  let s := s.catalogueFault
  match s.stc.load with
  | .headerWrite false => s.loadWrite (.headerWrite true) 0 headerBytes
  | .headerWrite true => (s.modStc (fun c => { c with status := some .unavailable })).loadEnd
  | .formatWrite slot false => s.formatSlot slot true
  | .formatWrite slot true => s.formatOn (slot + 1)
  | .emptyWrite slot false => s.emptySlot slot true
  | .emptyWrite slot true => s.readOn (slot + 1)
  | .idle | .awaitingPort | .capacityRead | .headerRead | .slotRead _ => s

/-- A write of the load returned with success. -/
def State.loadWriteDone (s : State) : State :=
  match s.stc.load with
  | .headerWrite _ => s.formatSlot 0 false
  | .formatWrite slot _ => s.formatOn (slot + 1)
  | .emptyWrite slot _ => s.readOn (slot + 1)
  | .idle | .awaitingPort | .capacityRead | .headerRead | .slotRead _ => s

/-- Whether the load waits for a write. -/
def Load.writing : Load → Bool
  | .headerWrite _ | .formatWrite _ _ | .emptyWrite _ _ => true
  | .idle | .awaitingPort | .capacityRead | .headerRead | .slotRead _ => false

/-! ### Resets (R195, R199) -/

/-- The power-on values with the queue of waiting commands and the outputs already sent kept; the release of
the pin sends LINK_RESET (R48) and no CLEAR on a screen link. DESIGN CHOICE: notes/assumptions/5.md and
44.md; unsafe. -/
def State.powerOn (s : State) (pin : Bool) : State :=
  { State.reset with pin := pin, pending := s.pending,
                     out := if pin then s.out else s.out ++ [.linkReset] }

/-- A staging slot after a soft reset: a WRITING one is left to its write's return, any other is FREE (R33,
R48, R50). DEDUCED in when R48's "All six slots become FREE" takes effect: notes/assumptions/49.md; unsafe. -/
def Staging.abandoned : Staging → Staging
  | .writing c payload orphan => .writing c payload orphan
  | .free | .reserved _ | .held _ _ => .free

/-- The package assembler abandons its work in flight and sends LINK_RESET (R48). -/
def State.abandonIngest (s : State) : State :=
  (s.modPka (fun p =>
    { p with staging := p.staging.map Staging.abandoned, order := [], tickets := [],
             outstanding := 0 })).emit .linkReset

/-- Every lane's reset at a soft reset, with their completions; a lane that is RESETTING already stays so
until its reads have returned (R80, R104, R105, R199). -/
def State.resetLanes (s : State) : State := fours.foldl (fun s l => s.resetLane l .softReset) s

/-- A lane at its power-on binding, settings, map and monitor (R108, R128, R163). -/
def Lane.afterSoftReset (n : Lane) (l : LaneId) : Lane :=
  { pl := { n.pl with screen := some l, set := .defaults, confirmed := false },
    ftm := .reset, sce := .reset,
    sne := { Sound.reset with built := n.sne.built.map (fun _ => Sound.reset.quiet) } }

/-- The storage controller waits for the port; its table goes and will be rebuilt (R18, R23). -/
def Storage.afterSoftReset (c : Storage) : Storage :=
  { c with status := none, table := List.replicate 32 none, draining := [], queue := [], guard := 0,
           load := .awaitingPort }

/-- The soft reset as it proceeds once the DONE has left (R199). -/
def State.softReset (s : State) : State :=
  let s := { s with ntu := .reset }
  let s := s.abandonIngest.resetLanes
  { s with
    lanes := Quad.ofFn (fun l => (s.lane l).afterSoftReset l), held := ⟨true, true, true, true⟩,
    link := .reset, stc := s.stc.afterSoftReset,
    bcp := { s.bcp with part := .startingUp, resetDue := false } }

end Sys2Proof.Machine
end

