-- ==== Sys2Proof/Machine/StartupEvents.lean ====
section
/-! DEFINITION. Meanings of the reset and start-up rows: the pin, the start-up load's events, and the soft
reset. -/

namespace Sys2Proof.Machine

open Sys2Proof

/-- POWER_ON_RESET: the pin is released (R195, R48). -/
def execPowerOnReset (s : State) : Step := .next (s.powerOn false)

/-- RESET_PIN_ASSERTED: the whole part is held in reset (R195). -/
def execResetPinAsserted (s : State) : Step := .next (s.powerOn true)

/-- STARTUP_LOAD_BEGIN: with the port idle, the capacity is read (R18). -/
def execStartupLoadBegin (s : State) : Step :=
  live s <|
    if s.stc.load = .awaitingPort ∧ s.stc.flight.isEmpty then
      .next ((s.loadAt .capacityRead).emit .capacityRead)
    else .refused .loadElsewhere

/-- CAPACITY_READ_RETURN (R18, R19). -/
def execCapacityReadReturn (blocks : Nat) (s : State) : Step :=
  live s <|
    if s.stc.load = .capacityRead then
      if blocks < 4096 then .next s.noCapacity
      else
        .next ((s.modStc (fun c => { c with capacity := min blocks 4294967296 })).loadRead .headerRead 0 1)
    else .refused .loadElsewhere

/-- CAPACITY_READ_NO_ANSWER (R18). -/
def execCapacityReadNoAnswer (s : State) : Step :=
  live s <| if s.stc.load = .capacityRead then .next s.noCapacity else .refused .loadElsewhere

/-- HEADER_READ_RETURN (R19). -/
def execHeaderReadReturn (r : Returned) (s : State) : Step :=
  live s <|
    if s.stc.load = .headerRead then
      match r with
      | .fault => .next s.unavailable
      | .data block =>
        if headerGood block then
          .next ((s.modStc (fun c => { c with status := some .loaded })).readOn 0)
        else
          .next ((s.modStc (fun c => { c with status := some .formatted })).loadWrite (.headerWrite false) 0
            headerBytes)
    else .refused .loadElsewhere

/-- FORMAT_WRITE_RETURN: a write of the load returns (R19, R20). -/
def execFormatWriteReturn (ok : Bool) (s : State) : Step :=
  live s <|
    if s.stc.load.writing then .next (if ok then s.loadWriteDone else s.loadWriteFault)
    else .refused .loadElsewhere

/-- SLOT_READ_RETURN (R20, R49). -/
def execSlotReadReturn (r : Returned) (s : State) : Step :=
  live s <|
    match s.stc.load with
    | .slotRead slot =>
      match r with
      | .fault => .next (s.dropSlot slot)
      | .data bytes =>
        match parseSlot bytes with
        | none => .next (s.dropSlot slot)
        | some m => .next (s.judgeSlot slot m)
    | .idle | .awaitingPort | .capacityRead | .headerRead | .headerWrite _ | .formatWrite _ _
    | .emptyWrite _ _ => .refused .loadElsewhere

/-- Whether the DONE of SOFT_RESET is on the line. -/
def ControlPort.doneLeaving (b : ControlPort) : Bool :=
  match b.line with
  | none => false
  | some f => f.isSoftResetDone

/-- SOFT_RESET_PROCEED: the DONE has left, and the soft reset is one event at each block (R199). -/
def execSoftResetProceed (t : Instant) (s : State) : Step :=
  live s <|
    if s.bcp.resetDue || s.bcp.doneLeaving then
      let s := if s.bcp.doneLeaving then s.modBcp (fun b => { b with line := none }) else s
      .next (s.takeAt t).softReset.settle
    else .refused .noSoftReset

end Sys2Proof.Machine
end

