-- ==== Sys2Proof/Machine/StorageCommands.lean ====
section
/-! DEFINITION. Meanings of the commands of the storage controller (R7, R10) and of the package assembler
(R25, R41, R44, R47). -/

namespace Sys2Proof.Machine

open Sys2Proof

/-- QUERY_WINDOWS (R10). -/
def execQueryWindows (s : State) : Step :=
  runCommand 0x10 s (fun body s => fixedLength 0 body s (.done (.windows s.stc.report) s))

/-- RETIRE_PACKAGE at its owner (R7). -/
def retirePackage (pid : Nat) (s : State) : Answer :=
  identity pid s <| match s.stc.find pid with
  | none => .refused .noSuch s
  | some (i, e) =>
    if e.window.state = .retiring then .refused .badState s
    else if e.window.refs = 0 then .done .gone (s.release pid)
    else
      .done (.retiring e.window.refs)
        (s.modStc (fun c => (c.modWindow pid (fun w => { w with state := .retiring })).request i))

/-- RETIRE_PACKAGE (R7). -/
def execRetirePackage (s : State) : Step :=
  runCommand 0x11 s (fun body s => fixedLength 2 body s (retirePackage (u16 body 0) s))

/-- The reel entries of a declaration (section 10.6). -/
def declaredReels (body : List Byte) : Nat → List ReelDecl
  | 0 => []
  | n + 1 => { frames := u32 body 0, cues := u16 body 4 } :: declaredReels (body.drop 6) n

/-- The declaration of a body of the right length (section 10.6). -/
def declared (body : List Byte) : Declaration :=
  { packageId := u16 body 0, rate := u8 body 2, slotBlocks := u8 body 3, channels := u8 body 4,
    licenceRequired := u8 body 5 == 1, reels := declaredReels (body.drop 7) (u8 body 6) }

/-- The fields of a declaration that are identities of the content (R25 step 4). -/
def Declaration.acceptable (d : Declaration) (licenceFlag : Nat) : Bool :=
  1 ≤ d.packageId && editRates.contains d.rate && 1 ≤ d.slotBlocks && d.slotBlocks ≤ 64
    && d.channels ≤ 16 && licenceFlag ≤ 1
    && d.reels.all (fun r => 1 ≤ r.frames && r.frames ≤ 216000 && r.cues ≤ 512)

/-- A placed declaration: its window and record enter the lowest empty entry (R4, R24). -/
def State.addPackage (s : State) (d : Declaration) (slot base : Nat) : State :=
  s.modStc (fun c =>
    ({ c with table := modifyAt (fun _ => some { window := newWindow d base, record := newRecord d }) slot
                c.table }).request slot)

/-- DECLARE_PACKAGE at its owner (R25, R4). -/
def declarePackage (body : List Byte) (s : State) : Answer :=
  let d := declared body
  if body.length < 7 then .refused .badLength s
  else if u8 body 6 < 1 ∨ 12 < u8 body 6 then .refused .badValue s
  else if body.length ≠ 7 + 6 * u8 body 6 then .refused .badLength s
  else if !(d.acceptable (u8 body 5)) then .refused .badValue s
  else if (s.stc.find d.packageId).isSome then .refused .badState s
  else
    match s.stc.freeEntry with
    | none => .refused .noRoom s
    | some slot =>
      match s.stc.place d.windowSize with
      | none => .refused .noSpace s
      | some base => .done (.placed base (base + d.windowSize - 1)) (s.addPackage d slot base)

/-- DECLARE_PACKAGE (R25). -/
def execDeclarePackage (s : State) : Step := runCommand 0x20 s declarePackage

/-- ABORT_PACKAGE at its owner (R44). -/
def abortPackage (pid : Nat) (s : State) : Answer :=
  identity pid s <| match s.stc.find pid with
  | none => .refused .noSuch s
  | some (_, e) =>
    if 0 < e.window.refs then .refused .badState s else .done .empty (s.release pid)

/-- ABORT_PACKAGE (R44). -/
def execAbortPackage (s : State) : Step :=
  runCommand 0x21 s (fun body s => fixedLength 2 body s (abortPackage (u16 body 0) s))

/-- QUERY_PACKAGE at its owner (R47). -/
def queryPackage (pid reel : Nat) (s : State) : Answer :=
  identity pid s <| match s.stc.find pid with
  | none => .refused .noSuch s
  | some (_, e) =>
    match e.record.reels[reel]? with
    | none => .refused .badValue s
    | some r => .done (.package (packageReport s e r)) s

/-- QUERY_PACKAGE (R47). -/
def execQueryPackage (s : State) : Step :=
  runCommand 0x22 s (fun body s => fixedLength 3 body s (queryPackage (u16 body 0) (u8 body 2) s))

/-- SET_INGEST at its owner (R41). -/
def setIngest (value : Nat) (s : State) : Answer :=
  match value with
  | 0 => .done (.discard .short) (s.modPka (fun p => { p with setting := .short })).expireTickets
  | 1 => .done (.discard .long) (s.modPka (fun p => { p with setting := .long }))
  | _ => .refused .badValue s

/-- SET_INGEST (R41). -/
def execSetIngest (s : State) : Step :=
  runCommand 0x23 s (fun body s => fixedLength 1 body s (setIngest (u8 body 0) s))

end Sys2Proof.Machine
end

