-- ==== Sys2Proof/Machine/Dispatch.lean ====
section
/-! DEFINITION. The dispatch of every command to its meaning, one arm per row of spec/opcode_table.json. -/

namespace Sys2Proof.Machine

open Sys2Proof

def exec (i : Instr) (s : State) : Host.Outcome State Fault Refusal :=
  match i with
  | .powerOnReset => Sys2Proof.Machine.execPowerOnReset s
  | .startupLoadBegin => Sys2Proof.Machine.execStartupLoadBegin s
  | .capacityReadReturn blocks => Sys2Proof.Machine.execCapacityReadReturn blocks s
  | .headerReadReturn r => Sys2Proof.Machine.execHeaderReadReturn r s
  | .formatWriteReturn ok => Sys2Proof.Machine.execFormatWriteReturn ok s
  | .slotReadReturn r => Sys2Proof.Machine.execSlotReadReturn r s
  | .commandFrameReceived bytes => Sys2Proof.Machine.execCommandFrameReceived bytes s
  | .frameByteTimeout => Sys2Proof.Machine.execFrameByteTimeout s
  | .unknownKind => Sys2Proof.Machine.execUnknownKind s
  | .transmitLineFree => Sys2Proof.Machine.execTransmitLineFree s
  | .softResetProceed t => Sys2Proof.Machine.execSoftResetProceed t s
  | .queryWindows => Sys2Proof.Machine.execQueryWindows s
  | .retirePackage => Sys2Proof.Machine.execRetirePackage s
  | .declarePackage => Sys2Proof.Machine.execDeclarePackage s
  | .abortPackage => Sys2Proof.Machine.execAbortPackage s
  | .queryPackage => Sys2Proof.Machine.execQueryPackage s
  | .setIngest => Sys2Proof.Machine.execSetIngest s
  | .loadLicence => Sys2Proof.Machine.execLoadLicence s
  | .revokeLicence t => Sys2Proof.Machine.execRevokeLicence t s
  | .queryLicence => Sys2Proof.Machine.execQueryLicence s
  | .readLog => Sys2Proof.Machine.execReadLog s
  | .collectLog => Sys2Proof.Machine.execCollectLog s
  | .goLive => Sys2Proof.Machine.execGoLive s
  | .assignLane t => Sys2Proof.Machine.execAssignLane t s
  | .holdScreen t => Sys2Proof.Machine.execHoldScreen t s
  | .releaseScreen => Sys2Proof.Machine.execReleaseScreen s
  | .appendItem => Sys2Proof.Machine.execAppendItem s
  | .removeItem => Sys2Proof.Machine.execRemoveItem s
  | .clearQueue => Sys2Proof.Machine.execClearQueue s
  | .cue => Sys2Proof.Machine.execCue s
  | .start t => Sys2Proof.Machine.execStart t s
  | .pause t => Sys2Proof.Machine.execPause t s
  | .resume t => Sys2Proof.Machine.execResume t s
  | .stop t => Sys2Proof.Machine.execStop t s
  | .seek t => Sys2Proof.Machine.execSeek t s
  | .setLane t => Sys2Proof.Machine.execSetLane t s
  | .laneReset t => Sys2Proof.Machine.execLaneReset t s
  | .queryLane => Sys2Proof.Machine.execQueryLane s
  | .gateStart => Sys2Proof.Machine.execGateStart s
  | .gateStop t => Sys2Proof.Machine.execGateStop t s
  | .queryGate t => Sys2Proof.Machine.execQueryGate t s
  | .injectPulses t => Sys2Proof.Machine.execInjectPulses t s
  | .setChannel t => Sys2Proof.Machine.execSetChannel t s
  | .querySound t => Sys2Proof.Machine.execQuerySound t s
  | .setEnables => Sys2Proof.Machine.execSetEnables s
  | .clearEnables => Sys2Proof.Machine.execClearEnables s
  | .setMaster => Sys2Proof.Machine.execSetMaster s
  | .ackNotice => Sys2Proof.Machine.execAckNotice s
  | .injectNotice => Sys2Proof.Machine.execInjectNotice s
  | .queryPart => Sys2Proof.Machine.execQueryPart s
  | .setTime => Sys2Proof.Machine.execSetTime s
  | .softReset => Sys2Proof.Machine.execSoftReset s
  | .chunkOffer frame => Sys2Proof.Machine.execChunkOffer frame s
  | .ticketExpiry => Sys2Proof.Machine.execTicketExpiry s
  | .chunkWriteReturn op ok => Sys2Proof.Machine.execChunkWriteReturn op ok s
  | .catalogueWriteReturn op ok => Sys2Proof.Machine.execCatalogueWriteReturn op ok s
  | .laneReadReturn op r t => Sys2Proof.Machine.execLaneReadReturn op r t s
  | .cueReadReturn op r => Sys2Proof.Machine.execCueReadReturn op r s
  | .rawPulse screen t => Sys2Proof.Machine.execRawPulse screen t s
  | .injectedPulse lane => Sys2Proof.Machine.execInjectedPulse lane s
  | .pulseLossExpiry lane => Sys2Proof.Machine.execPulseLossExpiry lane s
  | .gateOverflow lane => Sys2Proof.Machine.execGateOverflow lane s
  | .baseTick => Sys2Proof.Machine.execBaseTick s
  | .slipCorrection lane => Sys2Proof.Machine.execSlipCorrection lane s
  | .rampDownEnd lane => Sys2Proof.Machine.execRampDownEnd lane s
  | .soundReady => Sys2Proof.Machine.execSoundReady s
  | .boothSecond => Sys2Proof.Machine.execBoothSecond s
  | .resetPinAsserted => Sys2Proof.Machine.execResetPinAsserted s
  | .capacityReadNoAnswer => Sys2Proof.Machine.execCapacityReadNoAnswer s
  | .syncByteReceived => Sys2Proof.Machine.execSyncByteReceived s

end Sys2Proof.Machine
end

