-- ==== Sys2Proof/Machine/Replies.lean ====
section
/-! DEFINITION. The frames the part sends to the host as bytes: DONE, REFUSED and NOTICE (R189, R191, R200,
section 10.6). The manual lists a DONE body's fields and gives no widths: each stands in the order of its
rule, as wide as in a command body or stored record that holds it, else in the fewest bytes that hold its
range, but for the fields named in notes/assumptions/80.md. DESIGN CHOICE: notes/assumptions/7.md, 80.md; unsafe. -/

namespace Sys2Proof.Machine

open Sys2Proof

/-! ### Fields -/

/-- A number in a width of bytes, most significant first (R200). -/
def num : Nat → Nat → List Byte
  | 0, _ => []
  | w + 1, n => num w (n / 256) ++ [BitVec.ofNat 8 n]

/-- A number or its absent code, all ones (R200). -/
def numOr (w : Nat) (n : Option Nat) : List Byte := num w (n.getD (256 ^ w - 1))

/-- A signed number in two's complement (R200). -/
def int (w : Nat) (x : Int) : List Byte := num w (x % (256 ^ w : Nat)).toNat

/-- A signed number or its absent code, all ones as for counts and times, which the value -1 has too. R200 gives
signed fields no code. DESIGN CHOICE: notes/assumptions/54.md; unsafe. -/
def intOr (w : Nat) (x : Option Int) : List Byte := int w (x.getD (-1))

/-- A flag: 0 clear, 1 set. -/
def flag (b : Bool) : List Byte := num 1 b.toNat

/-- A value of an enumeration without codes of its own. -/
def code (e : ReplyEnumeration) (place : Nat) : List Byte := num 1 (Config.replyCode e place).val

/-- A value of such an enumeration, or the absent code 0xFF (R200). -/
def codeOr (e : ReplyEnumeration) (place : Option Nat) : List Byte :=
  numOr 1 (place.map (fun i => (Config.replyCode e i).val))

/-- A list, its length first. -/
def counted {α : Type} (f : α → List Byte) (l : List α) : List Byte := num 1 l.length ++ (l.map f).flatten

/-! ### Storage and ingest -/

/-- A range of units. -/
def spanBytes (r : Span) : List Byte := num 4 r.lo ++ num 4 r.hi

/-- A window entry of QUERY_WINDOWS (R10). -/
def WindowReport.bytes (w : WindowReport) : List Byte :=
  num 1 w.index ++ num 2 w.packageId ++ num 1 w.state.code ++ num 4 w.base ++ num 4 w.limit ++ num 1 w.refs
    ++ num 2 w.faults

/-- QUERY_WINDOWS (R10). The free blocks, largest gap and draining blocks have the five bytes of the capacity, where
four would hold them. DESIGN CHOICE: notes/assumptions/80.md; unsafe. -/
def WindowsReport.bytes (r : WindowsReport) : List Byte :=
  codeOr .catalogueStatus (r.status.map CatalogueStatus.ctorIdx) ++ num 5 r.capacity ++ num 5 r.free
    ++ num 5 r.largestGap ++ num 5 r.drainingBlocks ++ num 1 r.count
    ++ (r.windows.map WindowReport.bytes).flatten

/-- The code of a discard setting (section 10.6). -/
def DiscardSetting.code : DiscardSetting → Nat
  | .short => 0
  | .long => 1

/-- A track of QUERY_PACKAGE (R47). The unit count has the width of a frame count, and bit l of the last byte is lane l
of the stalled set. DESIGN CHOICE: notes/assumptions/80.md; unsafe. -/
def TrackReport.bytes (t : TrackReport) : List Byte :=
  num 1 t.kind.ctorIdx ++ num 4 t.units ++ flag t.complete ++ counted spanBytes t.received
    ++ counted spanBytes t.inFlight ++ num 1 ((fours.filter t.stalled.contains).map (fun l => 2 ^ l.val)).sum

/-- QUERY_PACKAGE (R47); the number of the reel's tracks stands before them. -/
def PackageReport.bytes (r : PackageReport) : List Byte :=
  num 1 r.state.code ++ num 1 r.reelCount ++ num 1 r.tracksComplete ++ num 1 r.tracksPresent
    ++ num 1 r.takenSince ++ num 2 r.badChecks ++ num 2 r.writeFaults ++ num 1 r.ownTickets
    ++ counted TrackReport.bytes r.tracks ++ num 1 r.setting.code ++ num 1 r.slotsFree
    ++ num 1 r.slotsReserved ++ num 1 r.slotsHeld ++ num 1 r.slotsWriting ++ num 1 r.tickets
    ++ num 1 r.outstanding ++ num 2 r.discards

/-! ### Licences and the log -/

/-- A line of the licence summary (R56). -/
def LicenceLine.bytes (r : LicenceLine) : List Byte :=
  num 2 r.id ++ num 2 r.packageId ++ code .licenceState r.state.ctorIdx ++ num 2 r.count ++ num 1 r.held
    ++ num 2 r.maxShowings

/-- QUERY_LICENCE of one record: the fields of R51, then those of R56. -/
def LicenceReport.bytes (r : LicenceReport) : List Byte :=
  let c := r.licence
  num 2 c.id ++ num 2 c.packageId ++ num 4 c.notBefore ++ num 4 c.notAfter ++ num 2 c.maxShowings
    ++ num 2 c.count ++ num 1 r.held ++ num 1 c.percent ++ flag c.revoked
    ++ code .licenceState r.state.ctorIdx ++ flag r.notYet ++ num 1 r.openShowings
    ++ (r.perLane.toList.map (fun k => num 1 k.promoted ++ num 1 k.showing ++ num 1 k.qualified)).flatten
    ++ numOr 2 r.remaining

/-- A showing record (R60). -/
def ShowRecord.bytes (r : ShowRecord) : List Byte :=
  num 4 r.seq ++ num 2 r.licenceId ++ num 2 r.packageId ++ num 1 r.lane.val
    ++ numOr 1 (r.screen.map Fin.val) ++ flag r.rehearsal ++ numOr 4 r.start ++ numOr 4 r.qualify
    ++ numOr 4 r.ended ++ num 4 r.real ++ num 4 r.fill ++ code .outcome r.outcome.ctorIdx
    ++ codeOr .endCause (r.cause.map EndCause.ctorIdx)

/-- READ_LOG (R69). Held slots and open records are as wide as closed records. DESIGN CHOICE:
notes/assumptions/80.md; unsafe. -/
def LogReport.bytes (r : LogReport) : List Byte :=
  num 5 r.nextSeq ++ num 4 r.lowest ++ num 2 r.heldSlots ++ num 2 r.openRecords ++ num 2 r.closedRecords
    ++ num 1 r.returned ++ (r.records.map ShowRecord.bytes).flatten

/-! ### Lanes -/

/-- The place of a lane's fault among its values: a promotion's reasons stand behind the others (R74). -/
def LaneFault.place : LaneFault → Nat
  | .rateMismatch => 0
  | .noPulses => 1
  | .gap => 2
  | .pulseLost => 3
  | .promotion why => 3 + why.code

/-- An item's kind and fields, as APPEND_ITEM carries them (R82, section 10.6). -/
def ItemKind.bytes : ItemKind → List Byte
  | .composition pid first last licence =>
    num 1 0 ++ num 2 pid ++ num 1 first ++ num 1 last ++ num 2 (licence.getD 0)
  | .black frames => num 1 1 ++ num 2 frames
  | .intermission => num 1 2

/-- An item of the queue part (R107); its total frames have the width of a frame count. DESIGN CHOICE:
notes/assumptions/80.md; unsafe. -/
def ItemReport.bytes (i : ItemReport) : List Byte :=
  i.kind.bytes ++ num 4 i.total ++ flag i.promoted ++ flag i.begun ++ numOr 1 (i.blocked.map Reason.code)

/-- A place, or its absent code; both frame numbers have the width that SEEK gives an item frame. DESIGN CHOICE:
notes/assumptions/80.md; unsafe. -/
def posBytes (p : Option Pos) : List Byte :=
  numOr 4 (p.map Pos.frame) ++ numOr 1 (p.map Pos.reel) ++ numOr 4 (p.map Pos.reelFrame)

/-- The settings in the order of their codes, each as SET_LANE carries it (R106, section 10.6). -/
def Settings.bytes (x : Settings) : List Byte :=
  int 4 x.gapPolicy.ctorIdx ++ int 4 x.soundDelay ++ int 4 x.subtitleOffset ++ int 4 x.maxSlip
    ++ int 4 x.resyncLimit ++ int 4 x.lowMark ++ int 4 x.divider ++ int 4 x.tolerance
    ++ int 4 x.rateCheck.toNat ++ int 4 x.rateWatch.toNat ++ int 4 x.lossTime

/-- The statistics (R107). -/
def LaneStats.bytes (k : LaneStats) : List Byte :=
  num 4 k.real ++ num 4 k.fill ++ num 4 k.gaps ++ num 4 k.stalls ++ num 4 k.readFaults ++ num 4 k.itemsDone
    ++ num 4 k.refused

/-- A bank of the subtitles part (R160). -/
def BankReport.bytes (b : BankReport) : List Byte :=
  code .bankState b.state.ctorIdx ++ numOr 1 (b.reel.map Prod.fst) ++ numOr 1 (b.reel.map Prod.snd)
    ++ num 2 b.entries ++ num 2 b.cursor

/-- An active slot of the subtitles part; a free one has a cue number of all ones and nothing more (R160).
DESIGN CHOICE: notes/assumptions/60.md; unsafe. -/
def activeBytes : Option ActiveReport → List Byte
  | none => numOr 2 none
  | some a => num 2 a.number ++ num 4 a.inAt ++ num 4 a.outAt ++ num 1 a.opacity ++ flag a.hidden

/-- QUERY_LANE (R107, R160). A pause cause, fault or other field of which the rule says none has the absent code of
R200. DESIGN CHOICE: notes/assumptions/79.md; unsafe. The cursor's reel frame is as wide as in a place. DESIGN CHOICE:
notes/assumptions/80.md; unsafe. -/
def LaneReport.bytes (r : LaneReport) : List Byte :=
  code .laneState r.state.ctorIdx ++ numOr 1 (r.screen.map Fin.val) ++ numOr 1 (r.held.map Bool.toNat)
    ++ flag r.confirmed ++ numOr 1 r.rate ++ codeOr .pauseCause (r.pause.map PauseCause.ctorIdx)
    ++ codeOr .laneFault (r.fault.map LaneFault.place) ++ counted ItemReport.bytes r.queue
    ++ code .fetcherState r.fetchState.ctorIdx ++ numOr 1 (r.cursor.map Prod.fst)
    ++ numOr 1 (r.cursor.map (fun c => c.2.1)) ++ numOr 4 (r.cursor.map (fun c => c.2.2))
    ++ counted (fun h => num 1 h.1 ++ num 1 h.2) r.inHand ++ num 1 r.slotsReading ++ num 1 r.slotsReady
    ++ num 1 r.slotsPresented ++ num 1 r.slotsFree ++ num 1 r.slotsFaulted ++ num 1 r.readsInFlight
    ++ posBytes r.next ++ posBytes r.position ++ flag r.inGap ++ r.stats.bytes ++ r.set.bytes
    ++ codeOr .bank (r.current.map BankId.ctorIdx) ++ r.bankA.bytes ++ r.bankB.bytes
    ++ (r.active.toList.map activeBytes).flatten ++ flag r.rebuild ++ num 4 r.bad ++ num 4 r.dropped
    ++ num 4 r.missing

/-! ### Monitors and sound -/

/-- The gate record; its length as GATE_START carries it (R118, section 10.6). The measured rate has four bytes. DESIGN
CHOICE: notes/assumptions/80.md; unsafe. -/
def GateFields.bytes (g : GateFields) : List Byte :=
  code .gateOwner g.owner.ctorIdx ++ code .gateState g.state.ctorIdx ++ num 1 (g.length.getD 0)
    ++ flag g.opened ++ num 4 g.pulses ++ num 3 g.ticks
    ++ codeOr .gateResult (g.result.map GateResult.ctorIdx) ++ numOr 4 g.rate ++ intOr 4 g.deviation

/-- QUERY_GATE (R124). A stopped loss timer is ticks elapsed of all ones, and a running one has no byte that says so.
DESIGN CHOICE: notes/assumptions/77.md; unsafe. The settings are narrower than SET_LANE carries them. DESIGN CHOICE:
notes/assumptions/80.md; unsafe. -/
def GateReport.bytes (r : GateReport) : List Byte :=
  r.gate.bytes ++ num 1 r.divider ++ num 1 r.phase ++ flag r.absent ++ numOr 2 r.lossTimer
    ++ num 2 r.lossTime ++ flag r.rateWatch ++ flag r.watch ++ flag r.rateOut ++ num 2 r.tolerance
    ++ num 4 r.watchGates ++ flag r.injecting ++ num 2 r.remaining ++ num 4 r.q ++ num 4 r.accepted
    ++ num 2 r.glitches ++ num 4 r.counted ++ num 2 r.lossExpiries

/-- The last action, with s for a slip (R162). -/
def SoundAction.bytes : SoundAction → List Byte
  | .none => codeOr .soundAction Option.none
  | .seat => code .soundAction 0
  | .slip s => code .soundAction 1 ++ int 1 s
  | .resync => code .soundAction 2

/-- The place of a ramp among its values; none is absent (R162). -/
def Ramp.place : Ramp → Option Nat
  | .none => Option.none
  | .up _ => some 0
  | .down _ => some 1
  | .resync _ => some 2

/-- A channel map entry, as SET_CHANNEL carries it (R163, section 10.6). -/
def Channel.bytes (c : Channel) : List Byte := flag c.enabled ++ num 1 c.tag ++ num 4 c.gain ++ int 4 c.trim

/-- A lane's sound counts (R176). -/
def SoundCounts.bytes (k : SoundCounts) : List Byte :=
  num 4 k.resyncs ++ num 4 k.repeats ++ num 4 k.skips ++ num 4 k.offered ++ num 4 k.admitted
    ++ num 4 k.dropped ++ num 4 k.blocks

/-- QUERY_SOUND (R176). C, the error and a correction's wall sample have eight bytes, a correction's sign is 1 for a
repeat, and a ramp's position is one byte. DESIGN CHOICE: notes/assumptions/80.md; unsafe. -/
def SoundReport.bytes (r : SoundReport) : List Byte :=
  code .soundState r.state.ctorIdx ++ intOr 8 r.pointer ++ numOr 2 r.spf ++ numOr 4 r.frame ++ intOr 8 r.error
    ++ r.last.bytes ++ counted (fun k => num 8 k.sample ++ flag k.repeated) r.corrections
    ++ codeOr .ramp r.ramp.place ++ numOr 1 r.rampAt ++ flag r.seatPending
    ++ (r.map.map Channel.bytes).flatten ++ r.counts.bytes ++ num 2 r.held ++ num 2 r.free ++ flag r.ready
    ++ num 4 r.sent ++ num 4 r.starved ++ num 4 r.dropped

/-! ### Notices and the part -/

/-- The notice unit's state (R184). -/
def NoticeReport.bytes (r : NoticeReport) : List Byte :=
  sourceSetBytes r.raised ++ sourceSetBytes r.enabled ++ flag r.master ++ num 1 r.number

/-- QUERY_PART (R198). Booth time UNSET stands as all ones, which the booth time 4,294,967,295 has too. DESIGN
CHOICE: notes/assumptions/55.md; unsafe. The part code's characters stand as their ASCII codes. DESIGN CHOICE:
notes/assumptions/78.md; unsafe. -/
def PartReport.bytes (r : PartReport) : List Byte :=
  num 2 r.vendor ++ r.part.toList.map (fun c => BitVec.ofNat 8 c.toNat) ++ num 1 r.revision
    ++ code .partState r.state.ctorIdx ++ code .mode r.mode.ctorIdx ++ numOr 4 r.booth
    ++ code .resetCause r.cause.ctorIdx ++ num 5 r.capacity
    ++ codeOr .catalogueStatus (r.status.map CatalogueStatus.ctorIdx) ++ num 1 r.windows ++ num 1 r.licences
    ++ num 2 r.occupancy ++ num 5 r.nextSeq ++ num 2 r.storageFaults ++ num 2 r.linkErrors
    ++ num 2 r.overruns

/-! ### Frames -/

/-- The body of a DONE reply: the fields its command's rule names (R191). A booth time that was UNSET before
SET_TIME stands as in QUERY_PART: notes/assumptions/55.md. -/
def Result.bytes : Result → List Byte
  | .empty | .softReset => []
  | .windows r => r.bytes
  | .gone => code .retirement 0
  | .retiring refs => code .retirement 1 ++ num 1 refs
  | .placed base limit => num 4 base ++ num 4 limit
  | .package r => r.bytes
  | .discard setting => num 1 setting.code
  | .licenceLoaded most count percent state =>
    num 2 most ++ num 2 count ++ num 1 percent ++ code .licenceState state.ctorIdx
  | .revoked lanes records => num 1 lanes ++ num 1 records
  | .licences count lines => num 1 count ++ (lines.map LicenceLine.bytes).flatten
  | .licence r => r.bytes
  | .log r => r.bytes
  | .collected removed occupancy => num 2 removed ++ num 2 occupancy
  | .mode m => code .mode m.ctorIdx
  | .laneState x => code .laneState x.ctorIdx
  | .appended index length frames => num 1 index ++ num 1 length ++ (frames.map (num 2)).getD []
  | .queueLength n => num 1 n
  | .cleared removed length => num 1 removed ++ num 1 length
  | .seekTarget frame => num 4 frame
  | .applied v => int 4 v
  | .lane r => r.bytes
  | .gateStopped g => g.bytes
  | .gate r => r.bytes
  | .injected count q => num 2 count ++ num 4 q
  | .channel gain trim => num 4 gain ++ int 4 trim
  | .sound r => r.bytes
  | .notices r => r.bytes
  | .part r => r.bytes
  | .time now before => num 4 now ++ numOr 4 before

/-- The kind of a frame the part sends (section 10.6). -/
def HostFrame.kind : HostFrame → Nat
  | .reply _ (.done _) => 0x01
  | .reply _ (.refused _) => 0x02
  | .notice _ _ => 0x03

/-- The tag of a frame the part sends: its command's, and 0 for a NOTICE (R189). -/
def HostFrame.tag : HostFrame → Byte
  | .reply tag _ => tag
  | .notice _ _ => 0x00#8

/-- The body of a frame the part sends (section 10.6). -/
def HostFrame.body : HostFrame → List Byte
  | .reply _ (.done r) => r.bytes
  | .reply _ (.refused why) => num 1 why.code
  | .notice number pending => num 1 number ++ sourceSetBytes pending

/-- A frame the part sends, whole: sync, length, kind, tag, body and CRC-16 (R189). -/
def HostFrame.bytes (f : HostFrame) : List Byte := hostFrameBytes f.kind f.tag f.body

end Sys2Proof.Machine
end

