-- ==== Sys2Proof/Safety.lean ====
section
/-! DEFINITION. The terms that claims use: a state with a command ready to be executed, what a command
leaves, and the invariants that every step is to keep. -/

namespace Sys2Proof.Machine

open Sys2Proof

/-! ### Host commands -/

/-- The part is READY, not held in reset, and the oldest unexecuted command has this kind and body. -/
def State.Commanded (s : State) (kind : Nat) (body : List Byte) : Prop :=
  s.pin = false ∧ s.bcp.part = .ready ∧ ∃ tag, s.bcp.next = some ⟨kind, tag, body, none⟩

/-- What a host command leaves: its reply built, and what it set going settled. -/
def State.answered (s : State) (r : Reply) : State := (s.reply r).settle

/-- The row of the table that executes a command kind (section 10.6). -/
def hostRow (t : Instant) : Nat → Option Instr
  | 0x10 => some .queryWindows
  | 0x11 => some .retirePackage
  | 0x20 => some .declarePackage
  | 0x21 => some .abortPackage
  | 0x22 => some .queryPackage
  | 0x23 => some .setIngest
  | 0x30 => some .loadLicence
  | 0x31 => some (.revokeLicence t)
  | 0x32 => some .queryLicence
  | 0x33 => some .readLog
  | 0x34 => some .collectLog
  | 0x35 => some .goLive
  | 0x40 => some (.assignLane t)
  | 0x41 => some (.holdScreen t)
  | 0x42 => some .releaseScreen
  | 0x43 => some .appendItem
  | 0x44 => some .removeItem
  | 0x45 => some .clearQueue
  | 0x46 => some .cue
  | 0x47 => some (.start t)
  | 0x48 => some (.pause t)
  | 0x49 => some (.resume t)
  | 0x4A => some (.stop t)
  | 0x4B => some (.seek t)
  | 0x4C => some (.setLane t)
  | 0x4D => some (.laneReset t)
  | 0x4E => some .queryLane
  | 0x50 => some .gateStart
  | 0x51 => some (.gateStop t)
  | 0x52 => some (.queryGate t)
  | 0x53 => some (.injectPulses t)
  | 0x60 => some (.setChannel t)
  | 0x61 => some (.querySound t)
  | 0x70 => some .setEnables
  | 0x71 => some .clearEnables
  | 0x72 => some .setMaster
  | 0x73 => some .ackNotice
  | 0x74 => some .injectNotice
  | 0x80 => some .queryPart
  | 0x81 => some .setTime
  | 0x82 => some .softReset
  | _ => none

/-- The frame of a command on one lane: of the part, only what the command's rule names may differ. The pin,
the queue of waiting commands, the clock's counts and booth time, the licences and the mode, the array's
capacity and status, the assembler's setting and counts, the sound link, the notice enables and every field
of the control port but the outstanding commands are as before; and of every other lane the screen, the
settings, the rate, the place, the pause, the fault, the statistics kept by presentation, the kinds of the
queued items, the monitor and the channel map are as before, its state too but for CUEING to CUED. -/
def LaneFrame (s u : State) (l : LaneId) : Prop :=
  u.pin = s.pin ∧ u.pending = s.pending
    ∧ u.clock.booth = s.clock.booth ∧ u.clock.sub = s.clock.sub ∧ u.clock.ticks = s.clock.ticks
    ∧ u.clock.secondDue = s.clock.secondDue
    ∧ u.bcp = { s.bcp with cmds := u.bcp.cmds }
    ∧ u.shc.licences = s.shc.licences ∧ u.shc.nextSeq = s.shc.nextSeq ∧ u.shc.mode = s.shc.mode
    ∧ u.stc.capacity = s.stc.capacity ∧ u.stc.status = s.stc.status ∧ u.stc.faults = s.stc.faults
    ∧ u.stc.load = s.stc.load
    ∧ u.pka.setting = s.pka.setting ∧ u.pka.discards = s.pka.discards ∧ u.link = s.link
    ∧ u.ntu.enabled = s.ntu.enabled ∧ u.ntu.master = s.ntu.master ∧ u.ntu.number = s.ntu.number
    ∧ ∀ k, k ≠ l → (u.lane k).ftm = (s.lane k).ftm ∧ (u.lane k).sne.map = (s.lane k).sne.map
        ∧ (u.lane k).pl.screen = (s.lane k).pl.screen ∧ (u.lane k).pl.confirmed = (s.lane k).pl.confirmed
        ∧ (u.lane k).pl.set = (s.lane k).pl.set ∧ (u.lane k).pl.rate = (s.lane k).pl.rate
        ∧ (u.lane k).pl.next = (s.lane k).pl.next ∧ (u.lane k).pl.position = (s.lane k).pl.position
        ∧ (u.lane k).pl.pause = (s.lane k).pl.pause ∧ (u.lane k).pl.fault = (s.lane k).pl.fault
        ∧ (u.lane k).pl.stats.real = (s.lane k).pl.stats.real
        ∧ (u.lane k).pl.stats.fill = (s.lane k).pl.stats.fill
        ∧ (u.lane k).pl.queue.map Item.kind = (s.lane k).pl.queue.map Item.kind
        ∧ ((u.lane k).pl.state = (s.lane k).pl.state
          ∨ (s.lane k).pl.state = .cueing ∧ (u.lane k).pl.state = .cued)

/-- The start-up load after the last word on a slot: the next slot is read, and behind slot 31 the load ends
and the part is READY (R20, R21). -/
def State.ReadsOn (t : State) (slot : Nat) : Prop :=
  (slot < 31 → t.stc.load = .slotRead (slot + 1)) ∧ (slot = 31 → t.stc.load = .idle ∧ t.bcp.part = .ready)

/-- The notice unit with new raised and enabled sets: a NOTICE is due if one was, or if with the master on the
pending set has gained a source (R182). -/
def Notices.Became (u n : Notices) (raised enabled : BitVec 44) : Prop :=
  n.raised = raised ∧ n.enabled = enabled ∧ n.master = u.master ∧ n.number = u.number
    ∧ (n.outstanding = true ↔ u.outstanding = true
      ∨ u.master = true ∧ (raised &&& enabled) &&& ~~~(u.raised &&& u.enabled) ≠ 0#44)

/-- Whether a staging slot is HELD with a chunk of a package (R33). -/
def Staging.heldFor (pid : Nat) : Staging → Bool
  | .held c _ => c.packageId == pid
  | .free | .reserved _ | .writing _ _ _ => false

/-- The buffered slot of a lane's next frame, not presented yet (R97). -/
def State.headSlot (s : State) (l : LaneId) (i : Item) (pos : Pos) : Option BufSlot :=
  (s.lane l).pl.buffer.find? (fun b => b.item == i.uid && b.pos == pos && b.stage != .presented)

/-- What a fill leaves of a lane: one more fill, GAP raised, the lane in a gap with something shown, a new gap
counted, its place and its state as they were (R98). -/
def State.Filled (s u : State) (l : LaneId) : Prop :=
  (u.lane l).pl.shown = true ∧ (u.lane l).pl.inGap = true
    ∧ (u.lane l).pl.stats = { (s.lane l).pl.stats with
        fill := satInc top32 (s.lane l).pl.stats.fill,
        gaps := if (s.lane l).pl.inGap then (s.lane l).pl.stats.gaps
          else satInc top32 (s.lane l).pl.stats.gaps }
    ∧ (u.lane l).pl.position = (s.lane l).pl.position ∧ (u.lane l).pl.state = (s.lane l).pl.state
    ∧ u.ntu.raised.getLsbD (laneSource l srcGap) = true

/-- What a gap under policy STOP leaves of a lane: PAUSED by it with its fault, nothing counted, and only HIDEs
sent on the screen link (R98, R155). -/
def State.GapPaused (s u : State) (l : LaneId) (c : ScreenId) : Prop :=
  (u.lane l).pl.state = .paused ∧ (u.lane l).pl.pause = some .gap ∧ (u.lane l).pl.fault = some .gap
    ∧ (u.lane l).pl.stats = (s.lane l).pl.stats ∧ (u.lane l).pl.position = (s.lane l).pl.position
    ∧ u.ntu.raised.getLsbD (laneSource l srcLaneFault) = true
    ∧ ∃ more, u.out = s.out ++ more ∧ ∀ x ∈ more, ∃ k, x = Output.screen c (.hide k)

/-- The slot a fetched frame takes: the lowest-numbered free one, READY for a BLACK frame, and READING for a frame of
a COMPOSITION, whose picture read, and sound read where it has sound, are awaited (R87, R88). -/
def Playout.TakesSlot (p : Playout) (b : BufSlot) (i : Item) (pos : Pos) : Prop :=
  (∀ x ∈ p.buffer, x.num ≠ b.num) ∧ (∀ n, (∀ x ∈ p.buffer, x.num ≠ n) → b.num ≤ n) ∧ b.num < 48
    ∧ b = { num := b.num, item := i.uid, pos := pos, composition := i.isComposition, hasSound := 0 < i.channels,
            faulted := false, stage := if i.isComposition then .reading else .ready,
            awaiting := if i.isComposition then (if 0 < i.channels then 2 else 1) else 0, picture := [],
            sound := [] }

/-- A block's operation counted: the windows that hold the block have their operations in flight changed so, and
nothing else of the table is different (R1). -/
def Storage.Counts (x y : Storage) (block : Nat) (f : Nat → Nat) : Prop :=
  ∀ j : Nat, (x.table[j]? = some none → y.table[j]? = some none)
    ∧ ∀ e, x.table[j]? = some (some e) → y.table[j]? = some (some { e with window := { e.window with
        ops := if e.window.base ≤ block ∧ block ≤ e.window.limit then f e.window.ops else e.window.ops } })

/-- A grant's one operation on the storage port: in flight behind those before it, counted in the window that holds its
blocks unless it writes a catalogue slot, and sent to the array as the read of its blocks, or as the write of data to
them (R1, R11). -/
def State.Issues (s u : State) (o : Operation) (data : Option (List Byte)) : Prop :=
  u.stc.flight = s.stc.flight ++ [o]
    ∧ (match o.kind with
      | .slotWrite _ _ => u.stc.table = s.stc.table
      | .laneRead _ _ _ _ _ _ | .cueRead _ _ _ _ _ _ | .chunkWrite _ => s.stc.Counts u.stc o.first (fun n => n + 1))
    ∧ u.out = s.out ++ [match data with
      | none => .storageRead o.first o.count
      | some d => .storageWrite o.first o.count d]

/-- What a consumed last frame of an item leaves before the item's end is taken: its slot free, the item begun, no
next frame in it, its reel no longer in hand, and nothing but the lane changed in storage, ingest, time and the
other lanes (R91, R98). -/
def State.Consumed (s u : State) (l : LaneId) (i : Item) (b : BufSlot) : Prop :=
  (u.lane l).pl.buffer = (s.lane l).pl.buffer.filter (fun x => x.num != b.num)
    ∧ (u.lane l).pl.queue
      = (s.lane l).pl.queue.map (fun x => if x.uid = i.uid then { x with begun := true } else x)
    ∧ (u.lane l).pl.next = none ∧ (u.lane l).pl.rate = (s.lane l).pl.rate
    ∧ (u.lane l).pl.set = (s.lane l).pl.set
    ∧ (u.lane l).pl.fetch = { (s.lane l).pl.fetch with
        inHand := if i.isComposition then (s.lane l).pl.fetch.inHand.filter (fun r => r != (i.uid, b.pos.reel))
          else (s.lane l).pl.fetch.inHand }
    ∧ u.clock = s.clock ∧ u.stc = s.stc ∧ u.pka = s.pka ∧ ∀ k, k ≠ l → u.lane k = s.lane k

/-- Whether a record is one that a lane's reservations name (R57). -/
def Showings.namedBy (h : Showings) (l : LaneId) (x : ShowRecord) : Bool :=
  (h.reservations.get l).any (fun r => r.stage == .showing x.seq || r.stage == .qualified x.seq)

/-- The log after a lane's stop: the record that a reservation of the lane names is closed at the booth time with
the stop's cause, COUNTED_EARLY_END if it has qualified and ABANDONED if not, and no other record changes (R64). -/
def State.StopClosesRecord (s u : State) (l : LaneId) (cause : EndCause) : Prop :=
  u.shc.log = s.shc.log.map (fun x => if s.shc.namedBy l x then
    { x with ended := s.clock.booth, cause := some cause,
             outcome := if x.qualify.isSome then .countedEarlyEnd else .abandoned } else x)

/-- What an output sends on a screen's link. -/
def Output.onScreen (c : ScreenId) : Output → Option ScreenCommand
  | .screen d x => if d = c then some x else none
  | .host _ | .verdict _ _ _ | .linkReset | .soundBlock _ | .capacityRead | .storageRead _ _
  | .storageWrite _ _ _ => none

/-- From one state to another, the outputs added send just these commands on each screen's link, in order. -/
def State.Sends (s u : State) (sent : ScreenId → List ScreenCommand) : Prop :=
  ∃ more, u.out = s.out ++ more ∧ ∀ c, more.filterMap (Output.onScreen c) = sent c

/-- What a lane sends on its own screen's link; a screen in HOLD, and one not the lane's, is sent nothing (R75). -/
def State.onOwn (s : State) (l : LaneId) (sent : List ScreenCommand) (c : ScreenId) : List ScreenCommand :=
  if (s.lane l).pl.screen = some c ∧ s.screenHeld c = false then sent else []

/-- The commands of the active slots that satisfy a test, in ascending slot order (R153). -/
def CueEngine.slotCommands (e : CueEngine) (f : Fin 4 → ActiveCue → Option ScreenCommand) : List ScreenCommand :=
  fours.filterMap (fun k => (e.active.get k).bind (f k))

/-- Some licence that was VALID or SPENT is EXPIRED at the new booth time (R52). -/
def Showings.Expires (h : Showings) (before after : Option Nat) : Prop :=
  ∃ c ∈ h.licences, (c.state before = .valid ∨ c.state before = .spent) ∧ c.state after = .expired

/-- Whether a ticket waits for a freed staging slot (R37). -/
def Ticket.waits (t : Ticket) : Prop := t.cause = .stagingFull ∧ t.slot = none

/-! ### Invariants -/

/-- What every step keeps. -/
def Kept (inv : State → Prop) : Prop := ∀ s s', inv s → step s = .next s' → inv s'

/-- Holds and lane states (R75): no screen is bound to two lanes, a lane whose screen is in HOLD, or that
has none, is IDLE or RESETTING, and an open check gate stands only on a STARTING lane (R114, R123). -/
def State.HoldsSilence (s : State) : Prop :=
  (∀ l k c, (s.lane l).pl.screen = some c → (s.lane k).pl.screen = some c → l = k)
    ∧ (∀ l, s.laneHeld l = true → (s.lane l).pl.state = .idle ∨ (s.lane l).pl.state = .resetting)
    ∧ (∀ l, (s.lane l).ftm.gate.state = .opened → (s.lane l).ftm.gate.owner = .check →
        (s.lane l).pl.state = .starting)

/-- Licences (R51, R57): ids stand once, every reservation's licence is in the table, and for every limited
licence count and held together do not pass max showings. -/
def State.LicencesConserved (s : State) : Prop :=
  (s.shc.licences.map Licence.id).Nodup
    ∧ (∀ r ∈ s.shc.allReservations, ∃ c ∈ s.shc.licences, c.id = r.licenceId)
    ∧ (∀ c ∈ s.shc.licences, c.maxShowings ≠ 0 → c.count + s.shc.heldOf c.id ≤ c.maxShowings)

/-- Windows (R2): every window lies within [4,096, capacity - 1], no two share a block or a package id; a load
in progress finds the part STARTING_UP, and until the capacity has been read no window stands. -/
def State.WindowsApart (s : State) : Prop :=
  (∀ w ∈ s.stc.windows, 4096 ≤ w.base ∧ w.base ≤ w.limit ∧ w.limit < s.stc.capacity)
    ∧ s.stc.windows.Pairwise (fun a b =>
        (a.limit < b.base ∨ b.limit < a.base) ∧ a.packageId ≠ b.packageId)
    ∧ (s.stc.load ≠ .idle → s.bcp.part = .startingUp)
    ∧ (s.stc.load = .awaitingPort ∨ s.stc.load = .capacityRead → s.stc.windows = [])

/-- A 24-bit sample value (R136). -/
def inSampleRange (x : Int) : Prop := -8388608 ≤ x ∧ x ≤ 8388607

/-- Every sample built for a tick or queued for the sound link is a 24-bit value (R136). -/
def State.SamplesInRange (s : State) : Prop :=
  (∀ l, ∀ v ∈ (s.lane l).sne.built, ∀ x ∈ v, inSampleRange x)
    ∧ (∀ b ∈ s.link.queue, ∀ x ∈ b.samples, inSampleRange x)

/-- A wall sample's values are the emitted samples of the channels of the tick, from each channel's content and the
ramp factor, by its gain and trim in the map (R136, R171). -/
def Sound.Carries (u : Sound) (v : List Int) (r : Nat) (content : Nat → Int) : Prop :=
  v.length = u.latched.length
    ∧ ∀ (i : Nat) (e : Nat × Nat) (c : Channel), u.latched[i]? = some e → u.map[e.1]? = some c →
        v[i]? = some (emitSample (content e.1) r c.gain c.trim)

/-- The tick that runs (R171): the clock and the wall samples produced lie within it, each lane has built a value for
every one of those and every channel of the tick, and a RUNNING lane has a pointer (R162). -/
def State.TickBuilt (s : State) : Prop :=
  s.clock.now ≤ s.nextBase ∧ 48 * s.clock.ticks ≤ s.clock.samples ∧ s.clock.samples ≤ 48 * (s.clock.ticks + 1)
    ∧ ∀ l, (s.lane l).sne.built.length + 48 * s.clock.ticks = s.clock.samples
        ∧ (∀ v ∈ (s.lane l).sne.built, v.length = (s.lane l).sne.latched.length)
        ∧ ((s.lane l).sne.state = .running → (s.lane l).sne.pointer ≠ none)

/-- The control port holds at most 4 outstanding commands and 4 OVERRUN refusals (R192), and the sound link
queue at most 1,024 blocks (R172). -/
def State.PortsBounded (s : State) : Prop :=
  s.bcp.cmds.length ≤ 4 ∧ s.bcp.overrunTags.length ≤ 4 ∧ s.link.queue.length ≤ 1024

/-- The window table has 32 entries (R2), at most 8 operations are in flight (R11), there are six staging
slots (R33) and at most 8 tickets (R38), and the catalogue write queue lists no slot twice (R16). -/
def State.StoresBounded (s : State) : Prop :=
  s.stc.table.length = 32 ∧ s.stc.flight.length ≤ 8 ∧ s.pka.staging.length = 6
    ∧ s.pka.tickets.length ≤ 8 ∧ (s.stc.queue.map SlotRequest.slot).Nodup

/-- Every queue holds at most 16 items (R81), every buffer at most 48 frames (R87), and at most two reels are
in hand (R91). -/
def State.LanesBounded (s : State) : Prop :=
  ∀ l, (s.lane l).pl.queue.length ≤ 16 ∧ (s.lane l).pl.buffer.length ≤ 48
    ∧ (s.lane l).pl.fetch.inHand.length ≤ 2

/-- Gates (R111, R119, R137): a VALID gate has counted at least 4,000 ticks, and so has an opened one at its last
counted pulse, since the last accepted pulse is not before the opening pulse. -/
def State.GatesSpaced (s : State) : Prop :=
  ∀ l, ((s.lane l).ftm.gate.result = some .valid → 4000 ≤ (s.lane l).ftm.gate.count)
    ∧ ((s.lane l).ftm.gate.state = .opened →
      ((s.lane l).ftm.gate.opened = false → (s.lane l).ftm.gate.pulses = 0)
      ∧ ((s.lane l).ftm.gate.opened = true →
        (∃ last ∈ (s.lane l).ftm.lastAccepted, (s.lane l).ftm.gate.openTick ≤ last)
          ∧ (0 < (s.lane l).ftm.gate.pulses → 4000 ≤ (s.lane l).ftm.gate.count)))

/-- Log occupancy is at most 256 (R67), and every record's number is below the sequence counter (R60). -/
def State.LogBounded (s : State) : Prop :=
  s.shc.occupancy ≤ 256 ∧ ∀ x ∈ s.shc.log, x.seq < s.shc.nextSeq

/-! ### Range lists (R27) -/

/-- A received-range list's form: ranges not empty, ascending, and no two overlapping or touching. -/
def Ascending : List Span → Prop
  | [] => True
  | [a] => a.lo < a.hi
  | a :: b :: rest => a.lo < a.hi ∧ a.hi < b.lo ∧ Ascending (b :: rest)

/-- Whether a list holds a unit. -/
def holdsUnit (l : List Span) (u : Nat) : Prop := ∃ r ∈ l, r.lo ≤ u ∧ u < r.hi

end Sys2Proof.Machine
end

