-- ==== Sys2Proof/Certificates/Slice0/Obligations.lean ====
section
/-! DEFINITION. The statements for the provers: invariants of every step, what each command does, and the
arithmetic of the manual's rules. -/

open Sys2Proof
open Sys2Proof.Machine

/-! ### The machine -/

/-- A step takes the command at the front of the queue and is exec of it with the queue's rest. -/
def Obligations.StepTakesFront : Prop :=
  ∀ (s : State) (i : Instr) (rest : List Instr),
    s.pending = i :: rest → step s = exec i { s with pending := rest }

/-- The state after power-on reset meets every invariant below. The values of its fields that the manual
does not give are the model's (notes/assumptions/5.md, 11.md). -/
def Obligations.ResetMeetsInvariants : Prop :=
  State.reset.HoldsSilence ∧ State.reset.LicencesConserved ∧ State.reset.WindowsApart
    ∧ State.reset.SamplesInRange ∧ State.reset.PortsBounded ∧ State.reset.StoresBounded
    ∧ State.reset.LanesBounded ∧ State.reset.GatesSpaced ∧ State.reset.LogBounded ∧ State.reset.TickBuilt

/-- Every step keeps: a lane whose screen is in HOLD is IDLE or RESETTING (R75). -/
def Obligations.HoldsSilenceKept : Prop := Kept State.HoldsSilence

/-- Every step keeps: for every limited licence count + held is at most max showings (R51). -/
def Obligations.LicencesConservedKept : Prop := Kept State.LicencesConserved

/-- Every step keeps: no two windows share a block or a package id, and every window lies within the
package blocks of the array (R2). -/
def Obligations.WindowsApartKept : Prop := Kept State.WindowsApart

/-- Every step keeps: every sample built for, or queued on, the sound link is a 24-bit value (R136); and of the tick
that runs each lane has built one value a channel for each wall sample produced, 48 at its end (R171). -/
def Obligations.SamplesInRangeKept : Prop := Kept State.SamplesInRange ∧ Kept State.TickBuilt

/-- Every step keeps the bounds of the window table, the storage port, the staging slots and the ticket list,
and the catalogue write queue lists no slot twice (R2, R11, R16, R33, R38). -/
def Obligations.StoresBoundedKept : Prop := Kept State.StoresBounded

/-- Every step keeps the bounds of the queues, the prefetch buffers and the reels in hand (R81, R87, R91), and
that a VALID gate has counted at least 4,000 ticks (R137). That the gate counter reads a pulse's instant as the
glitch filter does is the model's reading (notes/assumptions/62.md). -/
def Obligations.LanesBoundedKept : Prop := Kept State.LanesBounded ∧ Kept State.GatesSpaced

/-- Every step keeps the bounds of the control port and of the sound link queue (R172, R192), and log occupancy at
256 at most, every record's number below the sequence counter (R60, R67). -/
def Obligations.PortsAndLogBoundedKept : Prop := Kept State.PortsBounded ∧ Kept State.LogBounded

/-- What fetchers and arbiter leave alone when an event settles: the clock, the control port, the holds, the
sound link, the licences and the log, the tickets, every monitor and sound engine, and of each lane all but
its fetcher, its buffer, its statistics and the marks of its items; a lane's state moves from CUEING to CUED
only. It is the frame of every command that ends in settling. The fetchers move as often as they can, and the cue
points are tested, in ascending lane order (the model's choice, notes/assumptions/15.md). One move: a fetcher that is
stopped, STALLED or has a read before the arbiter rests. Behind the last item it stands DONE; else the item there is
taken up, promoted with its reservation where it has a licence, or BLOCKED with the promotion's reason and counted, a
BLOCKED one staying so, a promoted one not promoted again; behind an INTERMISSION the cursor passes on (R90). At a
reel's first frame with fewer than two reels in hand the reel is taken up, with two the fetcher is in REEL_WAIT (R91);
at a frame with all 48 slots in use it is FULL (R86). A BLACK frame takes the lowest free slot READY, a COMPOSITION
frame whose units are present takes it READING with its picture read before the arbiter, and a MISSING one leaves it
STALLED, counted, and registered on each track the answer named (R45, R46, R88, R89). A CUEING lane whose buffered
frames reach its low mark, or whose fetcher stands DONE, REEL_WAIT or BLOCKED, is CUED with LANE_READY raised (R94).
That REEL_WAIT stands before FULL is the model's choice (notes/assumptions/68.md), that PRESENTED slots of a reel no
longer in hand keep none out is its reading (notes/assumptions/69.md), and that a BLACK item's frames stand at reel 0
is its choice (notes/assumptions/51.md). -/
def Obligations.SettlingLeavesAlone : Prop :=
  (∀ s : State,
    s.settle.pin = s.pin ∧ s.settle.clock = s.clock ∧ s.settle.bcp = s.bcp ∧ s.settle.held = s.held
      ∧ s.settle.link = s.link ∧ s.settle.pending = s.pending
      ∧ s.settle.ntu.enabled = s.ntu.enabled ∧ s.settle.ntu.master = s.ntu.master
      ∧ s.settle.ntu.number = s.ntu.number
      ∧ s.settle.shc.licences = s.shc.licences ∧ s.settle.shc.log = s.shc.log
      ∧ s.settle.shc.nextSeq = s.shc.nextSeq ∧ s.settle.shc.mode = s.shc.mode
      ∧ s.settle.stc.capacity = s.stc.capacity ∧ s.settle.stc.status = s.stc.status
      ∧ s.settle.stc.draining = s.stc.draining ∧ s.settle.stc.faults = s.stc.faults
      ∧ s.settle.stc.load = s.stc.load
      ∧ s.settle.pka.tickets = s.pka.tickets ∧ s.settle.pka.outstanding = s.pka.outstanding
      ∧ s.settle.pka.setting = s.pka.setting ∧ s.settle.pka.discards = s.pka.discards
      ∧ ∀ l, (s.settle.lane l).ftm = (s.lane l).ftm ∧ (s.settle.lane l).sne = (s.lane l).sne
          ∧ (s.settle.lane l).pl.screen = (s.lane l).pl.screen
          ∧ (s.settle.lane l).pl.confirmed = (s.lane l).pl.confirmed
          ∧ (s.settle.lane l).pl.set = (s.lane l).pl.set
          ∧ (s.settle.lane l).pl.rate = (s.lane l).pl.rate
          ∧ (s.settle.lane l).pl.next = (s.lane l).pl.next
          ∧ (s.settle.lane l).pl.position = (s.lane l).pl.position
          ∧ (s.settle.lane l).pl.shown = (s.lane l).pl.shown
          ∧ (s.settle.lane l).pl.inGap = (s.lane l).pl.inGap
          ∧ (s.settle.lane l).pl.pause = (s.lane l).pl.pause
          ∧ (s.settle.lane l).pl.fault = (s.lane l).pl.fault
          ∧ (s.settle.lane l).pl.queue.map Item.kind = (s.lane l).pl.queue.map Item.kind
          ∧ ((s.settle.lane l).pl.state = (s.lane l).pl.state
            ∨ (s.lane l).pl.state = .cueing ∧ (s.settle.lane l).pl.state = .cued))
  ∧ (∀ s : State,
    (s.stc.load ≠ .idle ∨ 8 ≤ s.stc.flight.length ∨ s.fetchers.decide = none → s.settle.lanes = s.fetchers.lanes)
    ∧ s.fetchers = fours.foldl (fun x l => (x.fetchAll l 128).testCued l) s
    ∧ (∀ (l : LaneId) (n : Nat), s.fetchAll l 0 = s
      ∧ s.fetchAll l (n + 1)
        = (if (s.fetchOnce l).2 = true then (s.fetchOnce l).1.fetchAll l n else (s.fetchOnce l).1))
    ∧ (∀ (l : LaneId) (p : Playout), p = (s.lane l).pl →
      (p.state = .cueing → (p.set.lowMark ≤ p.buffered ∨ p.fetch.state = .done ∨ p.fetch.state = .reelWait
          ∨ p.fetch.state = .blocked) →
        s.testCued l = (s.modPl l (fun p => { p with state := .cued })).raiseLane l srcLaneReady)
      ∧ (p.state ≠ .cueing ∨ (p.buffered < p.set.lowMark ∧ p.fetch.state ≠ .done ∧ p.fetch.state ≠ .reelWait
          ∧ p.fetch.state ≠ .blocked) →
        s.testCued l = s)
      ∧ p.buffered = p.buffer.countP (fun b => b.stage != .reading)))
  ∧ (∀ (s : State) (l : LaneId) (p : Playout) (at_ : FetchState → State),
    p = (s.lane l).pl → at_ = (fun x => s.modPl l (fun p => { p with fetch := { p.fetch with state := x } })) →
    (p.fetch.state = .stopped ∨ p.fetch.state = .stalled ∨ p.fetch.work ≠ .nothing → s.fetchOnce l = (s, false))
    ∧ (p.fetch.state ≠ .stopped → p.fetch.state ≠ .stalled → p.fetch.work = .nothing →
      (∀ uid, p.fetch.cursor = some (.afterItem uid) →
        (p.itemAfter uid = none → s.fetchOnce l = (at_ .done, false))
        ∧ (∀ (i : Item) (taken : State → State), p.itemAfter uid = some i →
          taken = (fun x => x.modPl l (fun p => { p with
            queue := p.queue.map (fun y => if y.uid = i.uid then { y with promoted := true } else y)
            fetch := { p.fetch with
              state := .running
              cursor := some (if i.isIntermission then .afterItem i.uid else .frameOf i.uid (i.posAt 0) false) } })) →
          (i.blocked ≠ none → s.fetchOnce l = (at_ .blocked, false))
          ∧ (i.blocked = none → i.promoted = true →
            s.fetchOnce l = (s.modPl l (fun p => { p with fetch := { p.fetch with
              state := .running
              cursor := some (if i.isIntermission then .afterItem i.uid else .frameOf i.uid (i.posAt 0) false) } }),
              true))
          ∧ (i.blocked = none → i.promoted = false → i.licence = none → s.fetchOnce l = (taken s, true))
          ∧ (∀ lic pid, i.blocked = none → i.promoted = false → i.licence = some lic → i.package = some pid →
            (promotionFailure s lic pid = none →
              s.fetchOnce l = (taken (s.reserve l lic pid i.total), true))
            ∧ (∀ why, promotionFailure s lic pid = some why →
              s.fetchOnce l = (s.modPl l (fun p => { p with
                queue := p.queue.map (fun y => if y.uid = i.uid then { y with blocked := some why } else y)
                stats := { p.stats with refused := satInc top32 p.stats.refused }
                fetch := { p.fetch with state := .blocked } }), false)))))
      ∧ (∀ (uid : Nat) (i : Item) (pos : Pos) (taken : Bool) (next : Cursor),
        p.fetch.cursor = some (.frameOf uid pos taken) → p.item uid = some i →
        next = (match i.after pos with
          | none => .afterItem i.uid
          | some q => .frameOf i.uid q (q.reel == pos.reel)) →
        (i.package = none → 48 ≤ p.buffer.length → s.fetchOnce l = (at_ .full, false))
        ∧ (i.package = none → p.buffer.length < 48 →
          ∃ b, p.TakesSlot b i pos ∧ s.fetchOnce l = (s.modPl l (fun p => { p with
            buffer := p.buffer ++ [b], fetch := { p.fetch with state := .running, cursor := some next } }), true))
        ∧ (∀ pid, i.package = some pid → taken = false →
          (p.fetch.inHand.length < 2 → s.fetchOnce l = ((s.modPl l (fun p => { p with fetch := { p.fetch with
              state := .running
              cursor := some (.frameOf i.uid pos true)
              inHand := p.fetch.inHand ++ [(i.uid, pos.reel)] } })).takeUpReel l pid i.uid pos.reel
                (i.framesOf pos.reel), true))
          ∧ (2 ≤ p.fetch.inHand.length → s.fetchOnce l = (at_ .reelWait, false)))
        ∧ (∀ pid, i.package = some pid → taken = true →
          (48 ≤ p.buffer.length → s.fetchOnce l = (at_ .full, false))
          ∧ (p.buffer.length < 48 → frameReady s pid pos.reel pos.reelFrame = .ready →
            ∃ b, p.TakesSlot b i pos ∧ s.fetchOnce l = (s.modPl l (fun p => { p with
              buffer := p.buffer ++ [b]
              fetch := { p.fetch with state := .running, work := .picture b.num (0 < i.channels) } }), true))
          ∧ (∀ tracks, p.buffer.length < 48 → frameReady s pid pos.reel pos.reelFrame = .missing tracks →
            ∃ u, s.fetchOnce l = (u, false)
              ∧ (u.lane l).pl = { p with
                  stats := { p.stats with stalls := satInc top32 p.stats.stalls }
                  fetch := { p.fetch with state := .stalled } }
              ∧ (∀ k, k ≠ l → u.lane k = s.lane k) ∧ u.out = s.out ∧ u.ntu = s.ntu ∧ u.pka = s.pka
              ∧ ∀ n e k t, s.stc.find pid = some (n, e) → k ∈ tracks → e.record.track pos.reel k = some t →
                ∃ e' t', u.stc.find pid = some (n, e') ∧ e'.window = e.window
                  ∧ e'.record.track pos.reel k = some t' ∧ t'.received = t.received ∧ t'.inFlight = t.inFlight
                  ∧ ∀ m, m ∈ t'.stalled ↔ m = l ∨ m ∈ t.stalled)))))
  ∧ (∀ (s : State) (pid n reel f : Nat) (e : TableEntry) (y : ReelTracks),
    s.stc.find pid = some (n, e) → e.record.reels[reel]? = some y →
    (frameReady s pid reel f = .ready ↔ y.picture.present f = true ∧ ∀ t, y.sound = some t → t.present f = true)
    ∧ (∀ tracks, frameReady s pid reel f = .missing tracks → ∀ k, k ∈ tracks ↔
      k = .picture ∧ y.picture.present f = false ∨ k = .sound ∧ ∃ t, y.sound = some t ∧ t.present f = false))

/-! ### Resets and the start-up load -/

/-- The release and the assertion of the pin put every block at its power-on values, and while the pin is
asserted frames and bytes of the line are lost (R195). The rest is the model's choice: that ingest frames,
pulses, readies and returns are lost too and that BASE_TICK and TRANSMIT_LINE_FREE are refused heldInReset
(notes/assumptions/2.md), that POWER_ON_RESET resets without an assertion before it
(notes/assumptions/26.md), that the release sends no CLEAR (notes/assumptions/44.md), and that the queue of
commands and the outputs already sent are kept (notes/assumptions/5.md). -/
def Obligations.PinResets : Prop :=
  (∀ s : State,
    exec .powerOnReset s
        = .next { State.reset with pending := s.pending, out := s.out ++ [.linkReset] }
      ∧ exec .resetPinAsserted s
        = .next { State.reset with pin := true, pending := s.pending, out := s.out })
  ∧ (∀ s : State, s.pin = true →
    (∀ bytes, exec (.commandFrameReceived bytes) s = .next s)
      ∧ exec .syncByteReceived s = .next s
      ∧ (∀ frame, exec (.chunkOffer frame) s = .next s)
      ∧ (∀ c t, exec (.rawPulse c t) s = .next s)
      ∧ exec .soundReady s = .next s
      ∧ (∀ op ok, exec (.chunkWriteReturn op ok) s = .next s)
      ∧ (∀ op ok, exec (.catalogueWriteReturn op ok) s = .next s)
      ∧ (∀ op r t, exec (.laneReadReturn op r t) s = .next s)
      ∧ (∀ op r, exec (.cueReadReturn op r) s = .next s)
      ∧ exec .transmitLineFree s = .refused .heldInReset
      ∧ exec .baseTick s = .refused .heldInReset)

/-- STARTUP_LOAD_BEGIN reads the capacity; CAPACITY_READ_RETURN takes a usable one and reads block 0, and an
unusable one, or none, ends the load UNAVAILABLE with capacity 0; HEADER_READ_RETURN loads, formats or ends
the load by the header as read (R18, R19, R21). What headerGood accepts and headerBytes writes, a slot count
of four bytes, is the model's choice (notes/assumptions/8.md), and so is the padding of the written block
(notes/assumptions/37.md); that a capacity above 4,294,967,296 is taken as that number is its reading
(notes/assumptions/39.md). -/
def Obligations.LoadBegins : Prop :=
  ((∀ s : State, s.pin = false → s.stc.load = .awaitingPort → s.stc.flight = [] →
    exec .startupLoadBegin s
      = .next { s with stc := { s.stc with load := .capacityRead }, out := s.out ++ [.capacityRead] })
  ∧ (∀ (s : State) (blocks : Nat), s.pin = false → s.stc.load = .capacityRead → 4096 ≤ blocks →
    exec (.capacityReadReturn blocks) s
      = .next { s with stc := { s.stc with capacity := min blocks 4294967296, load := .headerRead },
                       out := s.out ++ [.storageRead 0 1] }))
  ∧ (∀ (s : State) (i : Instr), s.pin = false → s.stc.load = .capacityRead →
    (i = .capacityReadNoAnswer ∨ ∃ blocks, blocks < 4096 ∧ i = .capacityReadReturn blocks) →
    ∃ t, exec i s = .next t ∧ t.bcp.part = .ready ∧ t.stc.load = .idle ∧ t.stc.capacity = 0
      ∧ t.stc.status = some .unavailable ∧ t.stc.faults = satInc top16 s.stc.faults
      ∧ t.ntu.raised.getLsbD srcStorageFault = true)
  ∧ (∀ s : State, s.pin = false → s.stc.load = .headerRead →
    (∀ block, headerGood block = true →
      exec (.headerReadReturn (.data block)) s
        = .next { s with stc := { s.stc with status := some .loaded, load := .slotRead 0 },
                         out := s.out ++ [.storageRead 64 64] })
    ∧ (∀ block, headerGood block = false →
      exec (.headerReadReturn (.data block)) s
        = .next { s with stc := { s.stc with status := some .formatted, load := .headerWrite false },
                         out := s.out ++ [.storageWrite 0 1 (padToBlock headerBytes)] })
    ∧ ∃ t, exec (.headerReadReturn .fault) s = .next t ∧ t.bcp.part = .ready
        ∧ t.stc.status = some .unavailable ∧ t.stc.faults = satInc top16 s.stc.faults)

/-- FORMAT_WRITE_RETURN: a successful write of the load leads on, a faulted one is counted and retried once at
once, a header that faults twice ends the load UNAVAILABLE, and a slot that faults twice is left (R19, R20).
That a written block is padded with zeros is the model's choice (notes/assumptions/37.md), and so are the
header's bytes (notes/assumptions/8.md). -/
def Obligations.LoadWritesReturn : Prop :=
  (∀ s : State, s.pin = false →
    (∀ retry, s.stc.load = .headerWrite retry → ∃ t, exec (.formatWriteReturn true) s = .next t
      ∧ t.stc.load = .formatWrite 0 false ∧ t.out = s.out ++ [.storageWrite 64 1 (padToBlock emptyImage)])
    ∧ (∀ slot retry, s.stc.load = .formatWrite slot retry → slot < 31 →
      ∃ t, exec (.formatWriteReturn true) s = .next t ∧ t.stc.load = .formatWrite (slot + 1) false)
    ∧ (∀ retry, s.stc.load = .formatWrite 31 retry →
      ∃ t, exec (.formatWriteReturn true) s = .next t ∧ t.stc.load = .idle ∧ t.bcp.part = .ready)
    ∧ (∀ slot retry, s.stc.load = .emptyWrite slot retry → slot < 31 →
      ∃ t, exec (.formatWriteReturn true) s = .next t ∧ t.stc.load = .slotRead (slot + 1)
        ∧ t.out = s.out ++ [.storageRead (128 + 64 * slot) 64])
    ∧ (∀ retry, s.stc.load = .emptyWrite 31 retry →
      ∃ t, exec (.formatWriteReturn true) s = .next t ∧ t.stc.load = .idle ∧ t.bcp.part = .ready))
  ∧ (∀ s : State, s.pin = false → s.stc.load.writing = true →
    ∃ t, exec (.formatWriteReturn false) s = .next t ∧ t.stc.faults = satInc top16 s.stc.faults
      ∧ t.ntu.raised.getLsbD srcStorageFault = true
      ∧ (s.stc.load = .headerWrite false → t.stc.load = .headerWrite true ∧ t.stc.status = s.stc.status
        ∧ t.out = s.out ++ [.storageWrite 0 1 (padToBlock headerBytes)])
      ∧ (s.stc.load = .headerWrite true → t.stc.status = some .unavailable ∧ t.stc.load = .idle
        ∧ t.bcp.part = .ready)
      ∧ (∀ slot, s.stc.load = .formatWrite slot false → t.stc.load = .formatWrite slot true
        ∧ t.out = s.out ++ [.storageWrite (64 + 64 * slot) 1 (padToBlock emptyImage)])
      ∧ (∀ slot, s.stc.load = .formatWrite slot true →
        (slot < 31 → t.stc.load = .formatWrite (slot + 1) false)
          ∧ (slot = 31 → t.stc.load = .idle ∧ t.bcp.part = .ready))
      ∧ (∀ slot, s.stc.load = .emptyWrite slot false → t.stc.load = .emptyWrite slot true
        ∧ t.out = s.out ++ [.storageWrite (64 + 64 * slot) 1 (padToBlock emptyImage)])
      ∧ (∀ slot, s.stc.load = .emptyWrite slot true → t.ReadsOn slot))

/-- SLOT_READ_RETURN: an empty slot is passed; a RETIRING one is written empty; an unreadable one, and a
readable one that fails R20, is a storage fault and is written empty; an image that meets R20 is restored into
its entry with reference count 0, COMPLETE when its tracks all are. The judgement of slot 31 ends the load.
What an image must be to be restored: a FILLING or COMPLETE window of the declared size within the package
blocks, that meets no window and no package id restored before it (R20, R21, R49). That the written block
is padded with zeros is the model's choice (notes/assumptions/37.md), and what else counts as out of range or
inconsistent, the licence flag, the form of a range list and the layout, is its reading
(notes/assumptions/40.md). -/
def Obligations.SlotJudged : Prop :=
  (∀ (s : State) (slot : Nat), s.pin = false → s.stc.load = .slotRead slot → slot ≤ 31 →
    (∀ r, (r = .fault ∨ ∃ bytes, r = .data bytes ∧ (parseSlot bytes = none
        ∨ ∃ m, parseSlot bytes = some m ∧ m.packageId ≠ 0 ∧ m.state ≠ 2 ∧ restoreSlot s.stc m = none)) →
      ∃ t, exec (.slotReadReturn r) s = .next t ∧ t.stc.load = .emptyWrite slot false
        ∧ t.stc.table = s.stc.table ∧ t.stc.faults = satInc top16 s.stc.faults
        ∧ t.ntu.raised.getLsbD srcStorageFault = true
        ∧ t.out = s.out ++ [.storageWrite (64 + 64 * slot) 1 (padToBlock emptyImage)])
    ∧ (∀ bytes m, parseSlot bytes = some m → m.packageId = 0 →
      ∃ t, exec (.slotReadReturn (.data bytes)) s = .next t ∧ t.ReadsOn slot
        ∧ (slot < 31 → t.stc.table = s.stc.table) ∧ t.stc.faults = s.stc.faults)
    ∧ (∀ bytes m, parseSlot bytes = some m → m.packageId ≠ 0 → m.state = 2 →
      ∃ t, exec (.slotReadReturn (.data bytes)) s = .next t ∧ t.stc.load = .emptyWrite slot false
        ∧ t.stc.table = s.stc.table ∧ t.stc.faults = s.stc.faults)
    ∧ (∀ bytes m e, parseSlot bytes = some m → m.packageId ≠ 0 → m.state ≠ 2 →
      restoreSlot s.stc m = some e → slot < s.stc.table.length →
      ∃ t e', exec (.slotReadReturn (.data bytes)) s = .next t ∧ t.ReadsOn slot
        ∧ t.stc.table[slot]? = some (some e') ∧ (slot < 31 → e'.record = e.record)
        ∧ e'.record.decl = e.record.decl ∧ e'.window.packageId = m.packageId ∧ e'.window.base = m.base
        ∧ e'.window.limit = m.limit ∧ e'.window.faults = m.faults ∧ e'.window.refs = 0
        ∧ e'.window.state = (if e.window.state = .filling ∧ e.record.complete = true then .complete
            else e.window.state)
        ∧ t.stc.faults = s.stc.faults))
  ∧ (∀ (c : Storage) (m : SlotImage) (e : TableEntry), restoreSlot c m = some e →
    ((m.state = 0 ∧ e.window.state = .filling) ∨ (m.state = 1 ∧ e.window.state = .complete))
      ∧ m.decl.inRange = true ∧ e.record.decl = m.decl ∧ e.window.refs = 0
      ∧ m.limit + 1 = m.base + m.decl.windowSize ∧ 4096 ≤ m.base ∧ m.limit < c.capacity
      ∧ ∀ w ∈ c.windows, w.packageId ≠ m.packageId ∧ (w.limit < m.base ∨ m.limit < w.base))

/-- SOFT_RESET_PROCEED: what the soft reset clears and what it keeps (R23, R48, R50, R73, R108, R128, R178,
R188, R199). A WRITING staging slot stays so until its write returns (R33, R50), every other is FREE; that R48's
"All six slots become FREE" is to be read so is the model's reading (notes/assumptions/49.md). The log is kept, the
records open on any lane closed with cause SOFT_RESET (R64, R73); one LINK_RESET goes out on the ingest link (R48),
and one CLEAR to each bound screen that enters HOLD (R75, R104); the cue engines are as after any reset (R161). The
DONE of SOFT_RESET has left the line already, or stands on it and leaves it with this event; that the event may come
so, and what an IDLE gate record holds besides its state, is the model's choice (notes/assumptions/16.md, 31.md). -/
def Obligations.SoftResetProceeds : Prop :=
  ∀ (s v : State) (t : Instant), s.pin = false →
    (s.bcp.resetDue = true ∨ ∃ tag, s.bcp.line = some (.reply tag (.done .softReset))) → v = s.takeAt t →
    ∃ u, exec (.softResetProceed t) s = .next u
      ∧ u.bcp.resetDue = false
      ∧ ((∃ tag, s.bcp.line = some (.reply tag (.done .softReset))) → u.bcp.line = none)
      ∧ ((∀ tag, s.bcp.line ≠ some (.reply tag (.done .softReset))) → u.bcp.line = s.bcp.line)
      ∧ u.bcp.part = .startingUp ∧ u.stc.load = .awaitingPort
      ∧ u.stc.table = List.replicate 32 none ∧ u.stc.queue = [] ∧ u.stc.draining = []
      ∧ u.stc.flight = s.stc.flight ∧ u.stc.faults = s.stc.faults
      ∧ u.pka.tickets = [] ∧ u.pka.outstanding = 0 ∧ u.pka.setting = s.pka.setting
      ∧ u.pka.discards = v.pka.discards ∧ u.pka.order = []
      ∧ (∀ (j : Nat) c b o, v.pka.staging[j]? = some (Staging.writing c b o) →
        ∃ o', u.pka.staging[j]? = some (Staging.writing c b o'))
      ∧ (∀ x ∈ u.pka.staging, x = .free ∨ ∃ c b o, x = .writing c b o)
      ∧ u.link = SoundLink.reset ∧ u.held = ⟨true, true, true, true⟩
      ∧ u.shc.licences = s.shc.licences ∧ u.shc.nextSeq = s.shc.nextSeq ∧ u.shc.mode = s.shc.mode
      ∧ u.shc.reservations = ⟨[], [], [], []⟩
      ∧ u.shc.log = v.shc.log.map (fun x => if fours.any (fun l => v.shc.namedBy l x) then
          { x with ended := v.clock.booth, cause := some .softReset,
                   outcome := if x.qualify.isSome then .countedEarlyEnd else .abandoned } else x)
      ∧ (∃ more, u.out = v.out ++ more ∧ more.count .linkReset = 1)
      ∧ v.Sends u (fun c =>
        if (∃ l, (v.lane l).pl.screen = some c) ∧ v.screenHeld c = false then [.clear] else [])
      ∧ u.clock.booth = v.clock.booth ∧ u.bcp.linkErrors = s.bcp.linkErrors
      ∧ u.bcp.overruns = s.bcp.overruns
      ∧ u.ntu.enabled = 0#44 ∧ u.ntu.master = false ∧ u.ntu.outstanding = false ∧ u.ntu.number = 0
      ∧ ∀ l, (u.lane l).pl.screen = some l ∧ (u.lane l).pl.set = Settings.defaults
          ∧ (u.lane l).pl.queue = [] ∧ (u.lane l).pl.buffer = [] ∧ (u.lane l).ftm = Monitor.reset
          ∧ (u.lane l).sce = CueEngine.reset
          ∧ (u.lane l).sne.state = .off ∧ (u.lane l).sne.map = Channel.defaults
          ∧ ((u.lane l).pl.state = .idle ∨ (u.lane l).pl.state = .resetting)

/-! ### The control port -/

/-- Every frame the host can build, of any kind, tag and body, is taken as the command it spells when it
arrives whole at a HUNTING receiver; and a frame that the part sends is built alike: DONE of kind 0x01 with its
fields for body, REFUSED of kind 0x02 with one reason code, NOTICE of kind 0x03 and tag 0 with its number and
its pending set, a receiver of which takes each whole (R189 to R192). A frame taken with fewer than 4 commands
outstanding is outstanding behind them, without a reply; with 4 it is answered OVERRUN with its own tag and counted,
and with 4 such refusals waiting besides it is counted and discarded (R191, R192). -/
def Obligations.FrameTakenAsSpelt : Prop :=
  (∀ (s : State) (kind : Nat) (tag : Byte) (body : List Byte),
    s.pin = false → s.bcp.receiver = .hunting → kind < 256 → body.length ≤ 1024 →
    exec (.commandFrameReceived (hostFrameBytes kind tag body)) s
      = .next { s with bcp := ({ s.bcp with receiver := .hunting, gap := 0 }).take kind tag body })
  ∧ (∀ (s : State) (tag : Byte), s.pin = false → s.bcp.receiver = .hunting →
    (∀ r : Result, r.bytes.length ≤ 1024 →
      exec (.commandFrameReceived (HostFrame.reply tag (.done r)).bytes) s
        = .next { s with bcp := ({ s.bcp with receiver := .hunting, gap := 0 }).take 0x01 tag r.bytes })
    ∧ (∀ why : Reason, exec (.commandFrameReceived (HostFrame.reply tag (.refused why)).bytes) s
        = .next (s.modBcp (fun b =>
            ({ b with receiver := .hunting, gap := 0 }).take 0x02 tag [BitVec.ofNat 8 why.code])))
    ∧ (∀ number set, exec (.commandFrameReceived (HostFrame.notice number set).bytes) s
        = .next (s.modBcp (fun b =>
            ({ b with receiver := .hunting, gap := 0 }).take 0x03 0x00#8
              (BitVec.ofNat 8 number :: sourceSetBytes set)))))
  ∧ (∀ (b : ControlPort) (kind : Nat) (tag : Byte) (body : List Byte),
    (b.cmds.length < 4 →
      b.take kind tag body = { b with cmds := b.cmds ++ [⟨kind, tag, body, none⟩] })
    ∧ (4 ≤ b.cmds.length → b.overrunTags.length < 4 → b.take kind tag body
      = { b with overrunTags := b.overrunTags ++ [tag], overruns := satInc top16 b.overruns })
    ∧ (4 ≤ b.cmds.length → 4 ≤ b.overrunTags.length →
      b.take kind tag body = { b with overruns := satInc top16 b.overruns }))

/-- SYNC_BYTE_RECEIVED moves a HUNTING receiver to COLLECTING, FRAME_BYTE_TIMEOUT discards a partial frame
with LINK_ERROR and the count; so is a frame discarded at its length bytes if they are below 2 or above 1,026, and
at its last byte if its check is not the CRC-16 of its length, kind, tag and body (R190); and UNKNOWN_KIND answers
the oldest unexecuted command, of a kind not in the command table, REFUSED UNKNOWN_KIND (R191, R194). -/
def Obligations.ReceiverMoves : Prop :=
  ((∀ s : State, s.pin = false → s.bcp.receiver = .hunting →
    exec .syncByteReceived s = .next { s with bcp := { s.bcp with receiver := .collecting [], gap := 0 } })
  ∧ (∀ (s : State) (bytes : List Byte), s.pin = false → s.bcp.receiver = .collecting bytes →
    2 < s.bcp.gap →
    exec .frameByteTimeout s
      = .next { s with bcp := { s.bcp with receiver := .hunting, gap := 0,
                                           linkErrors := satInc top16 s.bcp.linkErrors },
                       ntu := s.ntu.raiseSet (sourceBit 42) }))
  ∧ (∀ (s discarded : State), s.pin = false → s.bcp.receiver = .hunting →
    discarded = { s with bcp := { s.bcp with receiver := .hunting, gap := 0,
                                             linkErrors := satInc top16 s.bcp.linkErrors },
                         ntu := s.ntu.raiseSet (sourceBit 42) } →
    (∀ hi lo : Byte, u16 [hi, lo] 0 < 2 ∨ 1026 < u16 [hi, lo] 0 →
      exec (.commandFrameReceived [0xC3#8, hi, lo]) s = .next discarded)
    ∧ (∀ (counted : List Byte) (c1 c2 : Byte), 2 ≤ u16 counted 0 → u16 counted 0 ≤ 1026 →
      counted.length = u16 counted 0 + 2 → u16 [c1, c2] 0 ≠ (crc16 counted).toNat →
      exec (.commandFrameReceived (0xC3#8 :: counted ++ [c1, c2])) s = .next discarded))
  ∧ (∀ (s : State) (c : Outstanding), s.pin = false → s.bcp.next = some c → hostRow 0 c.kind = none →
    exec .unknownKind s
      = .next { s with bcp := { s.bcp with cmds := answerFirst (.refused .unknownKind) s.bcp.cmds } })

/-- TRANSMIT_LINE_FREE: the oldest OVERRUN refusal leaves first, then the oldest command's reply when it is
built, then, that reply not yet built or no command outstanding, a due NOTICE with the next number and the pending
set (R183, R193). A due NOTICE that finds nothing pending or the master off is not sent and no longer due, its number
unchanged (R183). With none of these ready the line stays free (R193). Once the DONE of SOFT_RESET has left, the
reset is due and no NOTICE begins (R199). -/
def Obligations.TransmitOrder : Prop :=
  (∀ s : State, s.pin = false →
    (∀ tag rest, s.bcp.overrunTags = tag :: rest →
      ∃ t, exec .transmitLineFree s = .next t ∧ t.bcp.line = some (.reply tag (.refused .overrun))
        ∧ t.bcp.overrunTags = rest ∧ t.bcp.cmds = s.bcp.cmds
        ∧ t.out = s.out ++ [.host (.reply tag (.refused .overrun))])
    ∧ (∀ kind tag body r rest, s.bcp.overrunTags = [] → s.bcp.cmds = ⟨kind, tag, body, some r⟩ :: rest →
      ∃ t, exec .transmitLineFree s = .next t ∧ t.bcp.line = some (.reply tag r) ∧ t.bcp.cmds = rest
        ∧ t.out = s.out ++ [.host (.reply tag r)]))
  ∧ (∀ s : State, s.pin = false → s.bcp.overrunTags = [] →
    (s.bcp.cmds = [] ∨ ∃ kind tag body rest, s.bcp.cmds = ⟨kind, tag, body, none⟩ :: rest) →
    ∃ t, exec .transmitLineFree s = .next t ∧ t.bcp.cmds = s.bcp.cmds ∧ t.bcp.overrunTags = []
      ∧ ((∀ tag, s.bcp.line ≠ some (.reply tag (.done .softReset))) → s.bcp.resetDue = false →
        t.bcp.resetDue = false
        ∧ (s.ntu.outstanding = true → s.ntu.master = true → s.ntu.pending ≠ 0#44 →
          t.bcp.line = some (.notice ((s.ntu.number + 1) % 256) s.ntu.pending)
            ∧ t.out = s.out ++ [.host (.notice ((s.ntu.number + 1) % 256) s.ntu.pending)]
            ∧ t.ntu = { s.ntu with outstanding := false, number := (s.ntu.number + 1) % 256 })
        ∧ (s.ntu.outstanding = true → s.ntu.master = false ∨ s.ntu.pending = 0#44 →
          t.bcp.line = none ∧ t.out = s.out ∧ t.ntu = { s.ntu with outstanding := false })
        ∧ (s.ntu.outstanding = false → t.bcp.line = none ∧ t.out = s.out ∧ t.ntu = s.ntu))
      ∧ (s.bcp.resetDue = true ∨ (∃ tag, s.bcp.line = some (.reply tag (.done .softReset))) →
        t.bcp.resetDue = true ∧ t.bcp.line = none ∧ t.out = s.out ∧ t.ntu = s.ntu))

/-- While the part is STARTING_UP every command but QUERY_PART is refused BUSY (R194, R195). -/
def Obligations.BusyWhileStarting : Prop :=
  ∀ (s : State) (c : Outstanding) (t : Instant) (i : Instr), s.pin = false → s.bcp.part = .startingUp →
    s.bcp.next = some c → c.kind ≠ 0x80 → hostRow t c.kind = some i →
    exec i s = .next (s.answered (.refused .busy))

/-! ### Storage and ingest commands -/

/-- RETIRE_PACKAGE: refused, released at once, or RETIRING (R7). That package 0 is refused BAD_VALUE before its
window is looked for is the model's reading (R194, notes/assumptions/29.md). -/
def Obligations.PackageRetired : Prop :=
  ∀ (s : State) (body : List Byte), s.Commanded 0x11 body → body.length = 2 →
    (u16 body 0 = 0 → exec .retirePackage s = .next (s.answered (.refused .badValue)))
    ∧ (u16 body 0 ≠ 0 → s.stc.find (u16 body 0) = none →
      exec .retirePackage s = .next (s.answered (.refused .noSuch)))
    ∧ (∀ i e, u16 body 0 ≠ 0 → s.stc.find (u16 body 0) = some (i, e) → e.window.state = .retiring →
      exec .retirePackage s = .next (s.answered (.refused .badState)))
    ∧ (∀ i e, u16 body 0 ≠ 0 → s.stc.find (u16 body 0) = some (i, e) → e.window.state ≠ .retiring →
      e.window.refs = 0 →
      exec .retirePackage s = .next ((s.release (u16 body 0)).answered (.done .gone)))
    ∧ (∀ i e, u16 body 0 ≠ 0 → s.stc.find (u16 body 0) = some (i, e) → e.window.state ≠ .retiring →
      0 < e.window.refs →
      exec .retirePackage s = .next
        (({ s with stc := (s.stc.modWindow (u16 body 0)
              (fun w => { w with state := .retiring })).request i }).answered
          (.done (.retiring e.window.refs))))

/-- The release of a window: its entry is empty and no other changes, its blocks drain while operations are
in flight against them, and the write of its catalogue slot stands in the queue. Of its ingest work the tickets
are gone without discards; the HELD slots have left the staging order, no longer outstanding, their offers
answered REFUSED NO_PACKAGE and the slots FREE or passed on to a ticket; the WRITING slots stay WRITING, each
marked to be answered so at its write's return. No lane and no showing is touched (R8, R9, R37, R44). -/
def Obligations.ReleaseDropsPackage : Prop :=
  ∀ (s : State) (pid i : Nat) (e : TableEntry), s.stc.find pid = some (i, e) →
    (s.release pid).stc.table[i]? = some none
      ∧ (∀ j, j ≠ i → (s.release pid).stc.table[j]? = s.stc.table[j]?)
      ∧ (s.release pid).stc.draining
        = (if 0 < e.window.ops then
            s.stc.draining ++ [⟨e.window.base, e.window.limit, e.window.ops⟩] else s.stc.draining)
      ∧ (s.release pid).stc.flight = s.stc.flight
      ∧ (∀ t ∈ (s.release pid).pka.tickets, t.chunk.packageId ≠ pid)
      ∧ (s.release pid).pka.discards = s.pka.discards
      ∧ (s.stc.status ≠ some .unavailable → ∃ q ∈ (s.release pid).stc.queue, q.slot = i)
      ∧ (∀ j, j ∈ (s.release pid).pka.order ↔ j ∈ s.pka.order
        ∧ ¬ ∃ c b, s.pka.staging[j]? = some (.held c b) ∧ c.packageId = pid)
      ∧ (s.release pid).pka.outstanding
        = s.pka.outstanding - s.pka.staging.countP (Staging.heldFor pid)
      ∧ (∀ j c b, s.pka.staging[j]? = some (.held c b) → c.packageId = pid →
        .verdict c (.refused .noPackage) false ∈ (s.release pid).out
          ∧ ((s.release pid).pka.staging[j]? = some .free
            ∨ ∃ t ∈ (s.release pid).pka.tickets, t.slot = some j
                ∧ (s.release pid).pka.staging[j]? = some (.reserved t.chunk)))
      ∧ (∀ j c b orphan, s.pka.staging[j]? = some (.writing c b orphan) →
        (∀ t ∈ s.pka.tickets, t.slot ≠ some j) →
        (s.release pid).pka.staging[j]?
          = some (.writing c b (if c.packageId = pid then true else orphan)))
      ∧ (s.release pid).lanes = s.lanes ∧ (s.release pid).shc = s.shc ∧ (s.release pid).clock = s.clock
      ∧ (s.release pid).link = s.link ∧ (s.release pid).held = s.held

/-- DECLARE_PACKAGE: a declaration in range whose id is free is placed FILLING in the lowest empty entry at
the first gap that fits, or refused NO_ROOM or NO_SPACE. The placed blocks lie in the package blocks and meet
no window and no draining range, and no lower place would do (R4, R9, R25). The new window has its counts at 0 and its
reels laid out one after another, each picture, sound and subtitle region behind the last, the last block its limit
(R4, R5); its size and its sound blocks per unit are those of R143; its record has the tracks of R26, all empty (R24).
The entry taken is the lowest empty one, no other changes, and the write of its slot stands in the queue (R2, R4). -/
def Obligations.PackageDeclared : Prop :=
  (∀ (s : State) (body : List Byte), s.Commanded 0x20 body → 1 ≤ u8 body 6 → u8 body 6 ≤ 12 →
    body.length = 7 + 6 * u8 body 6 → (declared body).acceptable (u8 body 5) = true →
    ((s.stc.find (declared body).packageId).isSome →
      exec .declarePackage s = .next (s.answered (.refused .badState)))
    ∧ (s.stc.find (declared body).packageId = none → s.stc.freeEntry = none →
      exec .declarePackage s = .next (s.answered (.refused .noRoom)))
    ∧ (∀ slot, s.stc.find (declared body).packageId = none → s.stc.freeEntry = some slot →
      s.stc.place (declared body).windowSize = none →
      exec .declarePackage s = .next (s.answered (.refused .noSpace)))
    ∧ (∀ slot base, s.stc.find (declared body).packageId = none → s.stc.freeEntry = some slot →
      s.stc.place (declared body).windowSize = some base →
      exec .declarePackage s = .next ((s.addPackage (declared body) slot base).answered
          (.done (.placed base (base + (declared body).windowSize - 1))))
        ∧ (s.addPackage (declared body) slot base).stc.table[slot]?
          = some (some (TableEntry.mk (newWindow (declared body) base) (newRecord (declared body))))))
  ∧ (∀ (s u : State) (d : Declaration) (slot base : Nat), u = s.addPackage d slot base →
    u = { s with stc := { s.stc with table := u.stc.table, queue := u.stc.queue } }
      ∧ (∀ j, j ≠ slot → u.stc.table[j]? = s.stc.table[j]?)
      ∧ (s.stc.status ≠ some .unavailable → ∃ q ∈ u.stc.queue, q.slot = slot))
  ∧ (∀ (c : Storage) (slot : Nat), c.freeEntry = some slot →
    c.table[slot]? = some none ∧ ∀ j, j < slot → ∃ e, c.table[j]? = some (some e))
  ∧ (∀ (d : Declaration) (base : Nat) (w : Window), w = newWindow d base →
    w.packageId = d.packageId ∧ w.base = base ∧ w.limit = base + d.windowSize - 1 ∧ w.state = .filling
      ∧ w.refs = 0 ∧ w.faults = 0 ∧ w.ops = 0 ∧ w.layout.length = d.reels.length
      ∧ ∀ r x y, d.reels[r]? = some x → w.layout[r]? = some y →
          (r = 0 → y.picture = base) ∧ y.sound = y.picture + x.frames * d.slotBlocks
            ∧ y.subtitle = y.sound + x.frames * d.soundBlocks
            ∧ (∀ z, w.layout[r + 1]? = some z → z.picture = y.subtitle + x.cues)
            ∧ (r + 1 = d.reels.length → y.subtitle + x.cues = base + d.windowSize))
  ∧ (∀ d : Declaration,
    d.windowSize = (d.reels.map (fun r => r.frames * (d.slotBlocks + d.soundBlocks) + r.cues)).sum
      ∧ (d.channels = 0 → d.soundBlocks = 0)
      ∧ d.channels * (48000 / d.rate) * 3 ≤ 4096 * d.soundBlocks
      ∧ 4096 * d.soundBlocks < d.channels * (48000 / d.rate) * 3 + 4096)
  ∧ (∀ (d : Declaration) (p : PackageRecord), p = newRecord d →
    p.decl = d ∧ p.takenSince = 0 ∧ p.badChecks = 0 ∧ p.writeFaults = 0 ∧ p.reels.length = d.reels.length
      ∧ ∀ r x, d.reels[r]? = some x →
          p.track r .picture = some ⟨x.frames, [], [], []⟩
            ∧ p.track r .sound = (if 0 < d.channels then some ⟨x.frames, [], [], []⟩ else none)
            ∧ p.track r .subtitle = (if 0 < x.cues then some ⟨x.cues, [], [], []⟩ else none))
  ∧ (∀ (c : Storage) (r : Span), r ∈ c.occupied ↔
    (∃ e, some e ∈ c.table ∧ r = ⟨e.window.base, e.window.limit + 1⟩)
      ∨ ∃ d ∈ c.draining, r = ⟨d.first, d.last + 1⟩)
  ∧ (∀ (c : Storage) (size base : Nat), 0 < size → c.place size = some base →
    4096 ≤ base ∧ base + size ≤ c.capacity
      ∧ (∀ r ∈ c.occupied, r.lo < r.hi → r.hi ≤ base ∨ base + size ≤ r.lo)
      ∧ ∀ lower, 4096 ≤ lower → lower < base → lower + size ≤ c.capacity →
          ∃ r ∈ c.occupied, r.lo < lower + size ∧ lower < r.hi)

/-- ABORT_PACKAGE (R44), SET_INGEST with its expiry of old tickets when SHORT (R41), and the reports of
storage and ingest, which change nothing but the reply (R10, R47). That package 0 is refused BAD_VALUE is the
model's reading (R194, notes/assumptions/29.md). -/
def Obligations.IngestCommands : Prop :=
  ((∀ (s : State) (body : List Byte) (i : Nat) (e : TableEntry), s.Commanded 0x21 body → body.length = 2 →
    u16 body 0 ≠ 0 → s.stc.find (u16 body 0) = some (i, e) →
    (0 < e.window.refs → exec .abortPackage s = .next (s.answered (.refused .badState)))
    ∧ (e.window.refs = 0 →
      exec .abortPackage s = .next ((s.release (u16 body 0)).answered (.done .empty))))
  ∧ (∀ (s : State) (body : List Byte),
    (s.Commanded 0x21 body → body.length = 2 → u16 body 0 = 0 →
      exec .abortPackage s = .next (s.answered (.refused .badValue)))
    ∧ (s.Commanded 0x22 body → body.length = 3 → u16 body 0 = 0 →
      exec .queryPackage s = .next (s.answered (.refused .badValue))))
  ∧ (∀ (s : State) (body : List Byte), s.Commanded 0x23 body → body.length = 1 →
    (u8 body 0 = 1 → exec .setIngest s = .next
      ((s.modPka (fun p => { p with setting := .long })).answered (.done (.discard .long))))
    ∧ (u8 body 0 = 0 → ∃ t, exec .setIngest s = .next t ∧ t.pka.setting = .short
      ∧ t.pka.tickets.map Ticket.chunk
        = (s.pka.tickets.filter (fun x => !(x.expired s.clock.ticks .short))).map Ticket.chunk)
    ∧ (1 < u8 body 0 → exec .setIngest s = .next (s.answered (.refused .badValue)))))
  ∧ ((∀ s : State, s.Commanded 0x10 [] →
    exec .queryWindows s = .next (s.answered (.done (.windows s.stc.report))))
  ∧ (∀ (s : State) (body : List Byte) (i : Nat) (e : TableEntry) (r : ReelTracks),
    s.Commanded 0x22 body → body.length = 3 → u16 body 0 ≠ 0 → s.stc.find (u16 body 0) = some (i, e) →
    e.record.reels[u8 body 2]? = some r →
    exec .queryPackage s = .next (s.answered (.done (.package (packageReport s e r))))))

/-! ### Ingest -/

/-- The insertion of a range keeps a received-range list's form, holds the units of both, and leaves the list
at most one range longer (R27). -/
def Obligations.MergeKeepsForm : Prop :=
  ∀ (l : List Span) (n : Span), Ascending l → n.lo < n.hi →
    Ascending (mergeSpan l n) ∧ (mergeSpan l n).length ≤ l.length + 1
      ∧ ∀ u, holdsUnit (mergeSpan l n) u ↔ (n.lo ≤ u ∧ u < n.hi) ∨ holdsUnit l u

/-- CHUNK_OFFER: a frame that is no CHUNK is discarded, a ninth outstanding offer is answered OVERRUN, and a
fresh offer is staged, found a duplicate, refused or deferred with a ticket, as it is judged; it is accepted
only when its range lies in its track, its check is right, no unit of it is in flight, and the fragment test
passes (R29 to R32, R38). A re-offer consumes its ticket and is judged with the slot the ticket held: staged in
it, or the slot freed, and a ticket deferred again stands in its place, of its age, with the new cause and no
slot (R39). A freed slot goes to the oldest ticket that waits for one, else it is FREE (R37). A staged offer's slot is
HELD with its identity and payload and stands last in the staging order, the offer is outstanding without a verdict,
and its range joins its track's in-flight list in its place by first unit (R32). -/
def Obligations.OfferJudged : Prop :=
  (∀ (s : State) (frame : List Byte), s.pin = false →
    (parseChunk frame = none → exec (.chunkOffer frame) s = .next s)
    ∧ (∀ c, parseChunk frame = some c → 8 ≤ s.pka.outstanding →
      exec (.chunkOffer frame) s = .next (s.verdict c.id (.refused .overrun) false).settle)
    ∧ (∀ c, parseChunk frame = some c → s.pka.outstanding < 8 → (∀ t ∈ s.pka.tickets, t.chunk ≠ c.id) →
      (∀ slot, s.pka.freeSlot = some slot → judge s c true = .accepted →
        exec (.chunkOffer frame) s = .next (s.stage c slot).settle)
      ∧ (judge s c s.pka.freeSlot.isSome = .duplicate →
        exec (.chunkOffer frame) s = .next (s.verdict c.id .duplicate false).settle)
      ∧ (∀ why, judge s c s.pka.freeSlot.isSome = .refused why →
        exec (.chunkOffer frame) s
          = .next ((s.countRefusal c.id why).verdict c.id (.refused why) false).settle)
      ∧ (∀ cause, judge s c s.pka.freeSlot.isSome = .deferred cause → s.pka.tickets.length < 8 →
        exec (.chunkOffer frame) s = .next
          ((s.modPka (fun p => { p with tickets := p.tickets ++ [Ticket.mk c.id cause s.clock.ticks none]
            })).verdict c.id (.retry cause) true).settle)
      ∧ (∀ cause, judge s c s.pka.freeSlot.isSome = .deferred cause → 8 ≤ s.pka.tickets.length →
        exec (.chunkOffer frame) s = .next (s.verdict c.id (.retry cause) false).settle)))
  ∧ (∀ (s : State) (frame : List Byte) (c : Chunk) (before behind : List Ticket) (x : Ticket) (s1 : State),
    s.pin = false → parseChunk frame = some c → s.pka.outstanding < 8 →
    s.pka.tickets = before ++ x :: behind → x.chunk = c.id → (∀ t ∈ before, t.chunk ≠ c.id) →
    s1 = { s with pka := { s.pka with tickets := before ++ behind } } →
    (∀ slot, (x.slot = some slot ∨ x.slot = none ∧ s1.pka.freeSlot = some slot) →
      judge s1 c true = .accepted → exec (.chunkOffer frame) s = .next (s1.stage c slot).settle)
    ∧ (judge s1 c (x.slot.isSome || s1.pka.freeSlot.isSome) = .duplicate →
      exec (.chunkOffer frame) s = .next ((s1.handBack x.slot).verdict c.id .duplicate false).settle)
    ∧ (∀ why, judge s1 c (x.slot.isSome || s1.pka.freeSlot.isSome) = .refused why →
      exec (.chunkOffer frame) s
        = .next (((s1.countRefusal c.id why).handBack x.slot).verdict c.id (.refused why) false).settle)
    ∧ (∀ cause, judge s1 c (x.slot.isSome || s1.pka.freeSlot.isSome) = .deferred cause →
      exec (.chunkOffer frame) s = .next
        ((({ s with pka := { s.pka with
            tickets := before ++ { x with cause := cause, slot := none } :: behind } }).handBack
          x.slot).verdict c.id (.retry cause) true).settle))
  ∧ (∀ (s : State) (p : Assembler) (slot : Nat),
    (s.handBack none).pka = s.pka ∧ (s.handBack (some slot)).pka = s.pka.passOn slot
      ∧ ((∀ t ∈ p.tickets, ¬ t.waits) →
        p.passOn slot = { p with staging := modifyAt (fun _ => .free) slot p.staging })
      ∧ (∀ before x behind, p.tickets = before ++ x :: behind → (∀ t ∈ before, ¬ t.waits) → x.waits →
        p.passOn slot = { p with
          staging := modifyAt (fun _ => .reserved x.chunk) slot p.staging,
          tickets := before ++ { x with slot := some slot } :: behind }))
  ∧ (∀ (s u : State) (c : Chunk) (slot n : Nat) (k : TrackKind) (x : Staging) (e : TableEntry) (t : Track),
    trackKind c.id.track = some k → s.pka.staging[slot]? = some x → s.stc.find c.id.packageId = some (n, e) →
    e.record.track c.id.reel k = some t → u = s.stage c slot →
    u.pka.staging[slot]? = some (.held c.id c.payload)
      ∧ (∀ j, j ≠ slot → u.pka.staging[j]? = s.pka.staging[j]?)
      ∧ u.pka = { s.pka with staging := u.pka.staging, order := s.pka.order ++ [slot],
                             outstanding := s.pka.outstanding + 1 }
      ∧ u.out = s.out ∧ u.ntu = s.ntu ∧ u.lanes = s.lanes ∧ u.shc = s.shc ∧ u.clock = s.clock
      ∧ ∃ e' t' before behind, u.stc.find c.id.packageId = some (n, e') ∧ e'.window = e.window
        ∧ e'.record.track c.id.reel k = some t' ∧ t'.received = t.received ∧ t'.stalled = t.stalled
        ∧ t.inFlight = before ++ behind
        ∧ t'.inFlight = before ++ ⟨c.id.first, c.id.first + c.id.count⟩ :: behind
        ∧ (∀ y ∈ before, y.lo < c.id.first) ∧ (∀ y, behind.head? = some y → c.id.first ≤ y.lo))
  ∧ (∀ (s : State) (c : Chunk) (slotReady : Bool), judge s c slotReady = .accepted →
    slotReady = true ∧ ∃ i e k t, s.stc.find c.id.packageId = some (i, e)
      ∧ e.window.state ≠ .retiring ∧ trackKind c.id.track = some k
      ∧ e.record.track c.id.reel k = some t ∧ c.id.first + c.id.count ≤ t.units
      ∧ (crc32 c.payload).toNat = c.crc
      ∧ (∀ r ∈ t.inFlight, ¬ (c.id.first < r.hi ∧ r.lo < c.id.first + c.id.count))
      ∧ (mergeSpan t.received c.id.span).length + t.inFlight.length ≤ 16)

/-- CHUNK_WRITE_RETURN: the slot's chunk is TAKEN or FAULT by the write's result and its slot is passed on; a
released package's chunk is answered REFUSED NO_PACKAGE either way, a fault raising INGEST_FAULT. A taken chunk's
units join its track's received ranges and leave its in-flight list; a faulted one's leave the in-flight list
alone, its package's write faults rise and INGEST_FAULT is raised; the verdict is the next frame of the ingest
link and the offer is no longer outstanding; a fault counts for the part and for the window that holds the block
(R22, R35, R36, R44). A taken chunk wakes the lanes stalled on its track, whose registrations on that reel are gone;
the 64th TAKEN since a checkpoint requests the slot's write and returns the count to 0; and a FILLING package whose
present tracks are all complete is COMPLETE, its slot's write requested and INGEST_DONE raised (R35, R42, R43, R46).
A return takes the operation from the port: the window that holds its blocks, or the draining range, has one
operation fewer, and a draining range whose last it was is gone, its blocks free; a slot's write counts in neither
(R1, R9, R11). While a soft reset's load waits for the port the returns of writes are discarded without
verdict or count, and the chunk's slot is freed (R18, R33, R50).
CATALOGUE_WRITE_RETURN: a fault is counted and STORAGE_FAULT raised; a first one puts the slot back in the queue
for one retry, at the tail unless it is queued already, a second leaves it (R17, R22). That a slot queued already
is written once, as the retry, is the model's reading (notes/assumptions/14.md). -/
def Obligations.WritesReturned : Prop :=
  (∀ (s : State) (op slot first count : Nat) (c : ChunkId) (payload : List Byte) (k : TrackKind),
    s.pin = false → s.stc.load ≠ .awaitingPort → s.stc.flight[op]? = some ⟨.chunkWrite slot, first, count⟩ →
    trackKind c.track = some k →
    (s.pka.staging[slot]? = some (.writing c payload false) →
      exec (.chunkWriteReturn op true) s
        = .next ((({ s with stc := s.stc.returned op ⟨.chunkWrite slot, first, count⟩ }).chunkTaken c
            k).modPka (fun p => p.passOn slot)).settle
      ∧ exec (.chunkWriteReturn op false) s
        = .next (((s.modStc (fun x => (x.returned op ⟨.chunkWrite slot, first, count⟩).countFaultAt
              first)).chunkFaulted c k).modPka (fun p => p.passOn slot)).settle)
    ∧ (s.pka.staging[slot]? = some (.writing c payload true) →
      exec (.chunkWriteReturn op true) s
        = .next ((({ s with stc := s.stc.returned op ⟨.chunkWrite slot, first, count⟩ }).settleOffer c
            (.refused .noPackage)).modPka (fun p => p.passOn slot)).settle
      ∧ exec (.chunkWriteReturn op false) s
        = .next ((((s.modStc (fun x => (x.returned op ⟨.chunkWrite slot, first, count⟩).countFaultAt
              first)).settleOffer c (.refused .noPackage)).raise srcIngestFault).modPka
            (fun p => p.passOn slot)).settle))
  ∧ (∀ (s : State) (op slot first count : Nat) (retry ok : Bool), s.pin = false → s.stc.load = .awaitingPort →
    (s.stc.flight[op]? = some ⟨.chunkWrite slot, first, count⟩ →
      exec (.chunkWriteReturn op ok) s
        = .next (({ s with stc := s.stc.returned op ⟨.chunkWrite slot, first, count⟩ }).modPka
            (fun p => p.passOn slot)).settle)
    ∧ (s.stc.flight[op]? = some ⟨.slotWrite slot retry, first, count⟩ →
      exec (.catalogueWriteReturn op ok) s
        = .next ({ s with stc := s.stc.returned op ⟨.slotWrite slot retry, first, count⟩ }).settle))
  ∧ (∀ (s : State) (c : ChunkId) (k : TrackKind) (i : Nat) (e : TableEntry) (t : Track),
    s.stc.find c.packageId = some (i, e) → e.record.track c.reel k = some t →
    (∃ e' t', (s.chunkTaken c k).stc.find c.packageId = some (i, e')
      ∧ e'.record.track c.reel k = some t' ∧ t'.received = mergeSpan t.received c.span
      ∧ t'.inFlight = t.inFlight.filter (fun r => r != c.span)
      ∧ (s.chunkTaken c k).out = s.out ++ [.verdict c .taken false]
      ∧ (s.chunkTaken c k).pka.outstanding = s.pka.outstanding - 1
      ∧ (∀ k2 t2, e.record.track c.reel k2 = some t2 → ∃ t2', e'.record.track c.reel k2 = some t2'
        ∧ t2'.stalled = t2.stalled.filter (fun l => !t.stalled.contains l))
      ∧ (∀ l, (s.chunkTaken c k).lane l = { s.lane l with pl := { (s.lane l).pl with
          fetch := { (s.lane l).pl.fetch with
            state := (if l ∈ t.stalled ∧ (s.lane l).pl.fetch.state = .stalled then .running
              else (s.lane l).pl.fetch.state) } } })
      ∧ e'.record.takenSince = (if 63 ≤ e.record.takenSince then 0 else e.record.takenSince + 1)
      ∧ (63 ≤ e.record.takenSince ∨ e.window.state = .filling ∧ e'.record.complete = true →
        s.stc.status ≠ some .unavailable → ∃ q ∈ (s.chunkTaken c k).stc.queue, q.slot = i)
      ∧ (e.record.takenSince < 63 → e.window.state ≠ .filling ∨ e'.record.complete = false →
        (s.chunkTaken c k).stc.queue = s.stc.queue)
      ∧ (e.window.state = .filling → e'.record.complete = true →
        e'.window = { e.window with state := .complete }
          ∧ (s.chunkTaken c k).ntu.raised.getLsbD srcIngestDone = true)
      ∧ (e.window.state ≠ .filling ∨ e'.record.complete = false →
        e'.window = e.window ∧ (s.chunkTaken c k).ntu = s.ntu))
    ∧ ∃ e' t', (s.chunkFaulted c k).stc.find c.packageId = some (i, e')
      ∧ e'.record.track c.reel k = some t' ∧ t'.received = t.received
      ∧ t'.inFlight = t.inFlight.filter (fun r => r != c.span)
      ∧ e'.record.writeFaults = satInc top16 e.record.writeFaults
      ∧ (s.chunkFaulted c k).out = s.out ++ [.verdict c .fault false]
      ∧ (s.chunkFaulted c k).pka.outstanding = s.pka.outstanding - 1
      ∧ (s.chunkFaulted c k).ntu.raised.getLsbD srcIngestFault = true)
  ∧ (∀ p : PackageRecord, p.complete = true ↔
    ∀ reel k t, p.track reel k = some t → t.received = [⟨0, t.units⟩])
  ∧ (∀ (x y : Storage) (op : Nat) (o : Operation), x.flight[op]? = some o → y = x.returned op o →
    y = { x with flight := x.flight.take op ++ x.flight.drop (op + 1), table := y.table, draining := y.draining }
      ∧ (∀ slot retry, o.kind = .slotWrite slot retry → y.table = x.table ∧ y.draining = x.draining)
      ∧ ((∀ slot retry, o.kind ≠ .slotWrite slot retry) → x.Counts y o.first (fun n => n - 1)
        ∧ ∀ d, d ∈ y.draining ↔ ∃ d0 ∈ x.draining,
            (¬ (d0.first ≤ o.first ∧ o.first ≤ d0.last) ∧ d = d0)
              ∨ d0.first ≤ o.first ∧ o.first ≤ d0.last ∧ 1 < d0.ops ∧ d = { d0 with ops := d0.ops - 1 }))
  ∧ (∀ (s : State) (c : ChunkId) (v : Verdict),
    (s.settleOffer c v).out = s.out ++ [.verdict c v false]
      ∧ (s.settleOffer c v).pka = { s.pka with outstanding := s.pka.outstanding - 1 })
  ∧ (∀ (x : Storage) (first : Nat), (x.countFaultAt first).faults = satInc top16 x.faults
      ∧ ∀ (j : Nat) (e : TableEntry), x.table[j]? = some (some e) → ∃ e',
        (x.countFaultAt first).table[j]? = some (some e') ∧ e'.record = e.record
          ∧ e'.window = { e.window with faults :=
              if e.window.base ≤ first ∧ first ≤ e.window.limit then satInc top16 e.window.faults
              else e.window.faults })
  ∧ (∀ (s : State) (op slot first count : Nat) (retry : Bool), s.pin = false → s.stc.load ≠ .awaitingPort →
    s.stc.flight[op]? = some ⟨.slotWrite slot retry, first, count⟩ →
    exec (.catalogueWriteReturn op true) s
        = .next ({ s with stc := { s.stc with flight := removeAt op s.stc.flight } }).settle
      ∧ exec (.catalogueWriteReturn op false) s
        = .next ((({ s with stc := { s.stc with flight := removeAt op s.stc.flight } }).slotWriteFault
            slot retry)).settle)
  ∧ (∀ (s : State) (slot : Nat) (retry : Bool),
    (s.slotWriteFault slot retry).stc.faults = satInc top16 s.stc.faults
      ∧ (s.slotWriteFault slot retry).ntu.raised.getLsbD srcStorageFault = true
      ∧ (s.slotWriteFault slot retry).stc.table = s.stc.table
      ∧ (retry = true → (s.slotWriteFault slot retry).stc.queue = s.stc.queue)
      ∧ (retry = false → (∀ q ∈ s.stc.queue, q.slot ≠ slot) →
        (s.slotWriteFault slot retry).stc.queue = s.stc.queue ++ [⟨slot, true⟩])
      ∧ (retry = false → (∃ q ∈ s.stc.queue, q.slot = slot) →
        (s.slotWriteFault slot retry).stc.queue.map SlotRequest.slot = s.stc.queue.map SlotRequest.slot
          ∧ ∀ q ∈ (s.slotWriteFault slot retry).stc.queue, q.slot = slot → q.retry = true))

/-- TICKET_EXPIRY: the due tickets leave, each counted, and INGEST_DISCARD is raised (R40). The same has
happened before any event that carries an instant behind the tick at which they fell due; that the row and
such an event both take them is the model's choice (notes/assumptions/3.md), and so is that a ticket deferred again at
the tick at which it fell due is among them (notes/assumptions/70.md). -/
def Obligations.TicketsExpire : Prop :=
  ∀ s : State, s.pin = false → s.ticketDue = true →
    (∃ t, exec .ticketExpiry s = .next t
      ∧ t.pka.tickets.map Ticket.chunk
        = (s.pka.tickets.filter
            (fun x => !(x.expired s.clock.ticks s.pka.setting))).map Ticket.chunk
      ∧ t.pka.discards = min top16 (s.pka.discards
          + (s.pka.tickets.filter (Ticket.expired s.clock.ticks s.pka.setting)).length)
      ∧ t.ntu.raised.getLsbD srcIngestDiscard = true ∧ t.clock = s.clock ∧ t.shc.log = s.shc.log)
    ∧ ∀ x : Instant, s.lastBase < s.takenAt x →
      (s.takeAt x).pka.tickets.map Ticket.chunk
          = (s.pka.tickets.filter
              (fun x => !(x.expired s.clock.ticks s.pka.setting))).map Ticket.chunk
        ∧ (s.takeAt x).pka.discards = min top16 (s.pka.discards
            + (s.pka.tickets.filter (Ticket.expired s.clock.ticks s.pka.setting)).length)
        ∧ (s.takeAt x).ntu.raised.getLsbD srcIngestDiscard = true

/-- LANE_READ_RETURN and CUE_READ_RETURN: data and faults of the current epoch are taken, those of an earlier
epoch dropped and a fault among them counted by the storage controller alone; while a soft reset's load waits
for the port every return is dropped (R18, R22, R89, R105, R148). A read taken into its slot: one read fewer is
awaited, the slot is READY at the last, a fault or an impossible frame length word marks it and counts. A cue
read taken: the record enters its bank, which is LOADED with cursor 0 at the last, a fault is a bad cue and a
read fault. A RESETTING lane with no read left in flight is IDLE with LANE_READY raised (R105). That a read of the
present epoch whose slot or bank is no longer waiting for it changes nothing but the counts is the model's
reading (notes/assumptions/18.md). -/
def Obligations.ReadsReturn : Prop :=
  (∀ (s : State) (t : Instant) (op first count slot item frame epoch : Nat) (l : LaneId) (sound : Bool)
      (r : Returned) (u v : State),
    s.pin = false →
    s.stc.flight[op]? = some ⟨.laneRead l epoch slot item frame sound, first, count⟩ →
    u = ({ s with stc := s.stc.returned op ⟨.laneRead l epoch slot item frame sound, first, count⟩ }).takeAt
      t →
    v = (if readFailed r then u.modStc (fun c => c.countFaultAt first) else u) →
    (s.stc.load = .awaitingPort →
      exec (.laneReadReturn op r t) s = .next (u.completeReset l).settle)
    ∧ (s.stc.load ≠ .awaitingPort → epoch = (u.lane l).pl.fetch.epoch →
      exec (.laneReadReturn op r t) s
        = .next ((v.readInto l slot item frame sound r).completeReset l).settle)
    ∧ (s.stc.load ≠ .awaitingPort → epoch ≠ (u.lane l).pl.fetch.epoch →
      exec (.laneReadReturn op r t) s = .next (v.completeReset l).settle))
  ∧ (∀ (s : State) (op first count item reel index epoch : Nat) (l : LaneId) (bank : BankId)
      (r : Returned) (u v : State),
    s.pin = false →
    s.stc.flight[op]? = some ⟨.cueRead l epoch bank item reel index, first, count⟩ →
    u = { s with stc := s.stc.returned op ⟨.cueRead l epoch bank item reel index, first, count⟩ } →
    v = (if readFailed r then u.modStc (fun c => c.countFaultAt first) else u) →
    (s.stc.load = .awaitingPort → exec (.cueReadReturn op r) s = .next (u.completeReset l).settle)
    ∧ (s.stc.load ≠ .awaitingPort → epoch = (s.lane l).pl.fetch.epoch →
      exec (.cueReadReturn op r) s
        = .next ((v.cueReturned l bank item reel index r).completeReset l).settle
      ∧ ((v.cueReturned l bank item reel index r).lane l).sce
        = (v.lane l).sce.cueReturn bank item reel index r
      ∧ ((v.cueReturned l bank item reel index r).lane l).pl.stats.readFaults
        = (if readFailed r then satInc top32 (v.lane l).pl.stats.readFaults
            else (v.lane l).pl.stats.readFaults))
    ∧ (s.stc.load ≠ .awaitingPort → epoch ≠ (s.lane l).pl.fetch.epoch →
      exec (.cueReadReturn op r) s = .next (v.completeReset l).settle))
  ∧ (∀ (s : State) (l : LaneId) (slot item frame : Nat) (sound : Bool) (r : Returned) (b : BufSlot) (i : Item)
      (e : TableEntry) (u : State),
    s.slotSource l slot = some (b, i, e) → b.stage = .reading → b.item = item → b.pos.frame = frame →
    u = s.readInto l slot item frame sound r →
    (∃ x ∈ (u.lane l).pl.buffer, x.num = slot ∧ x.item = item ∧ x.pos = b.pos
      ∧ x.awaiting = b.awaiting - 1 ∧ x.stage = (if b.awaiting ≤ 1 then .ready else .reading)
      ∧ (r = .fault → x.faulted = true ∧ x.picture = b.picture ∧ x.sound = b.sound)
      ∧ (∀ bytes, r = .data bytes → sound = true →
        x.sound = bytes ∧ x.picture = b.picture ∧ x.faulted = b.faulted)
      ∧ (∀ bytes, r = .data bytes → sound = false → x.picture = bytes ∧ x.sound = b.sound
        ∧ (x.faulted = true ↔ b.faulted = true ∨ u32 bytes 0 = 0
          ∨ e.record.decl.slotBlocks * 4096 - 4 < u32 bytes 0)))
    ∧ (∀ x ∈ (s.lane l).pl.buffer, x.num ≠ slot → x ∈ (u.lane l).pl.buffer)
    ∧ (u.lane l).pl.stats.readFaults
      = (if readFaulted e.record.decl.slotBlocks sound r then satInc top32 (s.lane l).pl.stats.readFaults
          else (s.lane l).pl.stats.readFaults))
  ∧ (∀ (e : CueEngine) (b : BankId) (item reel index : Nat) (r : Returned) (u : CueEngine)
      (recs : List (Nat × Option CueRecord)) (bad : Nat),
    u = e.cueReturn b item reel index r →
    bad = (if readFailed r then satInc top32 e.bad else e.bad) →
    recs = (e.bank b).records ++ (match r with
      | .data block => [(index, parseCue block)]
      | .fault => []) →
    (¬ ((e.bank b).state = .loading ∧ (e.bank b).reel = some (item, reel)) → u = { e with bad := bad })
    ∧ ((e.bank b).state = .loading → (e.bank b).reel = some (item, reel) → 1 < (e.bank b).awaiting →
      u.bank b = { e.bank b with awaiting := (e.bank b).awaiting - 1, records := recs } ∧ u.bad = bad)
    ∧ ((e.bank b).state = .loading → (e.bank b).reel = some (item, reel) → (e.bank b).awaiting = 1 →
      (u.bank b).state = .loaded ∧ (u.bank b).cursor = 0 ∧ (u.bank b).reel = some (item, reel)
        ∧ (u.bank b).entries = ({ e.bank b with records := recs } : Bank).built
        ∧ u.bad = min top32 (bad + (recs.length - (u.bank b).entries.length)))
    ∧ (∀ k, k ≠ b → u.bank k = e.bank k) ∧ u.active = e.active)
  ∧ (∀ (s : State) (l : LaneId),
    ((s.lane l).pl.state = .resetting → s.stc.flight.any (Operation.ofLane l) = false →
      ((s.completeReset l).lane l).pl.state = .idle
        ∧ (s.completeReset l).ntu.raised.getLsbD (laneSource l srcLaneReady) = true)
    ∧ ((s.lane l).pl.state ≠ .resetting ∨ s.stc.flight.any (Operation.ofLane l) = true →
      s.completeReset l = s)
    ∧ ((s.completeReset l).lane l).pl.buffer = (s.lane l).pl.buffer
    ∧ ((s.completeReset l).lane l).sce = (s.lane l).sce)

/-- The arbiter: a waiting lane below its low mark is granted before the catalogue and PKA, the one with fewest
buffered frames and on a tie the lowest, unless 16 lane grants have passed a waiting chunk write, which is then
granted; with no such lane the catalogue's request is granted, then the oldest staged chunk, then the waiting lane
with fewest buffered frames (R13, R14). A lane's grant raises the guard count while a chunk write waits; any other
grant, and the absence of a waiting chunk write, leaves it 0 (R14). A grant puts one operation on the port, which
counts in the window that holds its blocks (R1): a frame's picture unit of P blocks or sound unit of Sblk blocks, or
one cue's block, each read from its place in the reel's region, the cursor moving on with a frame's last read (R5,
R11, R86, R89, R148); a catalogue slot's live image, or the empty one, written from block 64 + 64i (R15, R16); or a
staged chunk's units written from the first unit's place, the slot WRITING (R33, R34). That a slot's image is padded
with zeros to whole blocks is the model's choice (notes/assumptions/37.md). -/
def Obligations.ArbiterTiers : Prop :=
  ∀ s : State,
    (∀ l, (s.stc.guard < 16 ∨ s.pka.order = []) → s.laneWaits l = true →
      (s.lane l).pl.buffered < (s.lane l).pl.set.lowMark →
      ∃ k, s.decide = some (.lane k) ∧ s.laneWaits k = true
        ∧ (s.lane k).pl.buffered < (s.lane k).pl.set.lowMark
        ∧ ((s.lane k).pl.buffered < (s.lane l).pl.buffered
          ∨ (s.lane k).pl.buffered = (s.lane l).pl.buffered ∧ k.val ≤ l.val))
    ∧ (∀ slot rest, 16 ≤ s.stc.guard → s.pka.order = slot :: rest → s.decide = some (.chunk slot))
    ∧ ((∀ l, s.laneWaits l = true → (s.lane l).pl.set.lowMark ≤ (s.lane l).pl.buffered) →
      (∀ q, (s.stc.guard < 16 ∨ s.pka.order = []) → s.stc.catalogueRequest = some q →
        s.decide = some (.catalogue q))
      ∧ (∀ slot rest, s.stc.catalogueRequest = none → s.pka.order = slot :: rest →
        s.decide = some (.chunk slot))
      ∧ (∀ l, s.stc.catalogueRequest = none → s.pka.order = [] → s.laneWaits l = true →
        ∃ k, s.decide = some (.lane k) ∧ s.laneWaits k = true
          ∧ ((s.lane k).pl.buffered < (s.lane l).pl.buffered
            ∨ (s.lane k).pl.buffered = (s.lane l).pl.buffered ∧ k.val ≤ l.val)))
    ∧ ((∀ l, s.laneWaits l = false) → s.stc.catalogueRequest = none → s.pka.order = [] → s.decide = none)
    ∧ (∀ l, (s.grant (.lane l)).stc.guard = (if s.pka.order = [] then 0 else s.stc.guard + 1))
    ∧ (∀ q, (s.grant (.catalogue q)).stc.guard = 0) ∧ (∀ slot, (s.grant (.chunk slot)).stc.guard = 0)
    ∧ (s.settle.pka.order = [] → s.settle.stc.guard = 0)
    ∧ (∀ (l : LaneId) (slot : Nat) (b : BufSlot) (i : Item) (e : TableEntry) (y : ReelLayout) (f : Fetcher)
        (u : State),
      s.slotSource l slot = some (b, i, e) → e.window.layout[b.pos.reel]? = some y → f = (s.lane l).pl.fetch →
      u = s.grant (.lane l) →
      (∀ sound, f.work = .picture slot sound →
        s.Issues u ⟨.laneRead l f.epoch slot b.item b.pos.frame false,
            y.picture + b.pos.reelFrame * e.record.decl.slotBlocks, e.record.decl.slotBlocks⟩ none
          ∧ (u.lane l).pl.fetch.work = (if sound then .sound slot else .nothing)
          ∧ (u.lane l).pl.fetch.cursor = (if sound then f.cursor else some (i.cursorAfter b.pos)))
      ∧ (f.work = .sound slot →
        s.Issues u ⟨.laneRead l f.epoch slot b.item b.pos.frame true,
            y.sound + b.pos.reelFrame * e.record.decl.soundBlocks, e.record.decl.soundBlocks⟩ none
          ∧ (u.lane l).pl.fetch.work = .nothing ∧ (u.lane l).pl.fetch.cursor = some (i.cursorAfter b.pos))
      ∧ i.cursorAfter b.pos = (match i.after b.pos with
        | none => .afterItem i.uid
        | some q => .frameOf i.uid q (q.reel == b.pos.reel)))
    ∧ (∀ (l : LaneId) (bank : BankId) (index count item reel pid n : Nat) (i : Item) (e : TableEntry)
        (y : ReelLayout) (u : State),
      (s.lane l).pl.fetch.work = .cues bank index count → ((s.lane l).sce.bank bank).reel = some (item, reel) →
      (s.lane l).pl.item item = some i → i.package = some pid → s.stc.find pid = some (n, e) →
      e.window.layout[reel]? = some y → u = s.grant (.lane l) →
      s.Issues u ⟨.cueRead l (s.lane l).pl.fetch.epoch bank item reel index, y.subtitle + index, 1⟩ none
        ∧ (u.lane l).pl.fetch.work = (if index + 1 < count then .cues bank (index + 1) count else .nothing))
    ∧ (∀ (q : SlotRequest) (entry : Option TableEntry) (data : List Byte),
      s.stc.table[q.slot]? = some entry → data = padToBlock ((entry.map slotImage).getD emptyImage) →
      s.Issues (s.grant (.catalogue q)) ⟨.slotWrite q.slot q.retry, 64 + 64 * q.slot, data.length / 4096⟩
          (some data)
        ∧ (s.grant (.catalogue q)).stc.queue = s.stc.queue.filter (fun x => x.slot != q.slot))
    ∧ (∀ (slot n : Nat) (c : ChunkId) (payload : List Byte) (e : TableEntry) (y : ReelLayout) (u : State),
      s.pka.staging[slot]? = some (.held c payload) → s.stc.find c.packageId = some (n, e) →
      e.window.layout[c.reel]? = some y → u = s.grant (.chunk slot) →
      u.pka.staging[slot]? = some (.writing c payload false)
      ∧ u.pka.order = s.pka.order.filter (fun m => m != slot)
      ∧ (c.track = 0 → s.Issues u ⟨.chunkWrite slot, y.picture + c.first * e.record.decl.slotBlocks,
          (payload.length + 4 + 4095) / 4096⟩ (some (padToBlock (b32 payload.length ++ payload))))
      ∧ (c.track = 1 → s.Issues u ⟨.chunkWrite slot, y.sound + c.first * e.record.decl.soundBlocks,
          c.count * e.record.decl.soundBlocks⟩ (some (paddedUnits e.record.decl.soundUnit c.count payload)))
      ∧ (c.track = 2 → s.Issues u ⟨.chunkWrite slot, y.subtitle + c.first, c.count⟩ (some payload)))

/-! ### Licences, showings and the mode -/

/-- LOAD_LICENCE: an accepted load is the record of its id, and no other record changes; its max showings, count
and percent are clamped and its flag is clear (R53). A licence's state at a booth time is the first that applies
of REVOKED, EXPIRED, SPENT and VALID (R52). -/
def Obligations.LicenceLoaded : Prop :=
  (∀ (s : State) (body : List Byte), s.Commanded 0x30 body → body.length = 17 →
    (loadedLicence body).id ≠ 0 → (loadedLicence body).packageId ≠ 0 →
    (loadedLicence body).notBefore ≤ (loadedLicence body).notAfter →
    s.shc.heldOf (loadedLicence body).id = 0 → s.shc.openOf (loadedLicence body).id = false →
    ((s.shc.find (loadedLicence body).id).isSome ∨ s.shc.licences.length < 64) →
    exec .loadLicence s = .next (({ s with shc := s.shc.putLicence (loadedLicence body) }).answered
        (.done (.licenceLoaded (loadedLicence body).maxShowings (loadedLicence body).count
          (loadedLicence body).percent ((loadedLicence body).state s.clock.booth))))
      ∧ (s.shc.putLicence (loadedLicence body)).find (loadedLicence body).id = some (loadedLicence body)
      ∧ ∀ id, id ≠ (loadedLicence body).id →
          (s.shc.putLicence (loadedLicence body)).find id = s.shc.find id)
  ∧ (∀ (body : List Byte) (c : Licence), c = loadedLicence body →
    c.id = u16 body 0 ∧ c.packageId = u16 body 2 ∧ c.notBefore = u32 body 4 ∧ c.notAfter = u32 body 8
      ∧ c.maxShowings = (if u16 body 12 ≤ 9999 then u16 body 12 else 9999) ∧ c.revoked = false
      ∧ (c.maxShowings = 0 → c.count = u16 body 14 ∧ c.count ≤ 65535)
      ∧ (0 < c.maxShowings → c.count = (if u16 body 14 ≤ c.maxShowings then u16 body 14 else c.maxShowings))
      ∧ c.percent = (if u8 body 16 = 0 then 1 else if u8 body 16 ≤ 100 then u8 body 16 else 100))
  ∧ (∀ (c : Licence) (booth : Option Nat),
    (c.revoked = true → c.state booth = .revoked)
    ∧ (∀ now, c.revoked = false → booth = some now → c.notAfter < now → c.state booth = .expired)
    ∧ (c.revoked = false → (∀ now, booth = some now → now ≤ c.notAfter) →
      (0 < c.maxShowings → c.count = c.maxShowings → c.state booth = .spent)
      ∧ (c.maxShowings = 0 ∨ c.count ≠ c.maxShowings → c.state booth = .valid)))

/-- REVOKE_LICENCE: refused while held, else the revoked flag is set; a forced one first stops every lane
with a reservation of the licence (R54, R55). That licence 0 is refused BAD_VALUE (R194, notes/assumptions/29.md)
and that a licence already revoked is taken as any other, its lanes stopped by a forced revoke
(notes/assumptions/35.md), is the model's reading; that a plain revoke's DONE has a count of records closed too is
its choice (notes/assumptions/57.md). A forced revoke closes the records of the lanes it stops with cause REVOKED
(R64). -/
def Obligations.LicenceRevoked : Prop :=
  ∀ (s v : State) (body : List Byte) (t : Instant), s.Commanded 0x31 body → body.length = 3 →
    v = s.takeAt t →
    (u8 body 2 ≤ 1 → u16 body 0 = 0 → exec (.revokeLicence t) s = .next (v.answered (.refused .badValue)))
    ∧ ∀ c, u16 body 0 ≠ 0 → v.shc.find (u16 body 0) = some c →
      (u8 body 2 = 0 → 0 < v.shc.heldOf (u16 body 0) →
        exec (.revokeLicence t) s = .next (v.answered (.refused .badState)))
      ∧ (u8 body 2 = 0 → v.shc.heldOf (u16 body 0) = 0 →
        exec (.revokeLicence t) s
          = .next ((v.setRevoked (u16 body 0)).answered (.done (.revoked 0 0))))
      ∧ (u8 body 2 = 1 → ∃ u, exec (.revokeLicence t) s = .next u
        ∧ u.shc.find (u16 body 0) = some { c with revoked := true }
        ∧ (∀ id, id ≠ u16 body 0 → u.shc.find id = v.shc.find id) ∧ u.held = v.held
        ∧ ∀ l, v.shc.uses (u16 body 0) l = true →
            (u.lane l).pl.state = .idle ∧ u.shc.reservations.get l = [])
      ∧ (u8 body 2 = 1 → ∃ u, exec (.revokeLicence t) s = .next u
        ∧ u.shc.log = v.shc.log.map (fun x =>
          if fours.any (fun l => v.shc.uses (u16 body 0) l && v.shc.namedBy l x) then
            { x with ended := v.clock.booth, cause := some .revoked,
                     outcome := if x.qualify.isSome then .countedEarlyEnd else .abandoned } else x))

/-- The promotion checks: a promotion passes exactly when every check of R58 does. -/
def Obligations.PromotionChecks : Prop :=
  ∀ (s : State) (lic pid : Nat),
    promotionFailure s lic pid = none ↔
      ∃ now c, s.clock.booth = some now ∧ s.shc.find lic = some c ∧ c.packageId = pid
        ∧ c.state (some now) ≠ .revoked ∧ c.state (some now) ≠ .expired ∧ c.notBefore ≤ now
        ∧ (c.maxShowings = 0 ∨ c.count + s.shc.heldOf lic < c.maxShowings)
        ∧ s.shc.occupancy < 256 ∧ s.shc.nextSeq ≤ 4294967295

/-- A real frame of a SHOWING item raises its record's real frames; the one that reaches the qualify mark
qualifies it: its reservation no longer holds, SHOW_COUNTED is raised, and in LIVE alone the licence's count
rises; behind its qualification a real frame raises the count alone (R61, R62). The first real frame of a PROMOTED
reservation creates the record with the counter's number, at the log's end, and a mark of 1 is met by it at once
(R60). A fill raises an open record's fill frames, and is in no record before there is one (R60, R61). A frame
presented, or a fill sent, before an item's last frame does so to the showing counter of a licensed item, and
nothing to it for another (R97, R98). -/
def Obligations.ShowingQualifies : Prop :=
  (∀ (s : State) (l : LaneId) (r : Reservation) (rest : List Reservation) (seq : Nat) (x : ShowRecord),
    s.shc.reservations.get l = r :: rest → r.stage = .showing seq →
    s.shc.log.find? (fun y => y.seq == seq) = some x → x.qualify = none →
    (satInc top32 x.real ≠ r.mark →
      s.showReal l = { s with shc := s.shc.modRecord seq (fun y => { y with real := satInc top32 y.real }) })
    ∧ (satInc top32 x.real = r.mark →
      (s.showReal l).shc.reservations.get l = { r with stage := .qualified seq } :: rest
        ∧ (s.showReal l).ntu.raised.getLsbD (laneSource l srcShowCounted) = true
        ∧ (s.showReal l).shc.log.find? (fun y => y.seq == seq)
          = some { x with real := satInc top32 x.real, qualify := s.clock.booth }
        ∧ (s.shc.mode = .live → ∀ c, s.shc.find r.licenceId = some c →
          (s.showReal l).shc.find r.licenceId = some { c with count := satInc top16 c.count })
        ∧ (s.shc.mode = .rehearsal → (s.showReal l).shc.licences = s.shc.licences)
        ∧ (s.showReal l).lanes = s.lanes ∧ (s.showReal l).out = s.out))
  ∧ (∀ (s u : State) (l : LaneId) (r : Reservation) (rest : List Reservation) (x : ShowRecord),
    s.LogBounded → s.shc.reservations.get l = r :: rest → r.stage = .promoted → u = s.showReal l →
    x = { seq := s.shc.nextSeq, licenceId := r.licenceId, packageId := r.packageId, lane := l,
          screen := r.screen, rehearsal := s.shc.mode == .rehearsal, start := s.clock.booth, qualify := none,
          ended := none, real := 1, fill := 0, outcome := .opened, cause := none } →
    (r.mark ≠ 1 → u = { s with shc := { s.shc with
      log := s.shc.log ++ [x], nextSeq := s.shc.nextSeq + 1,
      reservations := s.shc.reservations.set l ({ r with stage := .showing s.shc.nextSeq } :: rest) } })
    ∧ (r.mark = 1 → u.shc.log = s.shc.log ++ [{ x with qualify := s.clock.booth }]
      ∧ u.shc.nextSeq = s.shc.nextSeq + 1
      ∧ u.shc.reservations = s.shc.reservations.set l ({ r with stage := .qualified s.shc.nextSeq } :: rest)
      ∧ u.ntu.raised.getLsbD (laneSource l srcShowCounted) = true
      ∧ (s.shc.mode = .live → ∀ c, s.shc.find r.licenceId = some c →
        u.shc.find r.licenceId = some { c with count := satInc top16 c.count })
      ∧ (s.shc.mode = .rehearsal → u.shc.licences = s.shc.licences)
      ∧ u.lanes = s.lanes ∧ u.out = s.out))
  ∧ (∀ (s : State) (l : LaneId) (r : Reservation) (rest : List Reservation) (seq : Nat),
    s.shc.reservations.get l = r :: rest →
    (r.stage = .qualified seq →
      s.showReal l = { s with shc := s.shc.modRecord seq (fun y => { y with real := satInc top32 y.real }) })
    ∧ (r.stage = .promoted → s.showFill l = s)
    ∧ (r.stage = .showing seq ∨ r.stage = .qualified seq →
      s.showFill l = { s with shc := s.shc.modRecord seq (fun y => { y with fill := satInc top32 y.fill }) }))
  ∧ (∀ (s : State) (l : LaneId) (i : Item) (rest : List Item) (pos q : Pos),
    (s.lane l).pl.queue = i :: rest → (s.lane l).pl.next = some pos → i.after pos = some q →
    (∀ b, s.headSlot l i pos = some b → b.stage = .ready → b.faulted = false →
      (s.presentPulse l).shc = (if i.licence.isSome then (s.showReal l).shc else s.shc))
    ∧ ((s.lane l).pl.set.gapPolicy ≠ .stop →
      (∀ b, s.headSlot l i pos = some b → b.stage = .reading ∨ b.faulted = true) →
      (s.presentPulse l).shc = (if i.licence.isSome then (s.showFill l).shc else s.shc)))

/-- QUERY_LICENCE, READ_LOG, COLLECT_LOG and GO_LIVE (R56, R69 to R71). A collection up to n takes the closed
records numbered at most n from the log and nothing else (R70). -/
def Obligations.ShowingCommands : Prop :=
  (∀ (s : State) (body : List Byte) (c : Licence), s.Commanded 0x32 body → body.length = 2 →
    u16 body 0 ≠ 0 → s.shc.find (u16 body 0) = some c →
    exec .queryLicence s = .next (s.answered (.done (.licence (licenceReport s c)))))
  ∧ (∀ (s : State) (body : List Byte), s.Commanded 0x33 body → body.length = 5 →
    1 < s.shc.nextSeq → u32 body 0 < s.shc.nextSeq →
    exec .readLog s
      = .next (s.answered (.done (.log (logReport s.shc (u32 body 0) (clampNat 1 8 (u8 body 4)))))))
  ∧ (∀ (s : State) (body : List Byte), s.Commanded 0x34 body → body.length = 4 →
    exec .collectLog s = .next (({ s with shc := s.shc.collected (u32 body 0) }).answered
      (.done (.collected (s.shc.log.length - (s.shc.collected (u32 body 0)).log.length)
        (s.shc.collected (u32 body 0)).occupancy))))
  ∧ (∀ (h : Showings) (n : Nat), h.collected n = { h with log := (h.collected n).log }
    ∧ (h.collected n).log.Sublist h.log
    ∧ ∀ r, r ∈ (h.collected n).log ↔ r ∈ h.log ∧ (r.outcome = .opened ∨ n < r.seq))
  ∧ (∀ s : State, s.Commanded 0x35 [] → s.shc.mode = .rehearsal → (∀ l, (s.lane l).pl.state = .idle) →
    exec .goLive s = .next
      (({ s with shc := { s.shc with mode := .live } }).answered (.done (.mode .live))))

/-! ### Lane commands -/

/-- ASSIGN_LANE: naming the bound screen confirms the assignment; naming a free screen resets the lane, binds it
in HOLD, unbinds the old screen in HOLD and closes the open record with cause LANE_RESET (R64, R76, R104, R128).
-/
def Obligations.LaneAssigned : Prop :=
  ∀ (s v : State) (body : List Byte) (t : Instant) (l : LaneId) (c : Option ScreenId),
    s.Commanded 0x40 body → body.length = 2 → u8 body 0 = l.val → v = s.takeAt t →
    (v.lane l).pl.state ≠ .resetting →
    screenField (u8 body 1) = some c →
    ((v.lane l).pl.screen = c →
      exec (.assignLane t) s
        = .next ((v.modPl l (fun p => { p with confirmed := true })).answered (.done .empty)))
    ∧ ((v.lane l).pl.screen ≠ c → (∀ x, c = some x → v.takenElsewhere l x = false) →
      ∃ u, exec (.assignLane t) s = .next u ∧ LaneFrame v u l ∧ (u.lane l).pl.screen = c
        ∧ (u.lane l).pl.confirmed = false ∧ (u.lane l).pl.queue = [] ∧ (u.lane l).pl.buffer = []
        ∧ (u.lane l).pl.set = (v.lane l).pl.set ∧ (u.lane l).sne.map = (v.lane l).sne.map
        ∧ (u.lane l).ftm.lastAccepted = none ∧ (u.lane l).ftm.absent = true
        ∧ (∀ x, c = some x → u.held.get x = true)
        ∧ (∀ x, (v.lane l).pl.screen = some x → u.held.get x = true)
        ∧ ((u.lane l).pl.state = .idle ∨ (u.lane l).pl.state = .resetting)
        ∧ v.StopClosesRecord u l .laneReset)

/-- HOLD_SCREEN stops the lane, its open record closed with cause HELD, ends its sound and sends CLEAR at the stop and
at the entry to HOLD (R64, R75, R77, R170). -/
def Obligations.ScreenHeld : Prop :=
  ∀ (s v : State) (body : List Byte) (t : Instant) (l : LaneId) (c : ScreenId),
    s.Commanded 0x41 body → body.length = 1 → u8 body 0 = l.val → v = s.takeAt t →
    (v.lane l).pl.state ≠ .resetting →
    (v.lane l).pl.screen = some c → v.screenHeld c = false →
    ∃ u, exec (.holdScreen t) s = .next u
      ∧ LaneFrame v u l ∧ (u.lane l).pl.state = .idle ∧ u.held.get c = true
      ∧ (u.lane l).sne.state = .off
      ∧ v.Sends u (v.onOwn l (if (v.lane l).pl.state.stoppable then [.clear, .clear] else [.clear]))
      ∧ ((v.lane l).pl.state.stoppable = true → v.StopClosesRecord u l .held)
      ∧ ∀ x, x ≠ c → u.held.get x = v.held.get x

/-- RELEASE_SCREEN clears the hold flag of the lane's bound screen, in any lane state but RESETTING, and sends
nothing on a screen link; with no bound screen it is refused BAD_STATE, with the screen not held it changes
nothing, and an IDLE lane stays IDLE (R78). -/
def Obligations.ScreenReleased : Prop :=
  ∀ (s : State) (body : List Byte) (l : LaneId), s.Commanded 0x42 body → body.length = 1 →
    u8 body 0 = l.val →
    ((s.lane l).pl.state = .resetting → exec .releaseScreen s = .next (s.answered (.refused .busy)))
    ∧ ((s.lane l).pl.state ≠ .resetting → (s.lane l).pl.screen = none →
      exec .releaseScreen s = .next (s.answered (.refused .badState)))
    ∧ (∀ c, (s.lane l).pl.state ≠ .resetting → (s.lane l).pl.screen = some c →
      ∃ u more, exec .releaseScreen s = .next u ∧ u.held.get c = false
        ∧ (∀ x, x ≠ c → u.held.get x = s.held.get x)
        ∧ u = ({ s with held := s.held.set c false }).answered (.done .empty)
        ∧ (s.held.get c = false → u = s.answered (.done .empty))
        ∧ u.out = s.out ++ more ∧ (∀ x d, Output.screen x d ∉ more)
        ∧ ((s.lane l).pl.state = .idle → (u.lane l).pl.state = .idle))

/-- APPEND_ITEM: an accepted item joins the tail, a BLACK count clamped, a COMPOSITION, licensed or of a package
that needs no licence, raising its window's reference count; package 0 is BAD_VALUE, a needed licence left out
is LICENCE_NEEDED (R6, R82). REMOVE_ITEM and CLEAR_QUEUE remove items neither promoted nor begun (R84, R85). The
reference count of a window falls by one with each removed item of its package; a RETIRING one that reaches 0 is
released, and one in another state stays (R6, R8).
That the index of REMOVE_ITEM counts from 0 at the head (notes/assumptions/27.md) and that package 0 is
BAD_VALUE (R194, notes/assumptions/29.md) is the model's reading. -/
def Obligations.QueueEdited : Prop :=
  (∀ (s : State) (body : List Byte) (l : LaneId), s.Commanded 0x43 body → u8 body 0 = l.val →
    (s.lane l).pl.state ≠ .resetting → (s.lane l).pl.queue.length < 16 →
    (body.length = 4 → u8 body 1 = 1 → ∃ u, exec .appendItem s = .next u ∧ LaneFrame s u l ∧ u.held = s.held
      ∧ (u.lane l).pl.queue.map Item.kind
        = (s.lane l).pl.queue.map Item.kind ++ [.black (clampNat 1 14400 (u16 body 2))])
    ∧ (body.length = 2 → u8 body 1 = 2 → ∃ u, exec .appendItem s = .next u ∧ LaneFrame s u l ∧ u.held = s.held
      ∧ (u.lane l).pl.queue.map Item.kind = (s.lane l).pl.queue.map Item.kind ++ [.intermission])
    ∧ (body.length = 8 → u8 body 1 = 0 → u16 body 2 = 0 →
      exec .appendItem s = .next (s.answered (.refused .badValue)))
    ∧ (∀ i e, body.length = 8 → u8 body 1 = 0 → u16 body 2 ≠ 0 → s.stc.find (u16 body 2) = some (i, e) →
      e.window.state ≠ .retiring → u8 body 4 ≤ u8 body 5 → u8 body 5 < e.record.decl.reels.length →
      (e.record.decl.licenceRequired = true → u16 body 6 = 0 →
        exec .appendItem s = .next (s.answered (.refused .licenceNeeded)))
      ∧ ((e.record.decl.licenceRequired = false ∨ u16 body 6 ≠ 0) →
        ((s.lane l).pl.queueRate = none ∨ (s.lane l).pl.queueRate = some e.record.decl.rate) →
        ∃ u e', exec .appendItem s = .next u ∧ LaneFrame s u l ∧ u.held = s.held
          ∧ (u.lane l).pl.queue.map Item.kind = (s.lane l).pl.queue.map Item.kind
            ++ [.composition (u16 body 2) (u8 body 4) (u8 body 5)
                (if u16 body 6 = 0 then none else some (u16 body 6))]
          ∧ u.stc.find (u16 body 2) = some (i, e') ∧ e'.window.refs = e.window.refs + 1)))
  ∧ ((∀ (s : State) (body : List Byte) (l : LaneId) (i : Item), s.Commanded 0x44 body → body.length = 2 →
    u8 body 0 = l.val → (s.lane l).pl.state ≠ .resetting →
    (s.lane l).pl.queue[u8 body 1]? = some i →
    (i.promoted = true ∨ i.begun = true →
      exec .removeItem s = .next (s.answered (.refused .badState)))
    ∧ (i.promoted = false → i.begun = false →
      exec .removeItem s = .next ((s.removeItems l (fun x => x.uid == i.uid)).answered
        (.done (.queueLength ((s.removeItems l (fun x => x.uid == i.uid)).lane l).pl.queue.length)))))
  ∧ (∀ (s : State) (body : List Byte) (l : LaneId), s.Commanded 0x45 body → body.length = 1 →
    u8 body 0 = l.val → (s.lane l).pl.state ≠ .resetting →
    ∃ u, exec .clearQueue s = .next u ∧ LaneFrame s u l ∧ u.held = s.held
      ∧ (u.lane l).pl.queue.map Item.kind
        = ((s.lane l).pl.queue.filter (fun x => !(!x.promoted && !x.begun))).map Item.kind
      ∧ u = (s.removeItems l (fun x => !x.promoted && !x.begun)).answered (.done (.cleared
          ((s.lane l).pl.queue.countP (fun x => !x.promoted && !x.begun))
          ((s.lane l).pl.queue.countP (fun x => x.promoted || x.begun))))))
  ∧ (∀ (s u : State) (l : LaneId) (leaves : Item → Bool), u = s.removeItems l leaves →
    (u.lane l).pl = { (s.lane l).pl with queue := (s.lane l).pl.queue.filter (fun x => !leaves x) }
      ∧ (∀ k, k ≠ l → u.lane k = s.lane k)
      ∧ ∀ (pid j n : Nat) (e : TableEntry), s.stc.find pid = some (j, e) →
        (∀ (j' : Nat) (e' : TableEntry), s.stc.table[j']? = some (some e') → e'.window.packageId = pid → j' = j) →
        n = (s.lane l).pl.queue.countP (fun x => leaves x && x.package == some pid) →
        (e.window.state ≠ .retiring ∨ n < e.window.refs →
          u.stc.find pid = some (j, { e with window := { e.window with refs := e.window.refs - n } }))
        ∧ (e.window.state = .retiring → 0 < n → e.window.refs ≤ n →
          u.stc.find pid = none ∧ u.stc.table[j]? = some none
            ∧ (∀ t ∈ u.pka.tickets, t.chunk.packageId ≠ pid)
            ∧ (0 < e.window.ops → ⟨e.window.base, e.window.limit, e.window.ops⟩ ∈ u.stc.draining)
            ∧ (s.stc.status ≠ some .unavailable → ∃ q ∈ u.stc.queue, q.slot = j)))

/-- CUE: with every check passed the head is promoted and its licence reserved, the running rate is set, the
fetcher runs and the lane is CUEING, or CUED if its cue point is reached at once (R90, R93, R94). A failed
promotion is refused with its reason and counted. The reservation stands behind the lane's others with the qualify
mark ceil(total * percent / 100), log occupancy rises by one, and LOG_NEAR_FULL is raised as it rises from 239 to 240
and not otherwise (R58, R67, R68, R139). That a BLACK head's first frame stands at reel 0 is the model's
choice (notes/assumptions/51.md). -/
def Obligations.LaneCued : Prop :=
  ∀ (s : State) (body : List Byte) (l : LaneId) (c : ScreenId) (i : Item) (rest : List Item) (r : Nat),
    s.Commanded 0x46 body → body.length = 1 → u8 body 0 = l.val → (s.lane l).pl.state = .idle →
    (s.lane l).pl.screen = some c → (s.lane l).pl.confirmed = true → s.screenHeld c = false →
    (s.lane l).pl.queue = i :: rest → i.isIntermission = false → (s.lane l).pl.queueRate = some r →
    (∀ s1, promoteHead s l i = .ok s1 →
      ∃ u h tail more, exec .cue s = .next u ∧ LaneFrame s u l ∧ u.held = s.held
        ∧ ((u.lane l).pl.state = .cueing ∨ (u.lane l).pl.state = .cued)
        ∧ (u.lane l).pl.rate = some r ∧ (u.lane l).pl.fault = none ∧ (u.lane l).pl.shown = false
        ∧ (u.lane l).pl.inGap = false ∧ (u.lane l).pl.next = some (i.posAt 0)
        ∧ (u.lane l).pl.position = none
        ∧ (u.lane l).pl.queue = h :: tail ∧ h.uid = i.uid ∧ h.kind = i.kind ∧ h.promoted = true
        ∧ (u.lane l).pl.fetch.state ≠ .stopped
        ∧ u.shc.reservations.get l = s1.shc.reservations.get l ++ more
        ∧ (∀ n, s1.ntu.raised.getLsbD n = true → u.ntu.raised.getLsbD n = true))
    ∧ (∀ why, promoteHead s l i = .error why →
      exec .cue s = .next ((s.modStats l (fun k => { k with refused := satInc top32 k.refused })).answered
        (.refused why)))
    ∧ (∀ lic pid, i.licence = some lic → i.package = some pid → promotionFailure s lic pid = none →
      ∃ s1 q k, promoteHead s l i = .ok s1 ∧ s.shc.find lic = some k
        ∧ s1.shc.reservations.get l = s.shc.reservations.get l ++ [q] ∧ q.licenceId = lic
        ∧ q.packageId = pid ∧ q.screen = some c ∧ q.stage = .promoted
        ∧ q.mark = (i.reelFrames.sum * k.percent + 99) / 100
        ∧ (∀ m, m ≠ l → s1.shc.reservations.get m = s.shc.reservations.get m)
        ∧ s1.shc = { s.shc with reservations := s1.shc.reservations }
        ∧ s1.shc.occupancy = s.shc.occupancy + 1 ∧ s1 = { s with shc := s1.shc, ntu := s1.ntu }
        ∧ (s.shc.occupancy = 239 → s1.ntu.raised.getLsbD srcLogNearFull = true)
        ∧ (s.shc.occupancy ≠ 239 → s1.ntu = s.ntu))
    ∧ (i.licence = none → promoteHead s l i = .ok s)

/-- START: with the rate check on the lane is STARTING under an 8-pulse check gate with the loss timer at 0,
with it off PLAYING, under a 32-pulse watch gate where the rate watch is on; an open host gate ends with GATE raised
(R95, R125, R126). A head item whose licence is EXPIRED is refused LICENCE_EXPIRED, one whose licence's not-before
lies ahead LICENCE_NOT_YET, the lane and its reservation left as they were; neither the count nor the revoked flag is
looked at (R59, R95). -/
def Obligations.LaneStarted : Prop :=
  ∀ (s v : State) (body : List Byte) (t : Instant) (l : LaneId), s.Commanded 0x47 body → body.length = 1 →
    u8 body 0 = l.val → v = s.takeAt t → (v.lane l).pl.state = .cued →
    (startFailure v ((v.lane l).pl.queue.head?.bind Item.licence) = none →
      ∃ u, exec (.start t) s = .next u ∧ LaneFrame v u l ∧ u.held = v.held
        ∧ ((v.lane l).pl.set.rateCheck = true → (u.lane l).pl.state = .starting
          ∧ (u.lane l).ftm = { (v.lane l).ftm with
              gate := Gate.start .check (some 8), lossTimer := some 0,
              lossFresh := decide (v.nextBase ≤ v.clock.now) })
        ∧ ((v.lane l).pl.set.rateCheck = false → (u.lane l).pl.state = .playing
          ∧ (u.lane l).ftm = (if (v.lane l).pl.set.rateWatch then
              { (v.lane l).ftm with watch := true, gate := Gate.start .watch (some 32) } else (v.lane l).ftm))
        ∧ ((v.lane l).ftm.gate.state = .opened → (v.lane l).ftm.gate.owner = .host →
          (v.lane l).pl.set.rateCheck = true ∨ (v.lane l).pl.set.rateWatch = true →
          u.ntu.raised.getLsbD (laneSource l srcGate) = true)
        ∧ (u.lane l).pl.set = (v.lane l).pl.set ∧ (u.lane l).pl.next = (v.lane l).pl.next)
    ∧ ((v.lane l).pl.queue.head?.bind Item.licence = none →
      startFailure v ((v.lane l).pl.queue.head?.bind Item.licence) = none)
    ∧ (∀ lic c, (v.lane l).pl.queue.head?.bind Item.licence = some lic → v.shc.find lic = some c →
      (c.state v.clock.booth = .expired → exec (.start t) s = .next (v.answered (.refused .licenceExpired)))
      ∧ (∀ b, v.clock.booth = some b → c.state v.clock.booth ≠ .expired → b < c.notBefore →
        exec (.start t) s = .next (v.answered (.refused .licenceNotYet)))
      ∧ (∀ b, v.clock.booth = some b → c.state v.clock.booth ≠ .expired → c.notBefore ≤ b →
        startFailure v (some lic) = none))

/-- PAUSE: PAUSED with cause HOST, a RUNNING sound no longer so, place, rate and subtitles kept (R100, R155,
R165). RESUME: PLAYING again with no pause cause and a ramp-up marked, each hidden slot shown again at the opacity
last sent (R156); from an INTERMISSION the new head is examined: none, or a BLOCKED one, leaves the lane IDLE, the
latter with its fault and LANE_FAULT, a further INTERMISSION leaves the queue with ITEM_DONE and the lane PAUSED,
any other is next, from its first frame or from a SEEK's target (R99, R101). That next frame is none until then,
if no SEEK was made, and that a BLACK item's first frame stands at reel 0, is the model's choice
(notes/assumptions/51.md, 58.md); that a SEEK's target made during the INTERMISSION pause is kept by the RESUME is
its reading (notes/assumptions/21.md). -/
def Obligations.LanePausedAndResumed : Prop :=
  (∀ (s v : State) (body : List Byte) (t : Instant) (l : LaneId), s.Commanded 0x48 body → body.length = 1 →
    u8 body 0 = l.val → v = s.takeAt t → (v.lane l).pl.state = .playing →
    ∃ u, exec (.pause t) s = .next u
      ∧ LaneFrame v u l ∧ (u.lane l).pl.state = .paused ∧ (u.lane l).pl.pause = some .host
      ∧ (u.lane l).pl.next = (v.lane l).pl.next ∧ (u.lane l).pl.position = (v.lane l).pl.position
      ∧ (u.lane l).pl.rate = (v.lane l).pl.rate ∧ (u.lane l).ftm.watch = false
      ∧ (u.lane l).sne.state ≠ .running ∧ u.shc.log = v.shc.log ∧ u.held = v.held
      ∧ (u.lane l).sce.active = (v.lane l).sce.active ∧ v.Sends u (fun _ => []))
  ∧ (∀ (s v : State) (body : List Byte) (t : Instant) (l : LaneId), s.Commanded 0x49 body → body.length = 1 →
    u8 body 0 = l.val → v = s.takeAt t → (v.lane l).pl.state = .paused →
    ((v.lane l).pl.pause ≠ some .intermission → ∃ u, exec (.resume t) s = .next u
      ∧ LaneFrame v u l ∧ u.held = v.held
      ∧ (u.lane l).pl.state = .playing ∧ (u.lane l).pl.pause = none
      ∧ (u.lane l).pl.next = (v.lane l).pl.next ∧ (u.lane l).sne.resumed = true
      ∧ (∀ k, (u.lane l).sce.active.get k
        = ((v.lane l).sce.active.get k).map (fun a => { a with hidden := false }))
      ∧ v.Sends u (v.onOwn l ((v.lane l).sce.slotCommands (fun k a => if a.hidden then
          some (.showCue k.val a.cue.region a.cue.offset a.cue.style a.opacity a.cue.lines) else none))))
    ∧ ((v.lane l).pl.pause = some .intermission → (v.lane l).pl.queue = [] →
      ∃ u, exec (.resume t) s = .next u
        ∧ LaneFrame v u l ∧ u.held = v.held ∧ (u.lane l).pl.state = .idle ∧ (u.lane l).pl.rate = none)
    ∧ (∀ i rest, (v.lane l).pl.pause = some .intermission → (v.lane l).pl.queue = i :: rest →
      ∃ u, exec (.resume t) s = .next u ∧ LaneFrame v u l ∧ u.held = v.held ∧ u.shc.log = v.shc.log
        ∧ (i.isIntermission = true → (u.lane l).pl.state = .paused ∧ (u.lane l).pl.pause = some .intermission
          ∧ (u.lane l).pl.queue.map Item.kind = rest.map Item.kind
          ∧ u.ntu.raised.getLsbD (laneSource l srcItemDone) = true)
        ∧ (∀ why, i.isIntermission = false → i.blocked = some why → (u.lane l).pl.state = .idle
          ∧ (u.lane l).pl.rate = none ∧ (u.lane l).pl.fault = some (.promotion why)
          ∧ (u.lane l).pl.queue = (v.lane l).pl.queue.map Item.unblocked
          ∧ u.ntu.raised.getLsbD (laneSource l srcLaneFault) = true)
        ∧ (i.isIntermission = false → i.blocked = none → (u.lane l).pl.state = .playing
          ∧ (u.lane l).pl.pause = none ∧ (u.lane l).sne.resumed = true
          ∧ (u.lane l).pl.next = some ((v.lane l).pl.next.getD (i.posAt 0))
          ∧ (u.lane l).pl.queue.map Item.kind = (v.lane l).pl.queue.map Item.kind)))

/-- STOP: IDLE, the buffer discarded, the epoch advanced, every reservation ended, a begun head removed and
every mark of the items that stay cleared (R102). A record open for the lane is closed at the booth time with cause
STOP, COUNTED_EARLY_END if it has qualified and ABANDONED if not (R64). One CLEAR goes to the lane's screen unless
it is in HOLD (R102), the cue engine empties itself and sends nothing (R158), and a RUNNING sound ramps down to OFF
with the 48 samples ahead as they stood, one already falling goes on to OFF, and one HELD is OFF at once (R165, R169);
that seat pending and the mark of a RESUME stay, and which channels the samples ahead are kept of, is the model's
choice (notes/assumptions/56.md, 34.md); that frame k, the error and the last action stay, and that the ramp begins at
the next wall sample to be produced, is its reading (notes/assumptions/36.md, 23.md). -/
def Obligations.LaneStopped : Prop :=
  ∀ (s v : State) (body : List Byte) (t : Instant) (l : LaneId), s.Commanded 0x4A body → body.length = 1 →
    u8 body 0 = l.val → v = s.takeAt t → (v.lane l).pl.state.stoppable = true →
    ∃ u, exec (.stop t) s = .next u
      ∧ LaneFrame v u l ∧ u.held = v.held ∧ (u.lane l).pl.state = .idle ∧ (u.lane l).pl.rate = none
      ∧ (u.lane l).pl.next = none ∧ (u.lane l).pl.position = none ∧ (u.lane l).pl.pause = none
      ∧ (u.lane l).pl.inGap = false ∧ (u.lane l).pl.buffer = []
      ∧ (u.lane l).pl.fetch = Fetcher.stoppedAt ((v.lane l).pl.fetch.epoch + 1)
      ∧ u.shc.reservations.get l = [] ∧ v.StopClosesRecord u l .stop
      ∧ (u.lane l).pl.queue = ((if (v.lane l).pl.headBegun then (v.lane l).pl.queue.tail
          else (v.lane l).pl.queue).map Item.unmarked)
      ∧ (u.lane l).ftm.injection = none ∧ (u.lane l).pl.set = (v.lane l).pl.set
      ∧ v.Sends u (v.onOwn l [.clear])
      ∧ (u.lane l).sce = { (v.lane l).sce with bankA := Bank.empty, bankB := Bank.empty, current := none,
                                               active := ⟨none, none, none, none⟩, rebuild := false }
      ∧ ((v.lane l).sne.state = .running → (u.lane l).sne = { (v.lane l).sne with
          state := .falling, corrections := [], ramp := .down v.clock.samples, store := (v.lane l).readAhead,
          thenOff := true })
      ∧ ((v.lane l).sne.state = .falling → (u.lane l).sne = { (v.lane l).sne with thenOff := true })
      ∧ ((v.lane l).sne.state = .held → (u.lane l).sne
        = { (v.lane l).sne with state := .off, pointer := none, item := none })
      ∧ ((v.lane l).sne.state = .off → (u.lane l).sne = (v.lane l).sne)

/-- SEEK: in PAUSED, the target, clamped to the item's last frame, is next, the buffer is discarded, so that
what it holds after is unpresented and not before the target, the epoch advances, a seat and a rebuild are
pending and the lane stays PAUSED (R103, R157). That a place in a BLACK item stands at reel 0 is the model's choice
(notes/assumptions/51.md). -/
def Obligations.LaneSought : Prop :=
  ∀ (s v : State) (body : List Byte) (t : Instant) (l : LaneId) (i : Item) (rest : List Item),
    s.Commanded 0x4B body → body.length = 5 → u8 body 0 = l.val → v = s.takeAt t → (v.lane l).pl.state = .paused →
    (v.lane l).pl.queue = i :: rest → i.isIntermission = false → i.promoted = true →
    ∃ u, exec (.seek t) s = .next u ∧ LaneFrame v u l ∧ u.held = v.held
      ∧ (u.lane l).pl.next = some (i.posAt (min (u32 body 1) (i.total - 1)))
      ∧ (u.lane l).pl.state = .paused ∧ (u.lane l).pl.pause = (v.lane l).pl.pause
      ∧ (u.lane l).pl.position = (v.lane l).pl.position ∧ (u.lane l).pl.inGap = false
      ∧ (u.lane l).pl.fetch.epoch = (v.lane l).pl.fetch.epoch + 1
      ∧ (∀ b ∈ (u.lane l).pl.buffer, b.stage ≠ .presented
        ∧ (b.item = i.uid → min (u32 body 1) (i.total - 1) ≤ b.pos.frame))
      ∧ (u.lane l).sne.seatPending = true ∧ (u.lane l).sce.rebuild = true ∧ u.shc.log = v.shc.log

/-- SET_LANE: an enumerated setting takes each of its values and refuses any other BAD_VALUE, a numeric one
takes its clamped value, and no other setting changes (R106). The divider's setting resets the phase and ends an open
gate: ABORTED for HOST, with GATE raised, and for CHECK, the lane CUED with RATE_MISMATCH and LANE_FAULT; a watch gate
is followed by a new one (R115, R126). The rate watch set on while PLAYING begins the watch with a 32-pulse gate, an
open host gate ended with GATE raised; set off it ends the watch, its open gate ABORTED, and clears RATE_OUT with
RATE_WARN raised (R126, R127). The loss time set at or below a running timer expires it (R112). No other setting
touches the monitor (R106). That the divider is an enumerated setting, refused and not clamped, that the watch gate's
successor stands at once, and that N of an aborted gate counts to the tick at or before the command, is the model's
reading (notes/assumptions/25.md, 52.md, 62.md). -/
def Obligations.SettingApplied : Prop :=
  ∀ (s v : State) (body : List Byte) (t : Instant) (l : LaneId), s.Commanded 0x4C body → body.length = 6 →
    u8 body 0 = l.val → v = s.takeAt t → (v.lane l).pl.state ≠ .resetting →
    (∀ (want : Settings),
      (u8 body 1 = 0 ∧ s32 body 2 = 0 ∧ want = { (v.lane l).pl.set with gapPolicy := .holdLast })
      ∨ (u8 body 1 = 0 ∧ s32 body 2 = 1 ∧ want = { (v.lane l).pl.set with gapPolicy := .black })
      ∨ (u8 body 1 = 0 ∧ s32 body 2 = 2 ∧ want = { (v.lane l).pl.set with gapPolicy := .stop })
      ∨ (u8 body 1 = 1 ∧ want
          = { (v.lane l).pl.set with soundDelay := clampInt (-4800) 4800 (s32 body 2) })
      ∨ (u8 body 1 = 2 ∧ want
          = { (v.lane l).pl.set with subtitleOffset := clampInt (-12) 12 (s32 body 2) })
      ∨ (u8 body 1 = 3 ∧ want
          = { (v.lane l).pl.set with maxSlip := (clampInt 0 16 (s32 body 2)).toNat })
      ∨ (u8 body 1 = 4 ∧ want
          = { (v.lane l).pl.set with resyncLimit := (clampInt 48 48000 (s32 body 2)).toNat })
      ∨ (u8 body 1 = 5 ∧ want
          = { (v.lane l).pl.set with lowMark := (clampInt 8 40 (s32 body 2)).toNat })
      ∨ (u8 body 1 = 6 ∧ (s32 body 2 = 1 ∨ s32 body 2 = 2)
        ∧ want = { (v.lane l).pl.set with divider := (s32 body 2).toNat })
      ∨ (u8 body 1 = 7 ∧ want
          = { (v.lane l).pl.set with tolerance := (clampInt 1000 50000 (s32 body 2)).toNat })
      ∨ (u8 body 1 = 8 ∧ s32 body 2 = 0 ∧ want = { (v.lane l).pl.set with rateCheck := false })
      ∨ (u8 body 1 = 8 ∧ s32 body 2 = 1 ∧ want = { (v.lane l).pl.set with rateCheck := true })
      ∨ (u8 body 1 = 9 ∧ s32 body 2 = 0 ∧ want = { (v.lane l).pl.set with rateWatch := false })
      ∨ (u8 body 1 = 9 ∧ s32 body 2 = 1 ∧ want = { (v.lane l).pl.set with rateWatch := true })
      ∨ (u8 body 1 = 10 ∧ want
          = { (v.lane l).pl.set with lossTime := (clampInt 100 2000 (s32 body 2)).toNat }) →
      ∃ u, exec (.setLane t) s = .next u ∧ LaneFrame v u l ∧ u.held = v.held ∧ (u.lane l).pl.set = want
        ∧ (∀ k, k ≠ l → (u.lane k).pl.set = (v.lane k).pl.set)
        ∧ (∀ (m : Monitor) (g aborted : Gate), m = (v.lane l).ftm → g = m.gate →
          aborted = { g with state := .aborted, result := some .aborted, count := g.ticks v.clock.now } →
          (u8 body 1 = 6 →
            (u.lane l).ftm = { m with phase := 0, gate := (if g.state ≠ .opened then g
                else if g.owner = .watch then Gate.start .watch (some 32) else aborted) }
            ∧ (g.state = .opened → g.owner = .host → u.ntu.raised.getLsbD (laneSource l srcGate) = true)
            ∧ (g.state = .opened → g.owner = .check → (u.lane l).pl.state = .cued
              ∧ (u.lane l).pl.fault = some .rateMismatch
              ∧ u.ntu.raised.getLsbD (laneSource l srcLaneFault) = true))
          ∧ (u8 body 1 = 9 → want.rateWatch = true →
            (u.lane l).ftm = (if (v.lane l).pl.state = .playing ∧ m.watch = false then
                { m with watch := true, gate := Gate.start .watch (some 32) } else m)
            ∧ ((v.lane l).pl.state = .playing → m.watch = false → g.state = .opened → g.owner = .host →
              u.ntu.raised.getLsbD (laneSource l srcGate) = true))
          ∧ (u8 body 1 = 9 → want.rateWatch = false →
            (u.lane l).ftm = { m with
                watch := false, rateOut := false,
                gate := (if m.watch = true ∧ g.owner = .watch ∧ g.state = .opened then aborted else g) }
            ∧ (m.rateOut = true → u.ntu.raised.getLsbD (laneSource l srcRateWarn) = true))
          ∧ (u8 body 1 = 10 → ∀ k, m.lossTimer = some k → want.lossTime ≤ k →
            (u.lane l).ftm.lossTimer = none ∧ (u.lane l).ftm.absent = true
              ∧ (u.lane l).ftm.lossExpiries = satInc top16 m.lossExpiries)
          ∧ (u8 body 1 = 10 → (∀ k, m.lossTimer = some k → k < want.lossTime) → (u.lane l).ftm = m)
          ∧ (u8 body 1 ≠ 6 → u8 body 1 ≠ 9 → u8 body 1 ≠ 10 → (u.lane l).ftm = m)))
    ∧ ((u8 body 1 = 0 ∧ (s32 body 2 < 0 ∨ 2 < s32 body 2))
        ∨ (u8 body 1 = 6 ∧ s32 body 2 ≠ 1 ∧ s32 body 2 ≠ 2)
        ∨ ((u8 body 1 = 8 ∨ u8 body 1 = 9) ∧ s32 body 2 ≠ 0 ∧ s32 body 2 ≠ 1) ∨ 10 < u8 body 1 →
      exec (.setLane t) s = .next (v.answered (.refused .badValue)))

/-- LANE_RESET: the lane is cleared, its open record closed with cause LANE_RESET, its cue engine reset, its
screen held and sent CLEAR unless it was held, settings and channel map kept; it is IDLE with LANE_READY raised
when no read of it is in flight, RESETTING otherwise (R64, R75, R104, R105, R161, R179). -/
def Obligations.LaneResetTaken : Prop :=
  ∀ (s v : State) (body : List Byte) (t : Instant) (l : LaneId), s.Commanded 0x4D body → body.length = 1 →
    u8 body 0 = l.val → v = s.takeAt t → (v.lane l).pl.state ≠ .resetting →
    ∃ u, exec (.laneReset t) s = .next u
      ∧ LaneFrame v u l ∧ (u.lane l).pl.queue = [] ∧ (u.lane l).pl.buffer = []
      ∧ (u.lane l).pl.confirmed = false ∧ (u.lane l).pl.rate = none ∧ (u.lane l).pl.fault = none
      ∧ (u.lane l).pl.stats = LaneStats.zero ∧ (u.lane l).pl.set = (v.lane l).pl.set
      ∧ (u.lane l).sne.map = (v.lane l).sne.map ∧ (u.lane l).sne.state = .off
      ∧ (u.lane l).ftm.gate.state ≠ .opened ∧ (u.lane l).ftm.injection = none
      ∧ u.shc.reservations.get l = [] ∧ v.StopClosesRecord u l .laneReset ∧ u.link = v.link
      ∧ (u.lane l).pl.next = none ∧ (u.lane l).pl.position = none ∧ (u.lane l).pl.pause = none
      ∧ (u.lane l).pl.inGap = false ∧ (u.lane l).pl.shown = false ∧ (u.lane l).sce = CueEngine.reset
      ∧ (u.lane l).sne.counts = SoundCounts.zero ∧ v.Sends u (v.onOwn l [.clear])
      ∧ (∀ c, (v.lane l).pl.screen = some c → u.held.get c = true)
      ∧ (u.lane l).pl.state
        = (if v.stc.flight.any (Operation.ofLane l) then LaneState.resetting else LaneState.idle)
      ∧ (v.stc.flight.any (Operation.ofLane l) = false →
        u.ntu.raised.getLsbD (laneSource l srcLaneReady) = true)

/-- The reports of a lane, its monitor and its sound change nothing but the reply and the passing of time
(R107, R124, R160, R176). -/
def Obligations.LaneReported : Prop :=
  ∀ (s v : State) (body : List Byte) (t : Instant) (l : LaneId), body.length = 1 → u8 body 0 = l.val →
    v = s.takeAt t →
    (s.Commanded 0x4E body → exec .queryLane s = .next (s.answered (.done (.lane (laneReport s l)))))
    ∧ (s.Commanded 0x52 body → (v.lane l).pl.state ≠ .resetting →
      exec (.queryGate t) s = .next (v.answered (.done (.gate (gateReport v l)))))
    ∧ (s.Commanded 0x61 body →
      exec (.querySound t) s = .next (v.answered (.done (.sound (soundReport v l)))))

/-! ### Pulses and gates -/

/-- GATE_START, GATE_STOP with the gate record in its reply, and INJECT_PULSES (R116, R117, R119, R121, R122);
and the three ends of a stopped gate (R122). That a run counts from the monitor tick at or before the command is
the model's choice (notes/assumptions/46.md), that N at the stop counts up to that tick its reading
(notes/assumptions/62.md). -/
def Obligations.GateCommands : Prop :=
  (∀ (s : State) (body : List Byte) (l : LaneId) (length : Option Nat), s.Commanded 0x50 body →
    body.length = 2 → u8 body 0 = l.val → (s.lane l).pl.state ≠ .resetting →
    (s.lane l).pl.state ≠ .starting → gateLength (u8 body 1) = some length →
    (s.lane l).ftm.watch = false → (s.lane l).ftm.gate.state ≠ .opened →
    ∃ u, exec .gateStart s = .next u
      ∧ LaneFrame s u l ∧ u.held = s.held
      ∧ (u.lane l).ftm = { (s.lane l).ftm with gate := Gate.start .host length }
      ∧ ∀ k, k ≠ l → (u.lane k).ftm = (s.lane k).ftm)
  ∧ (∀ (s v : State) (body : List Byte) (t : Instant) (l : LaneId), s.Commanded 0x51 body →
    body.length = 1 → u8 body 0 = l.val → v = s.takeAt t → (v.lane l).pl.state ≠ .resetting →
    (v.lane l).ftm.gate.state = .opened → (v.lane l).ftm.gate.owner = .host →
    ∃ u, exec (.gateStop t) s = .next u ∧ LaneFrame v u l ∧ u.held = v.held
      ∧ (u.lane l).ftm.gate = (v.lane l).ftm.gate.stopped (v.lane l).pl.rate v.clock.now
      ∧ (u.lane l).ftm.phase = (v.lane l).ftm.phase
      ∧ u.ntu.raised.getLsbD (laneSource l srcGate) = true
      ∧ u.bcp.cmds = answerFirst
          (.done (.gateStopped ((u.lane l).ftm.gate.fields v.clock.now))) s.bcp.cmds)
  ∧ (∀ (g : Gate) (rate : Option Nat) (now : Instant),
    (g.length ≠ none → (g.stopped rate now).state = .aborted ∧ (g.stopped rate now).result = some .aborted
      ∧ (g.stopped rate now).pulses = g.pulses ∧ (g.stopped rate now).count = g.ticks now)
    ∧ (g.length = none → g.opened = true → 1 ≤ g.pulses →
      (g.stopped rate now).state = .done ∧ (g.stopped rate now).result = some .valid
        ∧ (g.stopped rate now).pulses = g.pulses ∧ (g.stopped rate now).count = g.count
        ∧ (g.stopped rate now).rate = some (measuredRate g.pulses g.count)
        ∧ (g.stopped rate now).deviation = rate.map (deviation (measuredRate g.pulses g.count)))
    ∧ (g.length = none → (g.opened = false ∨ g.pulses = 0) →
      (g.stopped rate now).state = .done ∧ (g.stopped rate now).result = some .noPulses
        ∧ (g.stopped rate now).count = g.ticks now))
  ∧ (∀ (s v : State) (body : List Byte) (t : Instant) (l : LaneId), s.Commanded 0x53 body →
    body.length = 7 → u8 body 0 = l.val → v = s.takeAt t → (v.lane l).pl.state ≠ .resetting →
    (v.lane l).pl.state ≠ .idle → v.shc.mode = .rehearsal → (v.lane l).ftm.injection = none →
    ∃ u, exec (.injectPulses t) s = .next u ∧ LaneFrame v u l ∧ u.held = v.held
      ∧ (u.lane l).ftm = { (v.lane l).ftm with
          injection := some (Injection.mk (clampNat 1 65535 (u16 body 1))
            (clampNat 9999 999999 (u32 body 3))
            (tickAt v.clock.now + clampNat 9999 999999 (u32 body 3) + 1)) })

/-- RAW_PULSE: a pulse on a screen bound to no lane, or on a lane in an injection run, is discarded, no monitor
and no place in the content moved (R75, R110); a pulse less than 4,000 ticks after the last accepted one is only
counted as a glitch; any other is accepted: it is counted, pulse-absent is clear and the loss timer starts anew.
With divider 2 an accepted pulse that finds the phase 0 is not passed; with divider 1, or at phase 1, it is passed
and counted, and leaves phase 0 (R110, R111, R112, R114). INJECTED_PULSE on a CUED lane with no gate: the
remaining count falls, and the run ends with its last (R110, R117). What fell due at a base tick behind the pulse
is taken before it (R112); at one instant with it, in the order of the rows, which is the model's choice
(notes/assumptions/3.md). A pulse passed by the divider is taken by the gate counter and, on a PLAYING lane,
presents (R97, R114). The gate counter: the first counted pulse of an open gate opens it at its tick, a later one
raises the count and keeps N, and the one that brings the count to L ends it VALID with its rate and deviation. A
host gate's end raises GATE; a check gate within the tolerance makes the lane PLAYING, another CUED with
RATE_MISMATCH and LANE_FAULT; a watch gate gives its verdict, RATE_WARN on a change, and the same pulse opens the
next (R119, R120, R125 to R127). That the first watch gate behind a check gate opens with its opening pulse, and that
a gate takes a pulse at the tick at or before its instant as the glitch filter does, is the model's reading
(notes/assumptions/30.md, 62.md). -/
def Obligations.PulsesConditioned : Prop :=
  (∀ (s v : State) (c : ScreenId) (t : Instant), s.pin = false → v = s.takeAt t →
    (v.boundTo c = none ∨ ∃ l j, v.boundTo c = some l ∧ (v.lane l).ftm.injection = some j) →
    exec (.rawPulse c t) s = .next v.settle
      ∧ ∀ k, (v.settle.lane k).ftm = (v.lane k).ftm ∧ (v.settle.lane k).pl.next = (v.lane k).pl.next
          ∧ (v.settle.lane k).pl.position = (v.lane k).pl.position)
  ∧ (∀ (s v : State) (c : ScreenId) (t : Instant) (l : LaneId), s.pin = false → v = s.takeAt t →
    v.boundTo c = some l → (v.lane l).ftm.injection = none →
    (∀ last, (v.lane l).ftm.lastAccepted = some last → tickAt v.clock.now < last + 4000 →
      ∃ u, exec (.rawPulse c t) s = .next u ∧ LaneFrame v u l ∧ u.held = v.held
        ∧ (u.lane l).ftm = { (v.lane l).ftm with glitches := satInc top16 (v.lane l).ftm.glitches }
        ∧ (u.lane l).pl.next = (v.lane l).pl.next)
    ∧ ((∀ last, (v.lane l).ftm.lastAccepted = some last → last + 4000 ≤ tickAt v.clock.now) →
      ((v.lane l).pl.set.divider = 2 → (v.lane l).ftm.phase = 0 →
        ∃ u, exec (.rawPulse c t) s = .next u ∧ LaneFrame v u l ∧ u.held = v.held
          ∧ (u.lane l).ftm = { (v.lane l).ftm with
              lastAccepted := some (tickAt v.clock.now),
              accepted := satInc top32 (v.lane l).ftm.accepted, absent := false, lossTimer := some 0,
              lossFresh := decide (v.nextBase ≤ v.clock.now),
              phase := 1 }
          ∧ (u.lane l).pl.next = (v.lane l).pl.next)
      ∧ (((v.lane l).pl.set.divider = 1 ∨ (v.lane l).pl.set.divider = 2 ∧ (v.lane l).ftm.phase = 1) →
        (v.lane l).pl.state ≠ .playing → (v.lane l).ftm.gate.state ≠ .opened →
        (v.lane l).ftm.watch = false →
        ∃ u, exec (.rawPulse c t) s = .next u ∧ LaneFrame v u l ∧ u.held = v.held
          ∧ (u.lane l).ftm = { (v.lane l).ftm with
              lastAccepted := some (tickAt v.clock.now),
              accepted := satInc top32 (v.lane l).ftm.accepted, absent := false, lossTimer := some 0,
              lossFresh := decide (v.nextBase ≤ v.clock.now),
              phase := 0, counted := satInc top32 (v.lane l).ftm.counted }
          ∧ (u.lane l).pl.next = (v.lane l).pl.next)))
  ∧ (∀ (s v : State) (l : LaneId) (j : Injection), s.pin = false → (s.lane l).ftm.injection = some j →
    j.nextTick * 150 ≤ s.horizon → v = s.caughtUp (j.nextTick * 150) →
    (v.lane l).ftm.injection = some j → (v.lane l).pl.state = .cued →
    (v.lane l).ftm.gate.state ≠ .opened → (v.lane l).ftm.watch = false →
    ∃ u, exec (.injectedPulse l) s = .next u ∧ LaneFrame v u l ∧ u.held = v.held
      ∧ (u.lane l).ftm.injection = (if j.remaining - 1 = 0 then none
          else some ⟨j.remaining - 1, j.q, j.nextTick + j.q + 1⟩)
      ∧ (u.lane l).pl.state = .cued ∧ (u.lane l).pl.next = (v.lane l).pl.next)
  ∧ ((∀ (s v : State) (c : ScreenId) (t : Instant) (l : LaneId), s.pin = false → v = s.takeAt t →
      v.boundTo c = some l → (v.lane l).ftm.injection = none →
      exec (.rawPulse c t) s = .next (v.pulse l).settle)
    ∧ (∀ (s v w : State) (l : LaneId) (j : Injection), s.pin = false → (s.lane l).ftm.injection = some j →
      j.nextTick * 150 ≤ s.horizon → v = s.caughtUp (j.nextTick * 150) →
      (v.lane l).ftm.injection = some j →
      w = ((v.clockTo (max v.clock.now (j.nextTick * 150))).modFtm l (fun m => { m with
        injection := some ⟨j.remaining - 1, j.q, j.nextTick + j.q + 1⟩ })).pulse l →
      exec (.injectedPulse l) s = .next (if j.remaining - 1 = 0 then
          w.modFtm l (fun m => { m with injection := none }) else w).settle)
    ∧ (∀ (w : State) (l : LaneId),
      (∀ last, (w.lane l).ftm.lastAccepted = some last → last + 4000 ≤ tickAt w.clock.now) →
      ((w.lane l).pl.set.divider = 1 ∨ (w.lane l).pl.set.divider = 2 ∧ (w.lane l).ftm.phase = 1) →
      w.pulse l = (w.modFtm l (fun m => { m with
        lastAccepted := some (tickAt w.clock.now), accepted := satInc top32 m.accepted, absent := false,
        lossTimer := some 0, lossFresh := decide (w.nextBase ≤ w.clock.now), phase := 0,
        counted := satInc top32 m.counted })).countedPulse l)
    ∧ (∀ (w : State) (l : LaneId),
      ((w.lane l).pl.state = .playing →
          ((w.lane l).ftm.gate.state = .opened → (w.lane l).ftm.gate.owner ≠ .check) →
        w.countedPulse l = (w.gatePulse l).presentPulse l)
      ∧ ((w.lane l).pl.state = .starting → w.countedPulse l = w.gatePulse l)
      ∧ ((w.lane l).pl.state ≠ .playing →
          ((w.lane l).ftm.gate.state = .opened → (w.lane l).ftm.gate.owner ≠ .check) →
        w.countedPulse l = w.gatePulse l)))
  ∧ (∀ (w u : State) (l : LaneId) (g opened : Gate), g = (w.lane l).ftm.gate → u = w.gatePulse l →
    opened = { Gate.start .watch (some 32) with opened := true, openTick := tickAt w.clock.now } →
    (g.state ≠ .opened → (w.lane l).ftm.watch = false → u = w)
    ∧ (g.state ≠ .opened → (w.lane l).ftm.watch = true →
      u = w.modFtm l (fun m => { m with gate := opened }))
    ∧ (g.state = .opened → g.opened = false → u = w.modFtm l (fun m => { m with
        gate := { g with opened := true, openTick := tickAt w.clock.now } }))
    ∧ (g.state = .opened → g.opened = true → g.length ≠ some (satInc top32 g.pulses) →
      u = w.modFtm l (fun m => { m with gate := { g with
        pulses := satInc top32 g.pulses, count := g.ticks w.clock.now } }))
    ∧ (∀ (n k : Nat) (done : Gate), g.state = .opened → g.opened = true → g.length = some n →
      n = satInc top32 g.pulses → k = min 16777215 (tickAt w.clock.now - g.openTick) →
      done = { g with state := .done, pulses := n, count := k, result := some .valid,
                      rate := some (measuredRate n k),
                      deviation := (w.lane l).pl.rate.map (deviation (measuredRate n k)) } →
      (g.owner = .host → u = (w.modFtm l (fun m => { m with gate := done })).raiseLane l srcGate)
      ∧ (∀ rate, g.owner = .check → (w.lane l).pl.rate = some rate →
        (u.lane l).ftm.gate = done
          ∧ ((deviation (measuredRate n k) rate).natAbs ≤ (w.lane l).pl.set.tolerance →
            (u.lane l).pl = { (w.lane l).pl with state := .playing }
              ∧ (u.lane l).ftm.watch = (w.lane l).pl.set.rateWatch ∧ u.ntu = w.ntu)
          ∧ ((w.lane l).pl.set.tolerance < (deviation (measuredRate n k) rate).natAbs →
            (u.lane l).pl = { (w.lane l).pl with state := .cued, fault := some .rateMismatch }
              ∧ (u.lane l).ftm.watch = (w.lane l).ftm.watch
              ∧ u.ntu.raised.getLsbD (laneSource l srcLaneFault) = true))
      ∧ (∀ rate out, g.owner = .watch → (w.lane l).pl.rate = some rate →
        out = decide ((w.lane l).pl.set.tolerance < (deviation (measuredRate n k) rate).natAbs) →
        (u.lane l).ftm = { (w.lane l).ftm with
            gate := opened, rateOut := out, watchGates := satInc top32 (w.lane l).ftm.watchGates }
          ∧ (u.lane l).pl = (w.lane l).pl
          ∧ (out = (w.lane l).ftm.rateOut → u.ntu = w.ntu)
          ∧ (out ≠ (w.lane l).ftm.rateOut →
            u.ntu.raised.getLsbD (laneSource l srcRateWarn) = true))))

/-- PULSE_LOSS_EXPIRY: the timer stops, pulse-absent is set, an open gate is aborted NO_PULSES, and the lane is
PAUSED, CUED with NO_PULSES, or left as it is, by its state (R112, R113, R123); at that pause each active slot is
hidden, with a HIDE for each that was not (R155). GATE_OVERFLOW: the gate is DONE with OVERFLOW and N 16,777,215;
a host gate raises GATE, a check gate returns the lane to CUED, a watch gate sets RATE_OUT and is followed by
another (R120, R125, R127). An event behind the base tick at which the timer reached its loss time finds the
expiry taken (R112); that it is taken with that event where its own row has not come is the model's choice
(notes/assumptions/3.md). BASE_TICK raises each running timer by one, but for one restarted at the tick's own instant
before it, so that its expiry comes more than loss time - 1 ms behind the restart (R112), the last the model's reading
(notes/assumptions/72.md). That an overflow comes with the 16,777,215th tick, the opening pulse's the first, is its
reading too (notes/assumptions/65.md). -/
def Obligations.MonitorTimesOut : Prop :=
  (∀ (s : State) (l : LaneId), s.pin = false → (s.lane l).lossDue = true →
    ∃ u, exec (.pulseLossExpiry l) s = .next u ∧ LaneFrame s u l ∧ u.held = s.held
      ∧ (u.lane l).ftm.lossTimer = none ∧ (u.lane l).ftm.absent = true
      ∧ (u.lane l).ftm.lossExpiries = satInc top16 (s.lane l).ftm.lossExpiries
      ∧ ((s.lane l).ftm.gate.state = .opened → (u.lane l).ftm.gate.state = .aborted
        ∧ (u.lane l).ftm.gate.result = some .noPulses)
      ∧ ((s.lane l).pl.state = .playing → (u.lane l).pl.state = .paused
        ∧ (u.lane l).pl.pause = some .pulseLost ∧ (u.lane l).pl.fault = some .pulseLost
        ∧ (∀ k, (u.lane l).sce.active.get k
          = ((s.lane l).sce.active.get k).map (fun a => { a with hidden := true }))
        ∧ s.Sends u (s.onOwn l ((s.lane l).sce.slotCommands (fun k a =>
            if a.hidden then none else some (.hide k.val)))))
      ∧ ((s.lane l).pl.state ≠ .playing → (u.lane l).sce.active = (s.lane l).sce.active
        ∧ s.Sends u (fun _ => []))
      ∧ ((s.lane l).pl.state = .starting → (u.lane l).pl.state = .cued
        ∧ (u.lane l).pl.fault = some .noPulses)
      ∧ ((s.lane l).pl.state = .idle ∨ (s.lane l).pl.state = .cued ∨ (s.lane l).pl.state = .paused
          ∨ (s.lane l).pl.state = .resetting →
        (u.lane l).pl.state = (s.lane l).pl.state ∧ (u.lane l).pl.fault = (s.lane l).pl.fault))
  ∧ (∀ (s : State) (l : LaneId) (t : Instant), (s.lane l).lossDue = true → s.lastBase < s.takenAt t →
    ((s.takeAt t).lane l).ftm.lossTimer = none ∧ ((s.takeAt t).lane l).ftm.absent = true
      ∧ ((s.takeAt t).lane l).ftm.lossExpiries = satInc top16 (s.lane l).ftm.lossExpiries
      ∧ ((s.lane l).pl.state = .playing → ((s.takeAt t).lane l).pl.state = .paused
        ∧ ((s.takeAt t).lane l).pl.pause = some .pulseLost
        ∧ ((s.takeAt t).lane l).pl.fault = some .pulseLost)
      ∧ ((s.lane l).pl.state = .starting → ((s.takeAt t).lane l).pl.state = .cued
        ∧ ((s.takeAt t).lane l).pl.fault = some .noPulses))
  ∧ (∀ (s u w : State) (l : LaneId) (m : Monitor), s.pin = false → w = s.takeOverdue.takeTimed 8 →
    m = (w.lane l).ftm → exec .baseTick s = .next u →
    (u.lane l).ftm = { m with
      lossTimer := (if m.lossFresh then m.lossTimer else m.lossTimer.map (fun k => k + 1)), lossFresh := false })
  ∧ (∀ (s v : State) (l : LaneId) (i : Instant), s.pin = false → (s.lane l).ftm.overflowAt = some i →
    i ≤ s.horizon → v = s.caughtUp i → (v.lane l).ftm.overflowAt = some i →
    ∃ u, exec (.gateOverflow l) s = .next u ∧ LaneFrame v u l ∧ u.held = v.held
      ∧ ((v.lane l).ftm.gate.owner ≠ .watch → (u.lane l).ftm.gate.state = .done
        ∧ (u.lane l).ftm.gate.result = some .overflow ∧ (u.lane l).ftm.gate.count = 16777215
        ∧ (u.lane l).ftm.gate.pulses = (v.lane l).ftm.gate.pulses)
      ∧ ((v.lane l).ftm.gate.owner = .host → u.ntu.raised.getLsbD (laneSource l srcGate) = true)
      ∧ ((v.lane l).ftm.gate.owner = .check → (u.lane l).pl.state = .cued
        ∧ (u.lane l).pl.fault = some .rateMismatch)
      ∧ ((v.lane l).ftm.gate.owner = .watch → (u.lane l).ftm.rateOut = true
        ∧ (u.lane l).ftm.gate = Gate.start .watch (some 32)))

/-! ### Presentation -/

/-- A READY frame of a COMPOSITION is presented: FRAME first on the link, position and next frame moved, the
count raised, any gap ended; with the last of its reel the reel leaves hand and its cues their slots (R91, R97,
R150). A frame of a BLACK item is BLACK on the link and moves next frame alone (R97). A missing head is filled by
REPEAT, or by BLACK under that policy or with nothing shown yet, GAP raised, and is awaited; a read-faulted one is
filled so and consumed. Under policy STOP nothing but the HIDEs of the pause (R155) is sent, and the lane is
PAUSED by the gap with LANE_FAULT, a faulted head discarded (R98). The last frame of an item, a BLACK item's too, is
followed by the item's end: ITEM_DONE and its count, the open showing closed COMPLETE or SHORT or the reservation
without a record dropped, the head out of the queue, and the next head examined: none, or a BLOCKED one, leaves the
lane IDLE, an INTERMISSION is taken and leaves it PAUSED, any other is next from its first frame (R63, R65, R99). That
an INTERMISSION raises no items-done count (notes/assumptions/28.md) and that R92's freeing of a slot follows the end
of the item (notes/assumptions/53.md) is the model's reading; that a BLACK item's frames stand at reel 0 is its choice
(notes/assumptions/51.md). -/
def Obligations.PulsePresentsOrFills : Prop :=
  (∀ (s : State) (l : LaneId) (c : ScreenId) (i : Item) (rest : List Item) (pos : Pos),
    (s.lane l).pl.screen = some c → s.screenHeld c = false → (s.lane l).pl.queue = i :: rest →
    (s.lane l).pl.next = some pos →
    (∀ b q, s.headSlot l i pos = some b → b.stage = .ready → b.faulted = false → i.isComposition = true →
      i.after pos = some q →
      ∃ more, (s.presentPulse l).out = s.out ++ .screen c (.frame b.frameBytes) :: more
        ∧ ((s.presentPulse l).lane l).pl.position = some pos
        ∧ ((s.presentPulse l).lane l).pl.next = some q
        ∧ ((s.presentPulse l).lane l).pl.shown = true ∧ ((s.presentPulse l).lane l).pl.inGap = false
        ∧ ((s.presentPulse l).lane l).pl.stats.real = satInc top32 (s.lane l).pl.stats.real
        ∧ ((s.presentPulse l).lane l).pl.state = (s.lane l).pl.state
        ∧ (q.reel = pos.reel →
          ((s.presentPulse l).lane l).pl.fetch.inHand = (s.lane l).pl.fetch.inHand)
        ∧ (q.reel ≠ pos.reel → (i.uid, pos.reel) ∉ ((s.presentPulse l).lane l).pl.fetch.inHand
          ∧ ((s.presentPulse l).lane l).sce.active = ⟨none, none, none, none⟩
          ∧ ∀ b, (s.lane l).sce.bankOf i.uid pos.reel = some b →
              ((s.presentPulse l).lane l).sce.bank b = Bank.empty))
    ∧ (∀ b q n, s.headSlot l i pos = some b → b.stage = .ready → b.faulted = false → i.kind = .black n →
      i.after pos = some q →
      (s.presentPulse l).out = s.out ++ [.screen c .black]
        ∧ ((s.presentPulse l).lane l).pl.next = some q
        ∧ ((s.presentPulse l).lane l).pl.shown = true ∧ ((s.presentPulse l).lane l).pl.inGap = false
        ∧ ((s.presentPulse l).lane l).pl.position = (s.lane l).pl.position
        ∧ ((s.presentPulse l).lane l).pl.stats = (s.lane l).pl.stats
        ∧ ((s.presentPulse l).lane l).sce = (s.lane l).sce ∧ (s.presentPulse l).shc = s.shc
        ∧ (s.presentPulse l).ntu = s.ntu
        ∧ ((s.presentPulse l).lane l).pl.queue
          = (s.lane l).pl.queue.map (fun x => if x.uid = i.uid then { x with begun := true } else x))
    ∧ (∀ b, s.headSlot l i pos = some b → b.stage = .ready → b.faulted = false → i.isComposition = true →
      i.after pos = none →
      ∃ (s1 : State) (more : List Output), s.presentPulse l = (s1.itemEnd l i).relieved l
        ∧ s1.out = s.out ++ .screen c (.frame b.frameBytes) :: more
        ∧ (s1.lane l).pl.queue
          = (s.lane l).pl.queue.map (fun x => if x.uid = i.uid then { x with begun := true } else x)
        ∧ (s1.lane l).pl.position = some pos
        ∧ (s1.lane l).pl.stats = { (s.lane l).pl.stats with real := satInc top32 (s.lane l).pl.stats.real }
        ∧ (s1.lane l).pl.state = (s.lane l).pl.state ∧ (s1.lane l).pl.rate = (s.lane l).pl.rate
        ∧ s1.shc = (if i.licence.isSome then (s.showReal l).shc else s.shc)
        ∧ s1.clock = s.clock ∧ s1.stc = s.stc ∧ s1.pka = s.pka ∧ ∀ k, k ≠ l → s1.lane k = s.lane k)
    ∧ (∀ b n, s.headSlot l i pos = some b → b.stage = .ready → b.faulted = false → i.kind = .black n →
      i.after pos = none →
      ∃ s1 : State, s.presentPulse l = (s1.itemEnd l i).relieved l
        ∧ s1.out = s.out ++ [.screen c .black]
        ∧ (s1.lane l).pl.queue
          = (s.lane l).pl.queue.map (fun x => if x.uid = i.uid then { x with begun := true } else x)
        ∧ (s1.lane l).pl.next = none ∧ (s1.lane l).pl.position = (s.lane l).pl.position
        ∧ (s1.lane l).pl.shown = true ∧ (s1.lane l).pl.inGap = false
        ∧ (s1.lane l).pl.stats = (s.lane l).pl.stats ∧ (s1.lane l).pl.state = (s.lane l).pl.state
        ∧ (s1.lane l).pl.rate = (s.lane l).pl.rate ∧ (s1.lane l).pl.set = (s.lane l).pl.set
        ∧ (s1.lane l).pl.fetch = (s.lane l).pl.fetch ∧ (s1.lane l).sce = (s.lane l).sce
        ∧ (s1.lane l).ftm = (s.lane l).ftm ∧ s1.shc = s.shc ∧ s1.ntu = s.ntu
        ∧ s1.clock = s.clock ∧ s1.stc = s.stc ∧ s1.pka = s.pka ∧ ∀ k, k ≠ l → s1.lane k = s.lane k)
    ∧ (∀ fill : ScreenCommand,
      fill = (if (s.lane l).pl.set.gapPolicy = .holdLast ∧ (s.lane l).pl.shown = true then .repeatFrame
        else .black) →
      (s.lane l).pl.set.gapPolicy ≠ .stop →
      ((∀ b, s.headSlot l i pos = some b → b.stage = .reading) →
        (s.presentPulse l).out = s.out ++ [.screen c fill] ∧ s.Filled (s.presentPulse l) l
          ∧ ((s.presentPulse l).lane l).pl.next = some pos
          ∧ ((s.presentPulse l).lane l).pl.buffer = (s.lane l).pl.buffer)
      ∧ (∀ b q, s.headSlot l i pos = some b → b.stage = .ready → b.faulted = true → i.after pos = some q →
        ∃ more, (s.presentPulse l).out = s.out ++ .screen c fill :: more ∧ s.Filled (s.presentPulse l) l
          ∧ ((s.presentPulse l).lane l).pl.next = some q
          ∧ ((s.presentPulse l).lane l).pl.buffer = (s.lane l).pl.buffer.filter (fun x => x.num != b.num)
          ∧ (q.reel = pos.reel → more = []))
      ∧ (∀ b, s.headSlot l i pos = some b → b.stage = .ready → b.faulted = true → i.after pos = none →
        ∃ (s1 : State) (more : List Output), s.presentPulse l = s1.itemEnd l i
          ∧ s1.out = s.out ++ .screen c fill :: more ∧ s.Filled s1 l ∧ s.Consumed s1 l i b
          ∧ s1.shc = (if i.licence.isSome then (s.showFill l).shc else s.shc)))
    ∧ ((s.lane l).pl.set.gapPolicy = .stop → (s.lane l).pl.state = .playing →
      ((∀ b, s.headSlot l i pos = some b → b.stage = .reading) →
        s.GapPaused (s.presentPulse l) l c ∧ ((s.presentPulse l).lane l).pl.next = some pos
          ∧ ((s.presentPulse l).lane l).pl.buffer = (s.lane l).pl.buffer)
      ∧ (∀ b q, s.headSlot l i pos = some b → b.stage = .ready → b.faulted = true → i.after pos = some q →
        s.GapPaused (s.presentPulse l) l c ∧ ((s.presentPulse l).lane l).pl.next = some q
          ∧ ((s.presentPulse l).lane l).pl.buffer = (s.lane l).pl.buffer.filter (fun x => x.num != b.num))
      ∧ (∀ b, s.headSlot l i pos = some b → b.stage = .ready → b.faulted = true → i.after pos = none →
        ∃ s1 : State, (s1.lane l).pl.state = .playing ∧ (s1.lane l).pl.stats = (s.lane l).pl.stats
          ∧ s.Consumed s1 l i b ∧ s1.shc = s.shc ∧ (s1.lane l).sne = (s.lane l).sne
          ∧ (((s1.itemEnd l i).lane l).pl.state ≠ .playing → s.presentPulse l = s1.itemEnd l i)
          ∧ (((s1.itemEnd l i).lane l).pl.state = .playing →
            ((s.presentPulse l).lane l).pl = { ((s1.itemEnd l i).lane l).pl with
                state := .paused, pause := some .gap, fault := some .gap }
              ∧ (s.presentPulse l).shc = (s1.itemEnd l i).shc
              ∧ (s.presentPulse l).stc = (s1.itemEnd l i).stc
              ∧ (s.presentPulse l).ntu.raised.getLsbD (laneSource l srcLaneFault) = true))))
  ∧ (∀ (s u : State) (l : LaneId) (i head : Item) (rest : List Item),
    (s.lane l).pl.queue = head :: rest → u = s.itemEnd l i →
    u.ntu.raised.getLsbD (laneSource l srcItemDone) = true
      ∧ (u.lane l).pl.stats.itemsDone = satInc top32 (s.lane l).pl.stats.itemsDone
      ∧ (i.licence = none → u.shc = s.shc)
      ∧ (∀ r others, i.licence.isSome = true → s.shc.reservations.get l = r :: others →
        u.shc.reservations.get l = others
          ∧ (r.stage = .promoted → u.shc.log = s.shc.log)
          ∧ (∀ seq x, (r.stage = .showing seq ∨ r.stage = .qualified seq) →
            s.shc.log.find? (fun y => y.seq == seq) = some x →
            u.shc.log.find? (fun y => y.seq == seq)
              = some { x with ended := s.clock.booth, cause := some .itemEnd,
                              outcome := if x.qualify.isSome then .complete else .short }))
      ∧ (rest = [] → (u.lane l).pl.state = .idle ∧ (u.lane l).pl.queue = [] ∧ (u.lane l).pl.rate = none)
      ∧ (∀ j more, rest = j :: more →
        (j.isIntermission = true → (u.lane l).pl.state = .paused
          ∧ (u.lane l).pl.pause = some .intermission ∧ (u.lane l).pl.queue = more)
        ∧ (∀ why, j.isIntermission = false → j.blocked = some why → (u.lane l).pl.state = .idle
          ∧ (u.lane l).pl.fault = some (.promotion why)
          ∧ (u.lane l).pl.queue = rest.map Item.unblocked
          ∧ u.ntu.raised.getLsbD (laneSource l srcLaneFault) = true)
        ∧ (j.isIntermission = false → j.blocked = none → (u.lane l).pl.state = (s.lane l).pl.state
          ∧ (u.lane l).pl.next = some (j.posAt 0) ∧ (u.lane l).pl.queue = rest)))

/-- A presented frame with its reel's bank LOADED and no rebuild pending: a cue whose time is over has left its
slot, a kept one stays and takes its opacity unless hidden, an entered one is of the bank, shown at its
opacity, and the cursor stops before the first entry still to come. The entries reached and not over take the
lowest free slots in bank order, those behind the last free slot are dropped and counted; a HIDE goes out for each
cue retired, a SHOW for each entered and an OPACITY for each kept cue whose value changed, a hidden one excepted,
in that order (R150 to R153). A reel's take-up puts it
in bank A if A is FREE and else in B: LOADED with no entries, MISSING with SUBS_MISSING and the count, or
LOADING with its cue reads to come (R147). A LOADING bank whose reads have all returned is built: LOADED with
cursor 0, its entries those of the valid records that have a frame, in bank order, every other record a bad cue
(R146, R149). PKA answers for a reel's subtitle track COMPLETE with its units when its one received range is all of
them, INCOMPLETE when it is present without, and ABSENT when there is no such track or no record (R45). A record is
valid just when each field lies within its values and its 1 to 4 lines, each a length of two bytes and its bytes, lie
within the block and total at most 400 bytes (R144). -/
def Obligations.CuesActivated : Prop :=
  (∀ (e : CueEngine) (b : BankId) (item reel f : Nat),
    e.bankOf item reel = some b → (e.bank b).state = .loaded → e.rebuild = false →
    (e.presented item reel f).1.current = some b
      ∧ (∀ k a, (e.presented item reel f).1.active.get k = some a → f < a.cue.outAt)
      ∧ (∀ k a, e.active.get k = some a → f < a.cue.outAt →
        ∃ v, (e.presented item reel f).1.active.get k = some { a with opacity := v }
          ∧ v = (if a.hidden then a.opacity else opacityAt a.cue f))
      ∧ (∀ k a, (∀ o, e.active.get k = some o → o.cue.outAt ≤ f) →
        (e.presented item reel f).1.active.get k = some a →
        a.cue ∈ (e.bank b).entries ∧ a.cue.inAt ≤ f ∧ a.hidden = false ∧ a.opacity = opacityAt a.cue f)
      ∧ (∀ c, (e.bank b).entries[((e.presented item reel f).1.bank b).cursor]? = some c → f < c.inAt)
      ∧ ((e.presented item reel f).1.bank b).entries = (e.bank b).entries)
  ∧ (∀ (e : CueEngine) (b : BankId) (item reel f : Nat) (reached due : List CueEntry)
      (kept : Fin 4 → Option ActiveCue) (free : List (Fin 4)),
    e.bankOf item reel = some b → (e.bank b).state = .loaded → e.rebuild = false →
    reached = ((e.bank b).entries.drop (e.bank b).cursor).takeWhile (fun c => decide (c.inAt ≤ f)) →
    due = reached.filter (fun c => decide (f < c.outAt)) →
    kept = (fun k => (e.active.get k).filter (fun a => decide (f < a.cue.outAt))) →
    free = fours.filter (fun k => (kept k).isNone) →
    ((e.presented item reel f).1.bank b).cursor = (e.bank b).cursor + reached.length
      ∧ (∀ k c, (k, c) ∈ free.zip due →
        (e.presented item reel f).1.active.get k = some ⟨c, opacityAt c f, false⟩)
      ∧ (due.length ≤ free.length → (e.presented item reel f).1.dropped = e.dropped)
      ∧ (free.length < due.length → e.dropped ≤ top32 →
        (e.presented item reel f).1.dropped = min top32 (e.dropped + (due.length - free.length)))
      ∧ (e.presented item reel f).2
        = fours.filterMap (fun k => (e.active.get k).bind (fun a =>
              if a.cue.outAt ≤ f ∧ a.hidden = false then some (.hide k.val) else none))
          ++ (free.zip due).map (fun p =>
              .showCue p.1.val p.2.region p.2.offset p.2.style (opacityAt p.2 f) p.2.lines)
          ++ fours.filterMap (fun k => (kept k).bind (fun a =>
              if a.hidden = false ∧ opacityAt a.cue f ≠ a.opacity then
                some (.opacity k.val (opacityAt a.cue f)) else none)))
  ∧ (∀ (s u : State) (l : LaneId) (pid item reel frames : Nat) (b : BankId),
    u = s.takeUpReel l pid item reel frames →
    b = (if (s.lane l).sce.bankA.state = .free then .bankA else .bankB) →
    ((u.lane l).sce.bank b).reel = some (item, reel) ∧ ((u.lane l).sce.bank b).entries = []
      ∧ ((u.lane l).sce.bank b).cursor = 0 ∧ ((u.lane l).sce.bank b).frames = frames
      ∧ ((u.lane l).sce.bank b).delta = (s.lane l).pl.set.subtitleOffset
      ∧ (∀ k, k ≠ b → (u.lane l).sce.bank k = (s.lane l).sce.bank k)
      ∧ (subtitleTrack s pid reel = .absent → ((u.lane l).sce.bank b).state = .loaded ∧ u.ntu = s.ntu
        ∧ (u.lane l).sce.missing = (s.lane l).sce.missing)
      ∧ (subtitleTrack s pid reel = .incomplete → ((u.lane l).sce.bank b).state = .missing
        ∧ (u.lane l).sce.missing = satInc top32 (s.lane l).sce.missing
        ∧ u.ntu.raised.getLsbD (laneSource l srcSubsMissing) = true)
      ∧ (∀ n, subtitleTrack s pid reel = .complete n → ((u.lane l).sce.bank b).state = .loading
        ∧ ((u.lane l).sce.bank b).awaiting = n ∧ (u.lane l).pl.fetch.work = .cues b 0 n ∧ u.ntu = s.ntu))
  ∧ (∀ (s : State) (pid reel : Nat),
    (subtitleTrack s pid reel = .absent ↔
      ∀ n e, s.stc.find pid = some (n, e) → e.record.track reel .subtitle = none)
    ∧ ∀ n e t, s.stc.find pid = some (n, e) → e.record.track reel .subtitle = some t →
      (t.received = [⟨0, t.units⟩] → subtitleTrack s pid reel = .complete t.units)
        ∧ (t.received ≠ [⟨0, t.units⟩] → subtitleTrack s pid reel = .incomplete))
  ∧ (∀ (block : List Byte) (c : CueRecord), parseCue block = some c ↔
    c.number = u16 block 0 ∧ c.inFrame = u32 block 2 ∧ c.outFrame = u32 block 6 ∧ c.fadeIn = u8 block 10
      ∧ c.fadeOut = u8 block 11 ∧ c.region = u8 block 12 ∧ c.offset = u8 block 13 ∧ c.style = u8 block 14
      ∧ c.lines.length = u8 block 15 ∧ 1 ≤ c.number ∧ c.inFrame ≤ 216000 ∧ c.outFrame ≤ 216000
      ∧ c.fadeIn ≤ 60 ∧ c.fadeOut ≤ 60 ∧ c.region ≤ 1 ∧ c.offset ≤ 100 ∧ c.style ≤ 15
      ∧ 1 ≤ c.lines.length ∧ c.lines.length ≤ 4 ∧ (c.lines.map List.length).sum ≤ 400
      ∧ ∃ rest, (block.take 4096).drop 16 = (c.lines.map (fun x => b16 x.length ++ x)).flatten ++ rest)
  ∧ (∀ (e u : CueEngine) (b : BankId), (e.bank b).state = .loading → (e.bank b).awaiting = 0 →
    u = e.build b →
    (u.bank b).state = .loaded ∧ (u.bank b).cursor = 0 ∧ (u.bank b).reel = (e.bank b).reel
      ∧ (∀ c, c ∈ (u.bank b).entries ↔ ∃ x k, x ∈ (e.bank b).records ∧ x.2 = some k
          ∧ cueEntry (e.bank b).delta (e.bank b).frames x.1 k = some c)
      ∧ (u.bank b).entries.Pairwise (fun x y => x.inAt < y.inAt ∨ x.inAt = y.inAt ∧ (x.number < y.number
          ∨ x.number = y.number ∧ x.index ≤ y.index))
      ∧ u.bad = min top32 (e.bad + ((e.bank b).records.length - (u.bank b).entries.length))
      ∧ (∀ k, k ≠ b → u.bank k = e.bank k) ∧ u.active = e.active)

/-! ### Sound and the clock -/

/-- SET_CHANNEL: the entry takes the four values, gain and trim clamped, or a shared tag is refused; a tick that
begins at the command's own instant has the new enable and tag, one that has begun before keeps its channels
and tags (R164). -/
def Obligations.ChannelSet : Prop :=
  ∀ (s v : State) (body : List Byte) (t : Instant) (l : LaneId), s.Commanded 0x60 body → body.length = 12 →
    u8 body 0 = l.val → v = s.takeAt t → (v.lane l).pl.state ≠ .resetting → u8 body 1 ≤ 15 →
    u8 body 2 ≤ 1 → u8 body 3 ≤ 15 →
    (u8 body 2 = 1 → tagTaken (v.lane l).sne.map (u8 body 1) (u8 body 3) = true →
      exec (.setChannel t) s = .next (v.answered (.refused .badValue)))
    ∧ ((u8 body 2 = 0 ∨ tagTaken (v.lane l).sne.map (u8 body 1) (u8 body 3) = false) →
      ∃ u, exec (.setChannel t) s = .next u ∧ LaneFrame v u l ∧ u.held = v.held
        ∧ (u.lane l).sne.map = modifyAt (fun _ =>
            ⟨u8 body 2 == 1, u8 body 3, min (u32 body 4) 131072,
              clampInt (-4096) 4095 (s32 body 8)⟩) (u8 body 1) (v.lane l).sne.map
        ∧ (v.clock.now = v.lastBase → (v.lane l).sne.built = [] →
          (u.lane l).sne.latched = Channel.latch (u.lane l).sne.map)
        ∧ (v.clock.now ≠ v.lastBase → (u.lane l).sne.latched = (v.lane l).sne.latched)
        ∧ (u.lane l).pl.set = (v.lane l).pl.set ∧ (u.lane l).sne.counts = (v.lane l).sne.counts)

/-- A RUNNING lane with no correction scheduled moves C by exactly the wall samples produced (R166). A wall sample
gives each channel of the tick the emitted sample of its content: RUNNING the content at C, the sample before for a
repeat and behind for a skip, by the ramp-up's factor, or the store by a resync's ramp-down; FALLING the store by its
ramp-down; else 0 (R133 to R136, R166, R171). The store is the 48 samples from C on (R169). The content is the 24-bit
sample of the item frame's slot, or silence where the item, the package's channels or a read slot without fault is
wanting (R130). SLIP_CORRECTION: a repeat leaves C at its wall sample and a skip moves it by 2, each counted, and the
correction leaves the schedule (R133, R166), when nothing overdue has stopped the sound before. RAMP_DOWN_END: the
store is emptied, and the sound is OFF with C unset, or HELD (R169). A presented frame of an item with sound makes the
sound RUNNING with no correction left of before: from OFF C is set to the target; else the error is kept, and the
frame seats at k = 0 or behind a SEEK, slips within the resync limit, and resyncs above it, with the count,
SOUND_RESYNC and its two ramps; it ramps up from OFF, FALLING or HELD, behind a RESUME and at a gap's end (R131 to
R134, R167, R168). A frame of an item without sound sets C to the target (R131). After either the PRESENTED slots of
another item and those whose sound C has passed are free (R92, R175). The model's choice (notes/assumptions): what a
BLACK frame leaves to the next real frame (48.md, 56.md), that a frame k > 0 of a new item is judged by the old item's
pointer (59.md) and the error kept at a seat in a new item taken from it (81.md), and which channels are stored (34.md).
Its reading: the slots of any other item are free (32.md), and a resync's store begins with the old C (74.md). -/
def Obligations.SamplesMoveSound : Prop :=
  (∀ (n : Lane) (w k : Nat) (c : Int), n.sne.state = .running → n.sne.pointer = some c →
    n.sne.corrections = [] →
    (n.samples w k).sne.pointer = some (c + k) ∧ (n.samples w k).sne.state = .running
      ∧ (n.samples w k).sne.counts = n.sne.counts ∧ (n.samples w k).pl = n.pl)
  ∧ (∀ (s v : State) (l : LaneId) (c : Int) (k : Correction), s.pin = false →
    (s.lane l).sne.state = .running → (s.lane l).sne.pointer = some c →
    (s.lane l).sne.corrections = [k] → s.clock.samples ≤ k.sample → s.clock.now ≤ k.sample * 3125 →
    k.sample * 3125 < s.horizon → v = s.caughtUp (k.sample * 3125 + 1) → (v.lane l).sne = (s.lane l).sne →
    ∃ u, exec (.slipCorrection l) s = .next u
      ∧ LaneFrame v u l ∧ u.held = v.held ∧ (u.lane l).sne.corrections = []
      ∧ (u.lane l).sne.pointer
        = some (c + (k.sample - s.clock.samples : Nat) + (if k.repeated then 0 else 2))
      ∧ (u.lane l).sne.counts = (s.lane l).sne.counts.corrected k.repeated
      ∧ u.clock.samples = k.sample + 1)
  ∧ (∀ (s v : State) (l : LaneId) (start : Nat), s.pin = false → (s.lane l).sne.state = .falling →
    (s.lane l).sne.ramp = .down start → s.clock.samples ≤ start + 47 →
    (start + 47) * 3125 < s.horizon → v = s.caughtUp ((start + 47) * 3125 + 1) →
    (v.lane l).sne = (s.lane l).sne →
    ∃ u, exec (.rampDownEnd l) s = .next u ∧ LaneFrame v u l ∧ u.held = v.held ∧ (u.lane l).sne.store = []
      ∧ ((s.lane l).sne.thenOff = true → (u.lane l).sne.state = .off ∧ (u.lane l).sne.pointer = none)
      ∧ ((s.lane l).sne.thenOff = false → (u.lane l).sne.state = .held
        ∧ (u.lane l).sne.pointer = (s.lane l).sne.pointer))
  ∧ (∀ (n m : Lane) (w : Nat) (c idx : Int) (k : Option Correction), m = n.sample w →
    n.sne.state = .running → n.sne.pointer = some c → k = n.sne.corrections.find? (fun k => k.sample == w) →
    idx = (match k with
      | none => c
      | some k => if k.repeated then c - 1 else c + 1) →
    ∃ v, m.sne.built = v :: n.sne.built ∧ m.sne.sounded = true
      ∧ m.sne.pointer = some (match k with
        | none => c + 1
        | some k => if k.repeated then c else c + 2)
      ∧ (n.sne.ramp = .none → n.sne.Carries v 48 (fun ch => n.content ch idx))
      ∧ (∀ start, n.sne.ramp = .up start → n.sne.Carries v (min 48 (w - start)) (fun ch => n.content ch idx))
      ∧ (∀ start, n.sne.ramp = .resync start →
        (w < start + 48 → n.sne.Carries v (47 - (w - start)) (fun ch => n.sne.storeAt (w - start) ch))
          ∧ (start + 48 ≤ w → n.sne.Carries v (min 48 (w - start - 48)) (fun ch => n.content ch idx))))
  ∧ (∀ (n m : Lane) (w : Nat), m = n.sample w →
    (∀ start, n.sne.state = .falling → n.sne.ramp = .down start → w ≤ start + 47 →
      ∃ v, m.sne.built = v :: n.sne.built ∧ m.sne.sounded = true
        ∧ n.sne.Carries v (47 - (w - start)) (fun ch => n.sne.storeAt (w - start) ch))
    ∧ (n.sne.state = .off ∨ n.sne.state = .held →
      ∃ v, m = { n with sne := { n.sne with built := v :: n.sne.built } } ∧ n.sne.Carries v 48 (fun _ => 0)))
  ∧ (∀ (n : Lane) (c : Int), n.sne.pointer = some c →
    (∀ (u : Sound) (i ch : Nat), u.store = n.readAhead → i < 48 → ch ∈ n.sne.stored →
      u.storeAt i ch = n.content ch (c + i))
    ∧ (∀ ch, ch ∈ n.sne.stored ↔ ch < 16
      ∧ ((∃ x, n.sne.map[ch]? = some x ∧ x.enabled = true) ∨ ∃ e ∈ n.sne.latched, e.1 = ch))
    ∧ (∀ w off, n.sne.state = .running → n.rampDown w off = { n with sne := { n.sne with
        state := .falling, corrections := [], ramp := .down w, store := n.readAhead, thenOff := off } }))
  ∧ (∀ (n : Lane) (ch : Nat) (c : Int),
    (n.sne.item = none ∨ n.pl.rate = none → n.content ch c = 0)
    ∧ ∀ it rate f, n.sne.item = some it → n.pl.rate = some rate → f = c.toNat / (48000 / rate) →
      (c < 0 ∨ it.channels ≤ ch ∨ ((it.total * (48000 / rate) : Nat) : Int) ≤ c → n.content ch c = 0)
      ∧ ((∀ b ∈ n.pl.buffer, b.item = it.item → b.pos.frame = f → b.stage = .reading ∨ b.faulted = true) →
        n.content ch c = 0)
      ∧ (n.pl.soundSlot it.item f = none →
        ∀ b ∈ n.pl.buffer, b.item = it.item → b.pos.frame = f → b.stage = .reading ∨ b.faulted = true)
      ∧ (0 ≤ c → ch < it.channels → c < ((it.total * (48000 / rate) : Nat) : Int) →
        ∀ b, n.pl.soundSlot it.item f = some b →
          b ∈ n.pl.buffer ∧ b.item = it.item ∧ b.pos.frame = f ∧ b.stage ≠ .reading ∧ b.faulted = false
            ∧ n.content ch c = s24 b.sound ((c.toNat % (48000 / rate) * it.channels + ch) * 3)))
  ∧ (∀ (bytes : List Byte) (i v : Nat) (a b c : Byte), bytes[i]? = some a → bytes[i + 1]? = some b →
    bytes[i + 2]? = some c → v = a.toNat * 65536 + b.toNat * 256 + c.toNat →
    (v < 8388608 → s24 bytes i = v) ∧ (8388608 ≤ v → s24 bytes i = (v : Int) - 16777216))
  ∧ (∀ (n m : Lane) (h : Handed) (w : Nat) (target : Int) (up : Bool), m = n.soundFrame h w →
    target = ((h.frame * h.samples : Nat) : Int) - n.pl.set.soundDelay →
    (up = true ↔ n.sne.state ≠ .running ∨ n.sne.resumed = true ∨ h.gapEnded = true) →
    m.pl = n.pl ∧ m.ftm = n.ftm ∧ m.sce = n.sce ∧ m.sne.state = .running ∧ m.sne.item = some h.item
      ∧ m.sne.frame = some h.frame ∧ m.sne.resumed = false ∧ m.sne.map = n.sne.map
      ∧ m.sne.latched = n.sne.latched ∧ m.sne.built = n.sne.built
      ∧ (up = true → m.sne.ramp = .up w ∧ m.sne.store = [])
      ∧ (n.sne.pointer = none → m.sne.pointer = some target ∧ m.sne.error = none ∧ m.sne.corrections = []
        ∧ m.sne.seatPending = false ∧ m.sne.counts = n.sne.counts)
      ∧ (∀ c e, n.sne.pointer = some c → e = c - target → m.sne.error = some e
        ∧ ((h.frame = 0 ∨ n.sne.seatPending = true) → m.sne.pointer = some target ∧ m.sne.last = .seat
          ∧ m.sne.corrections = [] ∧ m.sne.seatPending = false ∧ m.sne.counts = n.sne.counts)
        ∧ (h.frame ≠ 0 → n.sne.seatPending = false →
          (∀ slip, e.natAbs ≤ n.pl.set.resyncLimit →
            slip = clampInt (-(n.pl.set.maxSlip : Int)) n.pl.set.maxSlip e →
            m.sne.pointer = some c ∧ m.sne.last = .slip slip
              ∧ m.sne.corrections = slipSchedule w h.samples slip ∧ m.sne.counts = n.sne.counts)
          ∧ (n.pl.set.resyncLimit < e.natAbs → m.sne.pointer = some target ∧ m.sne.last = .resync
            ∧ m.sne.corrections = []
            ∧ m.sne.counts = { n.sne.counts with resyncs := satInc top32 n.sne.counts.resyncs }
            ∧ (up = false → m.sne.ramp = .resync w ∧ m.sne.store = n.readAhead)))))
  ∧ (∀ (n m : Lane) (h : Handed) (w : Nat) (real : Bool), m = n.silentFrame h w real →
    m.pl = n.pl ∧ m.ftm = n.ftm ∧ m.sce = n.sce ∧ m.sne.state = .running ∧ m.sne.corrections = []
      ∧ m.sne.pointer = some (((h.frame * h.samples : Nat) : Int) - n.pl.set.soundDelay)
      ∧ m.sne.item = some h.item ∧ m.sne.counts = n.sne.counts ∧ m.sne.map = n.sne.map
      ∧ (real = true → m.sne.frame = some h.frame ∧ m.sne.error = none)
      ∧ (real = false → m.sne.frame = n.sne.frame ∧ m.sne.error = n.sne.error ∧ m.sne.last = n.sne.last
        ∧ m.sne.seatPending = n.sne.seatPending ∧ m.sne.resumed = n.sne.resumed))
  ∧ (∀ (s u : State) (l : LaneId) (h : Handed) (real : Bool) (m : Lane), u = s.soundPresented l h real →
    m = (if real = true ∧ 0 < h.item.channels then (s.lane l).soundFrame h s.clock.samples
      else (s.lane l).silentFrame h s.clock.samples real) →
    (u.lane l).sne = m.sne ∧ (∀ k, k ≠ l → u.lane k = s.lane k) ∧ u.out = s.out
      ∧ (¬ (real = true ∧ 0 < h.item.channels ∧ m.sne.last = .resync) → u.ntu = s.ntu)
      ∧ (real = true → 0 < h.item.channels → m.sne.last = .resync →
        u.ntu.raised.getLsbD (laneSource l srcSoundResync) = true)
      ∧ (∀ rate c, (s.lane l).pl.rate = some rate → m.sne.pointer = some c →
        ∀ b, b ∈ (u.lane l).pl.buffer ↔ b ∈ (s.lane l).pl.buffer ∧ ¬ (b.stage = .presented
          ∧ (b.item ≠ h.item.item ∨ (((b.pos.frame + 1) * (48000 / rate) : Nat) : Int) ≤ c))))

/-- BASE_TICK: the tick count rises, the wall samples up to the tick are produced, and the sub-second count
rises while booth time is set, the thousandth standing to be taken by BOOTH_SECOND, which then returns it
to 0 and moves booth time on (R171, R196); a licence that expires by it raises LICENCE_EXPIRED, and nothing else
does (R52). That the tick's second is a separate step is the model's choice
(notes/assumptions/4.md), and so is how an event comes to its instant: with nothing left of the last base tick,
or at that tick's own instant, it moves the clock and produces the wall samples before it, nothing more
(notes/assumptions/1.md, 3.md). -/
def Obligations.ClockTicks : Prop :=
  (∀ s : State, s.pin = false → s.clock.secondDue = false →
    ∃ u, exec .baseTick s = .next u ∧ u.clock.ticks = s.clock.ticks + 1
      ∧ 48 * (s.clock.ticks + 1) ≤ u.clock.samples ∧ u.clock.booth = s.clock.booth
      ∧ (s.clock.booth = none → u.clock.sub = s.clock.sub)
      ∧ (s.clock.booth.isSome = true → s.clock.sub ≠ 999 → u.clock.sub = s.clock.sub + 1)
      ∧ (s.clock.booth.isSome = true → s.clock.sub = 999 → u.clock.secondDue = true))
  ∧ (∀ (s : State) (now : Nat), s.pin = false → s.clock.secondDue = true → s.clock.sub = 999 →
    s.clock.booth = some now →
    ∃ u, exec .boothSecond s = .next u ∧ u.clock.booth = some (satInc top32 now) ∧ u.clock.sub = 0
      ∧ u.clock.secondDue = false ∧ u.clock.ticks = s.clock.ticks ∧ u.lanes = s.lanes
      ∧ (s.shc.Expires (some now) (some (satInc top32 now)) →
        u.ntu.raised.getLsbD srcLicenceExpired = true)
      ∧ (¬ s.shc.Expires (some now) (some (satInc top32 now)) → u.ntu = s.ntu)
      ∧ u.stc = s.stc ∧ u.pka = s.pka ∧ u.shc = s.shc ∧ u.bcp = s.bcp ∧ u.link = s.link ∧ u.held = s.held)
  ∧ (∀ (s : State) (t : Instant),
    s.takenAt t ≤ s.lastBase ∨ s.clock.secondDue = false ∧ (∀ l, (s.lane l).lossDue = false)
      ∧ s.ticketDue = false →
    (s.takeAt t).clock = { s.clock with now := s.takenAt t,
                                        samples := max s.clock.samples (sampleFrom (s.takenAt t)) }
      ∧ (s.takeAt t).pka = s.pka ∧ (s.takeAt t).ntu = s.ntu ∧ (s.takeAt t).out = s.out
      ∧ ∀ l, ((s.takeAt t).lane l).pl = (s.lane l).pl ∧ ((s.takeAt t).lane l).ftm = (s.lane l).ftm
          ∧ ((s.takeAt t).lane l).sce = (s.lane l).sce ∧ ((s.takeAt t).lane l).sne.map = (s.lane l).sne.map)

/-- SOUND_READY: the head block is sent and counted, or with the queue empty the ready is kept pending and counted
starved (R174). BASE_TICK takes what fell due before it, produces the wall samples up to it and closes the tick of
each lane in ascending order (R171, R172). At a base tick a sounding lane whose screen is not in HOLD offers its
blocks, one for each channel of the tick in ascending order, each of the tick's 48 samples in wall-sample order: all
join the tail in channel order if there is room for all, the first of them answering a pending ready, and else none
does, the tick is dropped and counted, and SOUND_DROP is raised (R171 to R173). A tick without blocks is not offered
and counts nothing (R171). That BASE_TICK takes what fell due and stands untaken before it closes the tick, and in
which order at one instant, is the model's choice (notes/assumptions/3.md, 73.md); that a ready while one is pending
changes nothing is its reading (notes/assumptions/33.md). -/
def Obligations.ReadyAnswered : Prop :=
  (∀ s : State, s.pin = false →
    (∀ b rest, s.link.queue = b :: rest →
      exec .soundReady s = .next { s with
        link := { s.link with queue := rest, ready := false, sent := satInc top32 s.link.sent },
        out := s.out ++ [.soundBlock b] })
    ∧ (s.link.queue = [] → s.link.ready = false →
      exec .soundReady s = .next { s with
        link := { s.link with ready := true, starved := satInc top32 s.link.starved } })
    ∧ (s.link.queue = [] → s.link.ready = true → exec .soundReady s = .next s))
  ∧ (∀ s w closed : State, s.pin = false → w = s.takeOverdue.takeTimed 8 →
    closed = ((((w.produceTo (48 * (w.clock.ticks + 1))).closeTick 0).closeTick 1).closeTick 2).closeTick 3 →
    ∃ u more, exec .baseTick s = .next u ∧ u.link = closed.link ∧ u.out = closed.out ++ more
      ∧ (∀ b, Output.soundBlock b ∉ more) ∧ u.clock.ticks = w.clock.ticks + 1
      ∧ ∀ l, (u.lane l).sne = (closed.lane l).sne)
  ∧ (∀ (s u : State) (l : LaneId) (blocks : List SoundBlock), u = s.offerBlocks l blocks →
    (s.link.queue.length + blocks.length ≤ 1024 →
      (u.lane l).sne.counts = { (s.lane l).sne.counts with
          offered := satInc top32 (s.lane l).sne.counts.offered,
          admitted := satInc top32 (s.lane l).sne.counts.admitted,
          blocks := min top32 ((s.lane l).sne.counts.blocks + blocks.length) }
        ∧ (s.link.ready = false → u.link = { s.link with queue := s.link.queue ++ blocks } ∧ u.out = s.out)
        ∧ (∀ b rest, s.link.ready = true → s.link.queue ++ blocks = b :: rest →
          u.link = { s.link with queue := rest, ready := false, sent := satInc top32 s.link.sent }
            ∧ u.out = s.out ++ [.soundBlock b]))
    ∧ (1024 < s.link.queue.length + blocks.length →
      u.link = { s.link with dropped := satInc top32 s.link.dropped } ∧ u.out = s.out
        ∧ (u.lane l).sne.counts = { (s.lane l).sne.counts with
            offered := satInc top32 (s.lane l).sne.counts.offered,
            dropped := satInc top32 (s.lane l).sne.counts.dropped }
        ∧ u.ntu.raised.getLsbD srcSoundDrop = true))
  ∧ (∀ (s : State) (l : LaneId) (x : Sound), x = (s.lane l).sne →
    (x.sounded = true → s.laneHeld l = false → x.latched ≠ [] →
      (s.closeTick l).link = (s.offerBlocks l (x.blocks l)).link
        ∧ ((s.closeTick l).lane l).sne.counts = ((s.offerBlocks l (x.blocks l)).lane l).sne.counts)
    ∧ (x.sounded = false ∨ s.laneHeld l = true ∨ x.latched = [] →
      (s.closeTick l).link = s.link ∧ ((s.closeTick l).lane l).sne.counts = x.counts)
    ∧ (x.blocks l).map SoundBlock.tag = x.latched.map Prod.snd ∧ (∀ b ∈ x.blocks l, b.lane = l)
    ∧ (∀ (i j : Nat) (b : SoundBlock) (v : List Int) (y : Int), (x.blocks l)[i]? = some b →
      x.built.reverse[j]? = some v → v[i]? = some y → b.samples[j]? = some y)
    ∧ (s.TickBuilt → ∀ b ∈ ((s.produceTo (48 * (s.clock.ticks + 1))).lane l).sne.blocks l, b.samples.length = 48)
    ∧ ((s.closeTick l).lane l).sne.latched = Channel.latch x.map)
  ∧ (∀ map : List Channel, (Channel.latch map).Pairwise (fun a b => a.1 < b.1)
    ∧ ∀ e, e ∈ Channel.latch map ↔ ∃ c, map[e.1]? = some c ∧ c.enabled = true ∧ e.2 = c.tag)

/-! ### Notices and the part -/

/-- The commands of the notice unit (R182, R184 to R187): what each leaves in the raised and enabled sets, that a
NOTICE is due when with the master on the pending set gains a source, and the unit's state in the reply; a set
with a number above 43 is BAD_VALUE, INJECT_NOTICE in LIVE is REHEARSAL_ONLY; SET_MASTER on makes a NOTICE due
when anything is pending, and off cancels one. -/
def Obligations.NoticeCommands : Prop :=
  (∀ (s : State) (body : List Byte) (set : BitVec 44), body.length = 6 → sourceSet body < 2 ^ 44 →
    set = BitVec.ofNat 44 (sourceSet body) →
    (s.Commanded 0x70 body → ∃ n,
      exec .setEnables s = .next (({ s with ntu := n }).answered (.done (.notices n.report)))
        ∧ s.ntu.Became n s.ntu.raised (s.ntu.enabled ||| set))
    ∧ (s.Commanded 0x71 body → ∃ n,
      exec .clearEnables s = .next (({ s with ntu := n }).answered (.done (.notices n.report)))
        ∧ s.ntu.Became n s.ntu.raised (s.ntu.enabled &&& ~~~ set))
    ∧ (s.Commanded 0x73 body → ∃ n,
      exec .ackNotice s = .next (({ s with ntu := n }).answered (.done (.notices n.report)))
        ∧ s.ntu.Became n (s.ntu.raised &&& ~~~ set) s.ntu.enabled)
    ∧ (s.Commanded 0x74 body → s.shc.mode = .rehearsal → ∃ n,
      exec .injectNotice s = .next (({ s with ntu := n }).answered (.done (.notices n.report)))
        ∧ s.ntu.Became n (s.ntu.raised ||| set) s.ntu.enabled)
    ∧ (s.Commanded 0x74 body → s.shc.mode = .live →
      exec .injectNotice s = .next (s.answered (.refused .rehearsalOnly))))
  ∧ (∀ (s : State) (body : List Byte), body.length = 6 → 2 ^ 44 ≤ sourceSet body →
    (s.Commanded 0x70 body → exec .setEnables s = .next (s.answered (.refused .badValue)))
    ∧ (s.Commanded 0x71 body → exec .clearEnables s = .next (s.answered (.refused .badValue)))
    ∧ (s.Commanded 0x73 body → exec .ackNotice s = .next (s.answered (.refused .badValue)))
    ∧ (s.Commanded 0x74 body → exec .injectNotice s = .next (s.answered (.refused .badValue))))
  ∧ (∀ (s : State) (body : List Byte), s.Commanded 0x72 body → body.length = 1 →
    (u8 body 0 = 1 → ∃ n, exec .setMaster s = .next (({ s with ntu := n }).answered (.done (.notices n.report)))
      ∧ n.master = true ∧ n.raised = s.ntu.raised ∧ n.enabled = s.ntu.enabled
      ∧ n.number = s.ntu.number
      ∧ (n.outstanding = true ↔ s.ntu.outstanding = true ∨ s.ntu.raised &&& s.ntu.enabled ≠ 0#44))
    ∧ (u8 body 0 = 0 → ∃ n, exec .setMaster s = .next (({ s with ntu := n }).answered (.done (.notices n.report)))
      ∧ n.master = false ∧ n.outstanding = false ∧ n.raised = s.ntu.raised ∧ n.enabled = s.ntu.enabled
      ∧ n.number = s.ntu.number)
    ∧ (1 < u8 body 0 → exec .setMaster s = .next (s.answered (.refused .badValue))))

/-- QUERY_PART, in both part states, SET_TIME and SOFT_RESET (R197 to R199). A licence that expires by a SET_TIME
raises LICENCE_EXPIRED, and none otherwise (R52). -/
def Obligations.PartCommands : Prop :=
  (∀ (s : State) (tag : Byte), s.pin = false → s.bcp.next = some ⟨0x80, tag, [], none⟩ →
    exec .queryPart s = .next (s.answered (.done (.part (partReport s)))))
  ∧ (∀ (s : State) (body : List Byte), s.Commanded 0x81 body → body.length = 4 →
    ∃ u, exec .setTime s = .next u ∧ u.shc.licences = s.shc.licences ∧ u.held = s.held ∧ u.link = s.link
      ∧ u.clock.booth = some (u32 body 0) ∧ u.clock.sub = 0
      ∧ u.clock.ticks = s.clock.ticks
      ∧ u.bcp.cmds = answerFirst (.done (.time (u32 body 0) s.clock.booth)) s.bcp.cmds
      ∧ (s.shc.Expires s.clock.booth (some (u32 body 0)) →
        u.ntu.raised.getLsbD srcLicenceExpired = true)
      ∧ (¬ s.shc.Expires s.clock.booth (some (u32 body 0)) →
        u = ({ s with clock := { s.clock with booth := some (u32 body 0), sub := 0 } }).answered
          (.done (.time (u32 body 0) s.clock.booth))))
  ∧ (∀ s : State, s.Commanded 0x82 [] →
    exec .softReset s = .next (({ s with
      bcp := { s.bcp with part := .startingUp, cause := .soft } }).answered (.done .softReset)))

/-! ### Arithmetic -/

/-- A cue's times moved by the subtitle offset are clamped to its reel; one left without a frame has no entry, and
any other has its record's number, region, offset, style and lines (R140). A cue entry's duration is at least 1; fades
that together exceed it are scaled to it, others are kept as stored; after scaling they fit the duration; the manual's
example is one case (R141). -/
def Obligations.FadesScaled : Prop :=
  (∀ (delta : Int) (frames index : Nat) (c : CueRecord) (e : CueEntry) (d : Nat),
    cueEntry delta frames index c = some e → d = e.outAt - e.inAt →
    1 ≤ d
      ∧ (d < c.fadeIn + c.fadeOut → e.fadeIn = d * c.fadeIn / (c.fadeIn + c.fadeOut)
        ∧ e.fadeOut = d - e.fadeIn)
      ∧ (c.fadeIn + c.fadeOut ≤ d → e.fadeIn = c.fadeIn ∧ e.fadeOut = c.fadeOut)
      ∧ e.fadeIn + e.fadeOut ≤ d)
  ∧ (∀ (delta : Int) (frames index a b : Nat) (c : CueRecord),
    (a : Int) = max 0 (min (frames : Int) (c.inFrame + delta)) →
    (b : Int) = max 0 (min (frames : Int) (c.outFrame + delta)) →
    (b ≤ a → cueEntry delta frames index c = none)
      ∧ (a < b → ∃ e, cueEntry delta frames index c = some e ∧ e.inAt = a ∧ e.outAt = b ∧ e.number = c.number
        ∧ e.region = c.region ∧ e.offset = c.offset ∧ e.style = c.style ∧ e.lines = c.lines ∧ e.index = index))
  ∧ ∀ c : CueRecord, c.inFrame = 500 → c.outFrame = 510 → c.fadeIn = 8 → c.fadeOut = 6 →
      ∃ e, cueEntry 0 1000 0 c = some e ∧ e.fadeIn = 5 ∧ e.fadeOut = 5

/-- A shown cue's opacity by the first case that applies, at least 4 in a fade and never 0 or above 255; at a
rebuild after a SEEK a cue is shown at its fade-out value or at 255 (R142). -/
def Obligations.OpacityCases : Prop :=
  (∀ (c : CueEntry) (f : Nat), c.inAt ≤ f → f < c.outAt → c.fadeIn ≤ 60 → c.fadeOut ≤ 60 →
    (f < c.inAt + c.fadeIn → opacityAt c f = 255 * (f - c.inAt + 1) / (c.fadeIn + 1))
    ∧ (c.inAt + c.fadeIn ≤ f → c.outAt ≤ f + c.fadeOut →
      opacityAt c f = 255 * (c.outAt - f) / (c.fadeOut + 1))
    ∧ (c.inAt + c.fadeIn ≤ f → f + c.fadeOut < c.outAt → opacityAt c f = 255)
    ∧ (c.outAt ≤ f + c.fadeOut → rebuildOpacity c f = 255 * (c.outAt - f) / (c.fadeOut + 1))
    ∧ (f + c.fadeOut < c.outAt → rebuildOpacity c f = 255)
    ∧ 4 ≤ opacityAt c f ∧ opacityAt c f ≤ 255)
  ∧ ∀ (e : CueEngine) (b : BankId) (f : Nat) (k : Fin 4) (a : ActiveCue),
      e.active = ⟨none, none, none, none⟩ → (e.rebuildAt b f).1.active.get k = some a →
      a.opacity = rebuildOpacity a.cue f

/-- A slip schedules one correction for each sample of it, of its sign, one after another and all within the frame
interval, the jth at j times floor(spf / (|s| + 1)) behind the pulse (R133); the measured rate is L × 10^9 / N
millihertz rounded half up (R137), and its deviation in ppm is truncated toward zero (R138). A content value is scaled
by r / 48 truncated toward zero, then by the gain / 65,536 with a half rounded up, moved by the trim and clamped to 24
bits (R135, R136). -/
def Obligations.SlipsAndRates : Prop :=
  (∀ (start samples : Nat) (e : Int) (most : Nat), most ≤ 16 → 17 ≤ samples →
    (slipSchedule start samples (slipOf e most)).length = min e.natAbs most
      ∧ (slipSchedule start samples (slipOf e most)).Pairwise (fun a b => a.sample < b.sample)
      ∧ ∀ k ∈ slipSchedule start samples (slipOf e most),
          start < k.sample ∧ k.sample < start + samples ∧ (k.repeated = true ↔ 0 < e))
  ∧ (∀ (start samples : Nat) (e : Int) (most n j : Nat), n = min e.natAbs most → 1 ≤ j → j ≤ n →
    (slipSchedule start samples (slipOf e most))[j - 1]?
      = some ⟨start + j * (samples / (n + 1)), decide (0 < e)⟩)
  ∧ (∀ length ticks : Nat, 0 < ticks →
    2 * ticks * measuredRate length ticks ≤ 2 * length * 1000000000 + ticks
      ∧ 2 * length * 1000000000 + ticks < 2 * ticks * (measuredRate length ticks + 1))
  ∧ (∀ (measured rate : Nat) (x d : Int), 0 < rate → x = ((measured : Int) - 1000 * rate) * 1000 →
    d = deviation measured rate →
    (0 ≤ x → 0 ≤ d ∧ rate * d ≤ x ∧ x < rate * (d + 1))
      ∧ (x ≤ 0 → d ≤ 0 ∧ x ≤ rate * d ∧ rate * (d - 1) < x))
  ∧ (∀ (x trim : Int) (r gain : Nat), ∃ p q : Int,
    (0 ≤ x → 0 ≤ p ∧ 48 * p ≤ x * r ∧ x * r < 48 * (p + 1))
      ∧ (x ≤ 0 → p ≤ 0 ∧ x * r ≤ 48 * p ∧ 48 * (p - 1) < x * r)
      ∧ 65536 * q ≤ p * gain + 32768 ∧ p * gain + 32768 < 65536 * (q + 1)
      ∧ (q + trim < -8388608 → emitSample x r gain trim = -8388608)
      ∧ (8388607 < q + trim → emitSample x r gain trim = 8388607)
      ∧ (-8388608 ≤ q + trim → q + trim ≤ 8388607 → emitSample x r gain trim = q + trim))
end

