-- ==== Sys2Proof/Laws/State.lean ====
section
/-! SUPPORT. One lemma per field per update of State, and the value a lane has after an update of one, so that
no later proof unfolds a record update. -/

namespace Sys2Proof

/-! ### Quads -/

@[simp] theorem Quad.get_set_same {α : Type} (v : Quad α) (i : Fin 4) (a : α) : (v.set i a).get i = a := by
  match i with
  | 0 => rfl
  | 1 => rfl
  | 2 => rfl
  | 3 => rfl

theorem Quad.get_set_ne {α : Type} (v : Quad α) {i k : Fin 4} (a : α) (h : k ≠ i) :
    (v.set i a).get k = v.get k := by
  match i, k with
  | 0, 0 => exact absurd rfl h
  | 1, 1 => exact absurd rfl h
  | 2, 2 => exact absurd rfl h
  | 3, 3 => exact absurd rfl h
  | 0, 1 => rfl
  | 0, 2 => rfl
  | 0, 3 => rfl
  | 1, 0 => rfl
  | 1, 2 => rfl
  | 1, 3 => rfl
  | 2, 0 => rfl
  | 2, 1 => rfl
  | 2, 3 => rfl
  | 3, 0 => rfl
  | 3, 1 => rfl
  | 3, 2 => rfl

@[simp] theorem Quad.get_ofFn {α : Type} (f : Fin 4 → α) (i : Fin 4) : (Quad.ofFn f).get i = f i := by
  match i with
  | 0 => rfl
  | 1 => rfl
  | 2 => rfl
  | 3 => rfl

@[ext] theorem Quad.ext_get {α : Type} (v w : Quad α) (h : ∀ i, v.get i = w.get i) : v = w := by
  cases v
  cases w
  exact (Quad.mk.injEq ..).mpr ⟨h 0, h 1, h 2, h 3⟩

namespace Machine

/-! ### Fields of the state after an update -/

@[simp] theorem State.modLane_pin (s : State) (l : LaneId) (f : Lane → Lane) : (s.modLane l f).pin = s.pin := rfl
@[simp] theorem State.modLane_clock (s : State) (l : LaneId) (f : Lane → Lane) : (s.modLane l f).clock = s.clock := rfl
@[simp] theorem State.modLane_bcp (s : State) (l : LaneId) (f : Lane → Lane) : (s.modLane l f).bcp = s.bcp := rfl
@[simp] theorem State.modLane_stc (s : State) (l : LaneId) (f : Lane → Lane) : (s.modLane l f).stc = s.stc := rfl
@[simp] theorem State.modLane_pka (s : State) (l : LaneId) (f : Lane → Lane) : (s.modLane l f).pka = s.pka := rfl
@[simp] theorem State.modLane_shc (s : State) (l : LaneId) (f : Lane → Lane) : (s.modLane l f).shc = s.shc := rfl
@[simp] theorem State.modLane_held (s : State) (l : LaneId) (f : Lane → Lane) : (s.modLane l f).held = s.held := rfl
@[simp] theorem State.modLane_link (s : State) (l : LaneId) (f : Lane → Lane) : (s.modLane l f).link = s.link := rfl
@[simp] theorem State.modLane_ntu (s : State) (l : LaneId) (f : Lane → Lane) : (s.modLane l f).ntu = s.ntu := rfl
@[simp] theorem State.modLane_out (s : State) (l : LaneId) (f : Lane → Lane) : (s.modLane l f).out = s.out := rfl
@[simp] theorem State.modLane_pending (s : State) (l : LaneId) (f : Lane → Lane) : (s.modLane l f).pending = s.pending := rfl

@[simp] theorem State.modPl_pin (s : State) (l : LaneId) (f : Playout → Playout) : (s.modPl l f).pin = s.pin := rfl
@[simp] theorem State.modPl_clock (s : State) (l : LaneId) (f : Playout → Playout) : (s.modPl l f).clock = s.clock := rfl
@[simp] theorem State.modPl_bcp (s : State) (l : LaneId) (f : Playout → Playout) : (s.modPl l f).bcp = s.bcp := rfl
@[simp] theorem State.modPl_stc (s : State) (l : LaneId) (f : Playout → Playout) : (s.modPl l f).stc = s.stc := rfl
@[simp] theorem State.modPl_pka (s : State) (l : LaneId) (f : Playout → Playout) : (s.modPl l f).pka = s.pka := rfl
@[simp] theorem State.modPl_shc (s : State) (l : LaneId) (f : Playout → Playout) : (s.modPl l f).shc = s.shc := rfl
@[simp] theorem State.modPl_held (s : State) (l : LaneId) (f : Playout → Playout) : (s.modPl l f).held = s.held := rfl
@[simp] theorem State.modPl_link (s : State) (l : LaneId) (f : Playout → Playout) : (s.modPl l f).link = s.link := rfl
@[simp] theorem State.modPl_ntu (s : State) (l : LaneId) (f : Playout → Playout) : (s.modPl l f).ntu = s.ntu := rfl
@[simp] theorem State.modPl_out (s : State) (l : LaneId) (f : Playout → Playout) : (s.modPl l f).out = s.out := rfl
@[simp] theorem State.modPl_pending (s : State) (l : LaneId) (f : Playout → Playout) : (s.modPl l f).pending = s.pending := rfl

@[simp] theorem State.modFtm_pin (s : State) (l : LaneId) (f : Monitor → Monitor) : (s.modFtm l f).pin = s.pin := rfl
@[simp] theorem State.modFtm_clock (s : State) (l : LaneId) (f : Monitor → Monitor) : (s.modFtm l f).clock = s.clock := rfl
@[simp] theorem State.modFtm_bcp (s : State) (l : LaneId) (f : Monitor → Monitor) : (s.modFtm l f).bcp = s.bcp := rfl
@[simp] theorem State.modFtm_stc (s : State) (l : LaneId) (f : Monitor → Monitor) : (s.modFtm l f).stc = s.stc := rfl
@[simp] theorem State.modFtm_pka (s : State) (l : LaneId) (f : Monitor → Monitor) : (s.modFtm l f).pka = s.pka := rfl
@[simp] theorem State.modFtm_shc (s : State) (l : LaneId) (f : Monitor → Monitor) : (s.modFtm l f).shc = s.shc := rfl
@[simp] theorem State.modFtm_held (s : State) (l : LaneId) (f : Monitor → Monitor) : (s.modFtm l f).held = s.held := rfl
@[simp] theorem State.modFtm_link (s : State) (l : LaneId) (f : Monitor → Monitor) : (s.modFtm l f).link = s.link := rfl
@[simp] theorem State.modFtm_ntu (s : State) (l : LaneId) (f : Monitor → Monitor) : (s.modFtm l f).ntu = s.ntu := rfl
@[simp] theorem State.modFtm_out (s : State) (l : LaneId) (f : Monitor → Monitor) : (s.modFtm l f).out = s.out := rfl
@[simp] theorem State.modFtm_pending (s : State) (l : LaneId) (f : Monitor → Monitor) : (s.modFtm l f).pending = s.pending := rfl

@[simp] theorem State.modSce_pin (s : State) (l : LaneId) (f : CueEngine → CueEngine) : (s.modSce l f).pin = s.pin := rfl
@[simp] theorem State.modSce_clock (s : State) (l : LaneId) (f : CueEngine → CueEngine) : (s.modSce l f).clock = s.clock := rfl
@[simp] theorem State.modSce_bcp (s : State) (l : LaneId) (f : CueEngine → CueEngine) : (s.modSce l f).bcp = s.bcp := rfl
@[simp] theorem State.modSce_stc (s : State) (l : LaneId) (f : CueEngine → CueEngine) : (s.modSce l f).stc = s.stc := rfl
@[simp] theorem State.modSce_pka (s : State) (l : LaneId) (f : CueEngine → CueEngine) : (s.modSce l f).pka = s.pka := rfl
@[simp] theorem State.modSce_shc (s : State) (l : LaneId) (f : CueEngine → CueEngine) : (s.modSce l f).shc = s.shc := rfl
@[simp] theorem State.modSce_held (s : State) (l : LaneId) (f : CueEngine → CueEngine) : (s.modSce l f).held = s.held := rfl
@[simp] theorem State.modSce_link (s : State) (l : LaneId) (f : CueEngine → CueEngine) : (s.modSce l f).link = s.link := rfl
@[simp] theorem State.modSce_ntu (s : State) (l : LaneId) (f : CueEngine → CueEngine) : (s.modSce l f).ntu = s.ntu := rfl
@[simp] theorem State.modSce_out (s : State) (l : LaneId) (f : CueEngine → CueEngine) : (s.modSce l f).out = s.out := rfl
@[simp] theorem State.modSce_pending (s : State) (l : LaneId) (f : CueEngine → CueEngine) : (s.modSce l f).pending = s.pending := rfl

@[simp] theorem State.modSne_pin (s : State) (l : LaneId) (f : Sound → Sound) : (s.modSne l f).pin = s.pin := rfl
@[simp] theorem State.modSne_clock (s : State) (l : LaneId) (f : Sound → Sound) : (s.modSne l f).clock = s.clock := rfl
@[simp] theorem State.modSne_bcp (s : State) (l : LaneId) (f : Sound → Sound) : (s.modSne l f).bcp = s.bcp := rfl
@[simp] theorem State.modSne_stc (s : State) (l : LaneId) (f : Sound → Sound) : (s.modSne l f).stc = s.stc := rfl
@[simp] theorem State.modSne_pka (s : State) (l : LaneId) (f : Sound → Sound) : (s.modSne l f).pka = s.pka := rfl
@[simp] theorem State.modSne_shc (s : State) (l : LaneId) (f : Sound → Sound) : (s.modSne l f).shc = s.shc := rfl
@[simp] theorem State.modSne_held (s : State) (l : LaneId) (f : Sound → Sound) : (s.modSne l f).held = s.held := rfl
@[simp] theorem State.modSne_link (s : State) (l : LaneId) (f : Sound → Sound) : (s.modSne l f).link = s.link := rfl
@[simp] theorem State.modSne_ntu (s : State) (l : LaneId) (f : Sound → Sound) : (s.modSne l f).ntu = s.ntu := rfl
@[simp] theorem State.modSne_out (s : State) (l : LaneId) (f : Sound → Sound) : (s.modSne l f).out = s.out := rfl
@[simp] theorem State.modSne_pending (s : State) (l : LaneId) (f : Sound → Sound) : (s.modSne l f).pending = s.pending := rfl

@[simp] theorem State.modStc_pin (s : State) (f : Storage → Storage) : (s.modStc f).pin = s.pin := rfl
@[simp] theorem State.modStc_clock (s : State) (f : Storage → Storage) : (s.modStc f).clock = s.clock := rfl
@[simp] theorem State.modStc_bcp (s : State) (f : Storage → Storage) : (s.modStc f).bcp = s.bcp := rfl
@[simp] theorem State.modStc_stc (s : State) (f : Storage → Storage) :
    (s.modStc f).stc = f s.stc := rfl
@[simp] theorem State.modStc_pka (s : State) (f : Storage → Storage) : (s.modStc f).pka = s.pka := rfl
@[simp] theorem State.modStc_shc (s : State) (f : Storage → Storage) : (s.modStc f).shc = s.shc := rfl
@[simp] theorem State.modStc_lanes (s : State) (f : Storage → Storage) : (s.modStc f).lanes = s.lanes := rfl
@[simp] theorem State.modStc_held (s : State) (f : Storage → Storage) : (s.modStc f).held = s.held := rfl
@[simp] theorem State.modStc_link (s : State) (f : Storage → Storage) : (s.modStc f).link = s.link := rfl
@[simp] theorem State.modStc_ntu (s : State) (f : Storage → Storage) : (s.modStc f).ntu = s.ntu := rfl
@[simp] theorem State.modStc_out (s : State) (f : Storage → Storage) : (s.modStc f).out = s.out := rfl
@[simp] theorem State.modStc_pending (s : State) (f : Storage → Storage) : (s.modStc f).pending = s.pending := rfl

@[simp] theorem State.modPka_pin (s : State) (f : Assembler → Assembler) : (s.modPka f).pin = s.pin := rfl
@[simp] theorem State.modPka_clock (s : State) (f : Assembler → Assembler) : (s.modPka f).clock = s.clock := rfl
@[simp] theorem State.modPka_bcp (s : State) (f : Assembler → Assembler) : (s.modPka f).bcp = s.bcp := rfl
@[simp] theorem State.modPka_stc (s : State) (f : Assembler → Assembler) : (s.modPka f).stc = s.stc := rfl
@[simp] theorem State.modPka_pka (s : State) (f : Assembler → Assembler) :
    (s.modPka f).pka = f s.pka := rfl
@[simp] theorem State.modPka_shc (s : State) (f : Assembler → Assembler) : (s.modPka f).shc = s.shc := rfl
@[simp] theorem State.modPka_lanes (s : State) (f : Assembler → Assembler) : (s.modPka f).lanes = s.lanes := rfl
@[simp] theorem State.modPka_held (s : State) (f : Assembler → Assembler) : (s.modPka f).held = s.held := rfl
@[simp] theorem State.modPka_link (s : State) (f : Assembler → Assembler) : (s.modPka f).link = s.link := rfl
@[simp] theorem State.modPka_ntu (s : State) (f : Assembler → Assembler) : (s.modPka f).ntu = s.ntu := rfl
@[simp] theorem State.modPka_out (s : State) (f : Assembler → Assembler) : (s.modPka f).out = s.out := rfl
@[simp] theorem State.modPka_pending (s : State) (f : Assembler → Assembler) : (s.modPka f).pending = s.pending := rfl

@[simp] theorem State.modBcp_pin (s : State) (f : ControlPort → ControlPort) : (s.modBcp f).pin = s.pin := rfl
@[simp] theorem State.modBcp_clock (s : State) (f : ControlPort → ControlPort) : (s.modBcp f).clock = s.clock := rfl
@[simp] theorem State.modBcp_bcp (s : State) (f : ControlPort → ControlPort) :
    (s.modBcp f).bcp = f s.bcp := rfl
@[simp] theorem State.modBcp_stc (s : State) (f : ControlPort → ControlPort) : (s.modBcp f).stc = s.stc := rfl
@[simp] theorem State.modBcp_pka (s : State) (f : ControlPort → ControlPort) : (s.modBcp f).pka = s.pka := rfl
@[simp] theorem State.modBcp_shc (s : State) (f : ControlPort → ControlPort) : (s.modBcp f).shc = s.shc := rfl
@[simp] theorem State.modBcp_lanes (s : State) (f : ControlPort → ControlPort) : (s.modBcp f).lanes = s.lanes := rfl
@[simp] theorem State.modBcp_held (s : State) (f : ControlPort → ControlPort) : (s.modBcp f).held = s.held := rfl
@[simp] theorem State.modBcp_link (s : State) (f : ControlPort → ControlPort) : (s.modBcp f).link = s.link := rfl
@[simp] theorem State.modBcp_ntu (s : State) (f : ControlPort → ControlPort) : (s.modBcp f).ntu = s.ntu := rfl
@[simp] theorem State.modBcp_out (s : State) (f : ControlPort → ControlPort) : (s.modBcp f).out = s.out := rfl
@[simp] theorem State.modBcp_pending (s : State) (f : ControlPort → ControlPort) : (s.modBcp f).pending = s.pending := rfl

@[simp] theorem State.emit_pin (s : State) (o : Output) : (s.emit o).pin = s.pin := rfl
@[simp] theorem State.emit_clock (s : State) (o : Output) : (s.emit o).clock = s.clock := rfl
@[simp] theorem State.emit_bcp (s : State) (o : Output) : (s.emit o).bcp = s.bcp := rfl
@[simp] theorem State.emit_stc (s : State) (o : Output) : (s.emit o).stc = s.stc := rfl
@[simp] theorem State.emit_pka (s : State) (o : Output) : (s.emit o).pka = s.pka := rfl
@[simp] theorem State.emit_shc (s : State) (o : Output) : (s.emit o).shc = s.shc := rfl
@[simp] theorem State.emit_lanes (s : State) (o : Output) : (s.emit o).lanes = s.lanes := rfl
@[simp] theorem State.emit_held (s : State) (o : Output) : (s.emit o).held = s.held := rfl
@[simp] theorem State.emit_link (s : State) (o : Output) : (s.emit o).link = s.link := rfl
@[simp] theorem State.emit_ntu (s : State) (o : Output) : (s.emit o).ntu = s.ntu := rfl
@[simp] theorem State.emit_out (s : State) (o : Output) :
    (s.emit o).out = s.out ++ [o] := rfl
@[simp] theorem State.emit_pending (s : State) (o : Output) : (s.emit o).pending = s.pending := rfl

@[simp] theorem State.raise_pin (s : State) (n : Nat) : (s.raise n).pin = s.pin := rfl
@[simp] theorem State.raise_clock (s : State) (n : Nat) : (s.raise n).clock = s.clock := rfl
@[simp] theorem State.raise_bcp (s : State) (n : Nat) : (s.raise n).bcp = s.bcp := rfl
@[simp] theorem State.raise_stc (s : State) (n : Nat) : (s.raise n).stc = s.stc := rfl
@[simp] theorem State.raise_pka (s : State) (n : Nat) : (s.raise n).pka = s.pka := rfl
@[simp] theorem State.raise_shc (s : State) (n : Nat) : (s.raise n).shc = s.shc := rfl
@[simp] theorem State.raise_lanes (s : State) (n : Nat) : (s.raise n).lanes = s.lanes := rfl
@[simp] theorem State.raise_held (s : State) (n : Nat) : (s.raise n).held = s.held := rfl
@[simp] theorem State.raise_link (s : State) (n : Nat) : (s.raise n).link = s.link := rfl
@[simp] theorem State.raise_ntu (s : State) (n : Nat) :
    (s.raise n).ntu = s.ntu.raiseSet (sourceBit n) := rfl
@[simp] theorem State.raise_out (s : State) (n : Nat) : (s.raise n).out = s.out := rfl
@[simp] theorem State.raise_pending (s : State) (n : Nat) : (s.raise n).pending = s.pending := rfl

@[simp] theorem State.reply_pin (s : State) (r : Reply) : (s.reply r).pin = s.pin := rfl
@[simp] theorem State.reply_clock (s : State) (r : Reply) : (s.reply r).clock = s.clock := rfl
@[simp] theorem State.reply_bcp (s : State) (r : Reply) :
    (s.reply r).bcp = { s.bcp with cmds := answerFirst r s.bcp.cmds } := rfl
@[simp] theorem State.reply_stc (s : State) (r : Reply) : (s.reply r).stc = s.stc := rfl
@[simp] theorem State.reply_pka (s : State) (r : Reply) : (s.reply r).pka = s.pka := rfl
@[simp] theorem State.reply_shc (s : State) (r : Reply) : (s.reply r).shc = s.shc := rfl
@[simp] theorem State.reply_lanes (s : State) (r : Reply) : (s.reply r).lanes = s.lanes := rfl
@[simp] theorem State.reply_held (s : State) (r : Reply) : (s.reply r).held = s.held := rfl
@[simp] theorem State.reply_link (s : State) (r : Reply) : (s.reply r).link = s.link := rfl
@[simp] theorem State.reply_ntu (s : State) (r : Reply) : (s.reply r).ntu = s.ntu := rfl
@[simp] theorem State.reply_out (s : State) (r : Reply) : (s.reply r).out = s.out := rfl
@[simp] theorem State.reply_pending (s : State) (r : Reply) : (s.reply r).pending = s.pending := rfl

/-! ### Lanes after an update -/

@[simp] theorem State.lane_modLane_same (s : State) (l : LaneId) (f : Lane → Lane) :
    (s.modLane l f).lane l = f (s.lane l) := Quad.get_set_same _ _ _

theorem State.lane_modLane_ne (s : State) {l k : LaneId} (f : Lane → Lane) (h : k ≠ l) :
    (s.modLane l f).lane k = s.lane k := Quad.get_set_ne _ _ h

@[simp] theorem State.lane_modPl_same (s : State) (l : LaneId) (f : Playout → Playout) :
    (s.modPl l f).lane l = { s.lane l with pl := f (s.lane l).pl } := Quad.get_set_same _ _ _

theorem State.lane_modPl_ne (s : State) {l k : LaneId} (f : Playout → Playout) (h : k ≠ l) :
    (s.modPl l f).lane k = s.lane k := Quad.get_set_ne _ _ h

@[simp] theorem State.modPl_lane_ftm (s : State) (l k : LaneId) (f : Playout → Playout) :
    ((s.modPl l f).lane k).ftm = (s.lane k).ftm := by
  by_cases h : k = l
  · subst h
    rw [State.lane_modPl_same]
  · rw [State.lane_modPl_ne s f h]

@[simp] theorem State.modPl_lane_sce (s : State) (l k : LaneId) (f : Playout → Playout) :
    ((s.modPl l f).lane k).sce = (s.lane k).sce := by
  by_cases h : k = l
  · subst h
    rw [State.lane_modPl_same]
  · rw [State.lane_modPl_ne s f h]

@[simp] theorem State.modPl_lane_sne (s : State) (l k : LaneId) (f : Playout → Playout) :
    ((s.modPl l f).lane k).sne = (s.lane k).sne := by
  by_cases h : k = l
  · subst h
    rw [State.lane_modPl_same]
  · rw [State.lane_modPl_ne s f h]

@[simp] theorem State.lane_modFtm_same (s : State) (l : LaneId) (f : Monitor → Monitor) :
    (s.modFtm l f).lane l = { s.lane l with ftm := f (s.lane l).ftm } := Quad.get_set_same _ _ _

theorem State.lane_modFtm_ne (s : State) {l k : LaneId} (f : Monitor → Monitor) (h : k ≠ l) :
    (s.modFtm l f).lane k = s.lane k := Quad.get_set_ne _ _ h

@[simp] theorem State.modFtm_lane_pl (s : State) (l k : LaneId) (f : Monitor → Monitor) :
    ((s.modFtm l f).lane k).pl = (s.lane k).pl := by
  by_cases h : k = l
  · subst h
    rw [State.lane_modFtm_same]
  · rw [State.lane_modFtm_ne s f h]

@[simp] theorem State.modFtm_lane_sce (s : State) (l k : LaneId) (f : Monitor → Monitor) :
    ((s.modFtm l f).lane k).sce = (s.lane k).sce := by
  by_cases h : k = l
  · subst h
    rw [State.lane_modFtm_same]
  · rw [State.lane_modFtm_ne s f h]

@[simp] theorem State.modFtm_lane_sne (s : State) (l k : LaneId) (f : Monitor → Monitor) :
    ((s.modFtm l f).lane k).sne = (s.lane k).sne := by
  by_cases h : k = l
  · subst h
    rw [State.lane_modFtm_same]
  · rw [State.lane_modFtm_ne s f h]

@[simp] theorem State.lane_modSce_same (s : State) (l : LaneId) (f : CueEngine → CueEngine) :
    (s.modSce l f).lane l = { s.lane l with sce := f (s.lane l).sce } := Quad.get_set_same _ _ _

theorem State.lane_modSce_ne (s : State) {l k : LaneId} (f : CueEngine → CueEngine) (h : k ≠ l) :
    (s.modSce l f).lane k = s.lane k := Quad.get_set_ne _ _ h

@[simp] theorem State.modSce_lane_pl (s : State) (l k : LaneId) (f : CueEngine → CueEngine) :
    ((s.modSce l f).lane k).pl = (s.lane k).pl := by
  by_cases h : k = l
  · subst h
    rw [State.lane_modSce_same]
  · rw [State.lane_modSce_ne s f h]

@[simp] theorem State.modSce_lane_ftm (s : State) (l k : LaneId) (f : CueEngine → CueEngine) :
    ((s.modSce l f).lane k).ftm = (s.lane k).ftm := by
  by_cases h : k = l
  · subst h
    rw [State.lane_modSce_same]
  · rw [State.lane_modSce_ne s f h]

@[simp] theorem State.modSce_lane_sne (s : State) (l k : LaneId) (f : CueEngine → CueEngine) :
    ((s.modSce l f).lane k).sne = (s.lane k).sne := by
  by_cases h : k = l
  · subst h
    rw [State.lane_modSce_same]
  · rw [State.lane_modSce_ne s f h]

@[simp] theorem State.lane_modSne_same (s : State) (l : LaneId) (f : Sound → Sound) :
    (s.modSne l f).lane l = { s.lane l with sne := f (s.lane l).sne } := Quad.get_set_same _ _ _

theorem State.lane_modSne_ne (s : State) {l k : LaneId} (f : Sound → Sound) (h : k ≠ l) :
    (s.modSne l f).lane k = s.lane k := Quad.get_set_ne _ _ h

@[simp] theorem State.modSne_lane_pl (s : State) (l k : LaneId) (f : Sound → Sound) :
    ((s.modSne l f).lane k).pl = (s.lane k).pl := by
  by_cases h : k = l
  · subst h
    rw [State.lane_modSne_same]
  · rw [State.lane_modSne_ne s f h]

@[simp] theorem State.modSne_lane_ftm (s : State) (l k : LaneId) (f : Sound → Sound) :
    ((s.modSne l f).lane k).ftm = (s.lane k).ftm := by
  by_cases h : k = l
  · subst h
    rw [State.lane_modSne_same]
  · rw [State.lane_modSne_ne s f h]

@[simp] theorem State.modSne_lane_sce (s : State) (l k : LaneId) (f : Sound → Sound) :
    ((s.modSne l f).lane k).sce = (s.lane k).sce := by
  by_cases h : k = l
  · subst h
    rw [State.lane_modSne_same]
  · rw [State.lane_modSne_ne s f h]

@[simp] theorem State.lane_modStc (s : State) (f : Storage → Storage) (k : LaneId) : (s.modStc f).lane k = s.lane k := rfl
@[simp] theorem State.lane_modPka (s : State) (f : Assembler → Assembler) (k : LaneId) : (s.modPka f).lane k = s.lane k := rfl
@[simp] theorem State.lane_modBcp (s : State) (f : ControlPort → ControlPort) (k : LaneId) : (s.modBcp f).lane k = s.lane k := rfl
@[simp] theorem State.lane_emit (s : State) (o : Output) (k : LaneId) : (s.emit o).lane k = s.lane k := rfl
@[simp] theorem State.lane_raise (s : State) (n : Nat) (k : LaneId) : (s.raise n).lane k = s.lane k := rfl
@[simp] theorem State.lane_reply (s : State) (r : Reply) (k : LaneId) : (s.reply r).lane k = s.lane k := rfl

end Machine

end Sys2Proof
end

