-- ==== Sys2Proof/Laws/Ops.lean ====
section
/-! SUPPORT. What each shared operation can do, said once: the guards of events, the execution of host commands,
the passing of time, the screen links, the lists and the counts. -/

namespace Sys2Proof.Machine

open Sys2Proof

/-! ### Guards -/

theorem live_next {s t : State} {k : Step} (h : live s k = .next t) : s.pin = false ∧ k = .next t := by
  unfold live at h
  split at h
  · cases h
  · exact ⟨Bool.eq_false_iff.mpr ‹_›, h⟩

theorem live_eq {s : State} (k : Step) (h : s.pin = false) : live s k = k := by simp [live, h]

theorem arriving_next {s t : State} {k : Step} (h : arriving s k = .next t) :
    (s.pin = true ∧ t = s) ∨ (s.pin = false ∧ k = .next t) := by
  unfold arriving at h
  split at h
  · cases h
    exact .inl ⟨‹_›, rfl⟩
  · exact .inr ⟨Bool.eq_false_iff.mpr ‹_›, h⟩

theorem arriving_eq {s : State} (k : Step) (h : s.pin = false) : arriving s k = k := by simp [arriving, h]

/-! ### Host commands -/

/-- A command of the oldest outstanding kind at a READY part is what its owner answers, settled. -/
theorem runCommand_eq {s : State} {kind : Nat} {body : List Byte} (owner : List Byte → State → Answer)
    (h : s.Commanded kind body) : runCommand kind s owner = .next (owner body s).state.settle := by
  obtain ⟨hp, hr, tag, hn⟩ := h
  simp [runCommand, live, hp, hn, portChecks, hr]

theorem runCommandAt_eq {s : State} {kind : Nat} {body : List Byte} (t : Instant)
    (owner : List Byte → State → Answer) (h : s.Commanded kind body) :
    runCommandAt kind t s owner = .next (owner body (s.takeAt t)).state.settle :=
  runCommand_eq (fun b s => owner b (s.takeAt t)) h

/-- All that a host command can do when it answers a next state. -/
theorem runCommand_next {s t : State} {kind : Nat} {owner : List Byte → State → Answer}
    (h : runCommand kind s owner = .next t) :
    s.pin = false ∧ ∃ c, s.bcp.next = some c ∧ c.kind = kind
      ∧ ((s.bcp.part = .startingUp ∧ kind ≠ 0x80 ∧ t = (s.reply (.refused .busy)).settle)
        ∨ (¬ (s.bcp.part = .startingUp ∧ kind ≠ 0x80) ∧ t = (owner c.body s).state.settle)) := by
  obtain ⟨hp, h⟩ := live_next h
  refine ⟨hp, ?_⟩
  split at h
  · cases h
  · rename_i c hc
    split at h
    · cases h
    · rename_i hk
      simp only [Host.Outcome.next.injEq] at h
      refine ⟨c, hc, by simpa using hk, ?_⟩
      unfold portChecks at h
      split at h
      · rename_i hb
        exact .inl ⟨hb.1, hb.2, h.symm⟩
      · rename_i hb
        exact .inr ⟨hb, h.symm⟩

@[simp] theorem Answer.state_done (r : Result) (s : State) : (Answer.done r s).state = s.reply (.done r) := rfl

@[simp] theorem Answer.state_refused (why : Reason) (s : State) :
    (Answer.refused why s).state = s.reply (.refused why) := rfl

theorem fixedLength_eq {n : Nat} {body : List Byte} (s : State) (k : Answer) (h : body.length = n) :
    fixedLength n body s k = k := by simp [fixedLength, h]

theorem identity_eq {id : Nat} (s : State) (k : Answer) (h : id ≠ 0) : identity id s k = k := by
  simp [identity, h]

theorem identity_zero (s : State) (k : Answer) : identity 0 s k = .refused .badValue s := rfl

/-- A lane command of the right length on a lane that is not RESETTING is its owner's answer. -/
theorem laneCommand_eq {n : Nat} {body : List Byte} {s : State} {l : LaneId} (k : LaneId → Answer)
    (hn : body.length = n) (hl : u8 body 0 = l.val) (hs : (s.lane l).pl.state ≠ .resetting) :
    laneCommand n body s k = k l := by
  have h4 : u8 body 0 < 4 := hl ▸ l.isLt
  have he : (⟨u8 body 0, h4⟩ : LaneId) = l := Fin.ext hl
  simp [laneCommand, fixedLength, hn, onLane, h4, he, hs]

theorem answerFirst_length (r : Reply) (l : List Outstanding) : (answerFirst r l).length = l.length := by
  induction l with
  | nil => rfl
  | cons c rest ih =>
    unfold answerFirst
    split
    · rfl
    · simp [ih]

/-! ### Returns and timed events -/

theorem withOperation_next {s t : State} {index : Nat} {k : Operation → State → Option State}
    (h : withOperation s index k = .next t) :
    (s.pin = true ∧ t = s) ∨ (s.pin = false ∧ ∃ o u, s.stc.flight[index]? = some o
      ∧ k o (s.modStc (fun c => c.returned index o)) = some u ∧ t = u.settle) := by
  rcases arriving_next h with hp | ⟨hp, h⟩
  · exact .inl hp
  · refine .inr ⟨hp, ?_⟩
    split at h
    · cases h
    · rename_i o ho
      split at h
      · cases h
      · rename_i u hu
        simp only [Host.Outcome.next.injEq] at h
        exact ⟨o, u, ho, hu, h.symm⟩

theorem atInstant_next {s t : State} {l : LaneId} {due : Monitor → Option Instant} {k : State → State}
    (h : atInstant s l due k = .next t) :
    s.pin = false ∧ ∃ i, due (s.lane l).ftm = some i ∧ i ≤ s.horizon
      ∧ due ((s.caughtUp i).lane l).ftm = some i
      ∧ t = (k ((s.caughtUp i).clockTo (max (s.caughtUp i).clock.now i))).settle := by
  obtain ⟨hp, h⟩ := live_next h
  refine ⟨hp, ?_⟩
  split at h
  · cases h
  · rename_i i hi
    dsimp only at h
    split at h
    · rename_i hd
      simp only [Host.Outcome.next.injEq] at h
      exact ⟨i, hi, hd.1, hd.2, h.symm⟩
    · cases h

theorem atSample_next {s t : State} {l : LaneId} {due : Sound → Option Nat} (h : atSample s l due = .next t) :
    s.pin = false ∧ ∃ w, due (s.lane l).sne = some w ∧ w * sampleUnits < s.horizon
      ∧ due ((s.caughtUp (w * sampleUnits + 1)).lane l).sne = some w
      ∧ t = ((s.caughtUp (w * sampleUnits + 1)).clockTo
          (max (s.caughtUp (w * sampleUnits + 1)).clock.now (w * sampleUnits + 1))).settle := by
  obtain ⟨hp, h⟩ := live_next h
  refine ⟨hp, ?_⟩
  split at h
  · cases h
  · rename_i w hw
    dsimp only at h
    split at h
    · rename_i hd
      simp only [Host.Outcome.next.injEq] at h
      exact ⟨w, hw, hd.1, hd.2, h.symm⟩
    · cases h

/-! ### The passing of time: only sound moves -/

theorem Lane.sample_pl (n : Lane) (w : Nat) : (n.sample w).pl = n.pl := by
  unfold Lane.sample
  split <;> try rfl
  simp only [Lane.runningSample]
  split <;> rfl

theorem Lane.sample_ftm (n : Lane) (w : Nat) : (n.sample w).ftm = n.ftm := by
  unfold Lane.sample
  split <;> try rfl
  simp only [Lane.runningSample]
  split <;> rfl

theorem Lane.sample_sce (n : Lane) (w : Nat) : (n.sample w).sce = n.sce := by
  unfold Lane.sample
  split <;> try rfl
  simp only [Lane.runningSample]
  split <;> rfl

theorem Sound.fallen_map (u : Sound) : u.fallen.map = u.map := by
  unfold Sound.fallen
  split <;> rfl

theorem Lane.sample_map (n : Lane) (w : Nat) : (n.sample w).sne.map = n.sne.map := by
  unfold Lane.sample
  split <;> try rfl
  · simp only [Lane.runningSample]
    split <;> rfl
  · simp only [Sound.fallingSample]
    split
    · rfl
    · exact Sound.fallen_map _

@[simp] theorem Lane.samples_pl (n : Lane) (w k : Nat) : (n.samples w k).pl = n.pl := by
  induction k generalizing n w with
  | zero => rfl
  | succ k ih => exact (ih _ _).trans (Lane.sample_pl n w)

@[simp] theorem Lane.samples_ftm (n : Lane) (w k : Nat) : (n.samples w k).ftm = n.ftm := by
  induction k generalizing n w with
  | zero => rfl
  | succ k ih => exact (ih _ _).trans (Lane.sample_ftm n w)

@[simp] theorem Lane.samples_sce (n : Lane) (w k : Nat) : (n.samples w k).sce = n.sce := by
  induction k generalizing n w with
  | zero => rfl
  | succ k ih => exact (ih _ _).trans (Lane.sample_sce n w)

@[simp] theorem Lane.samples_map (n : Lane) (w k : Nat) : (n.samples w k).sne.map = n.sne.map := by
  induction k generalizing n w with
  | zero => rfl
  | succ k ih => exact (ih _ _).trans (Lane.sample_map n w)

theorem State.lane_clockTo (s : State) (t : Instant) (l : LaneId) :
    (s.clockTo t).lane l = (s.lane l).samples s.clock.samples (sampleFrom t - s.clock.samples) :=
  Quad.get_ofFn _ _

@[simp] theorem State.clockTo_lane_pl (s : State) (t : Instant) (l : LaneId) :
    ((s.clockTo t).lane l).pl = (s.lane l).pl := by rw [State.lane_clockTo, Lane.samples_pl]

@[simp] theorem State.clockTo_lane_ftm (s : State) (t : Instant) (l : LaneId) :
    ((s.clockTo t).lane l).ftm = (s.lane l).ftm := by rw [State.lane_clockTo, Lane.samples_ftm]

@[simp] theorem State.clockTo_lane_sce (s : State) (t : Instant) (l : LaneId) :
    ((s.clockTo t).lane l).sce = (s.lane l).sce := by rw [State.lane_clockTo, Lane.samples_sce]

@[simp] theorem State.clockTo_lane_map (s : State) (t : Instant) (l : LaneId) :
    ((s.clockTo t).lane l).sne.map = (s.lane l).sne.map := by rw [State.lane_clockTo, Lane.samples_map]

@[simp] theorem State.clockTo_pin (s : State) (t : Instant) : (s.clockTo t).pin = s.pin := rfl
@[simp] theorem State.clockTo_bcp (s : State) (t : Instant) : (s.clockTo t).bcp = s.bcp := rfl
@[simp] theorem State.clockTo_stc (s : State) (t : Instant) : (s.clockTo t).stc = s.stc := rfl
@[simp] theorem State.clockTo_pka (s : State) (t : Instant) : (s.clockTo t).pka = s.pka := rfl
@[simp] theorem State.clockTo_shc (s : State) (t : Instant) : (s.clockTo t).shc = s.shc := rfl
@[simp] theorem State.clockTo_held (s : State) (t : Instant) : (s.clockTo t).held = s.held := rfl
@[simp] theorem State.clockTo_link (s : State) (t : Instant) : (s.clockTo t).link = s.link := rfl
@[simp] theorem State.clockTo_ntu (s : State) (t : Instant) : (s.clockTo t).ntu = s.ntu := rfl
@[simp] theorem State.clockTo_out (s : State) (t : Instant) : (s.clockTo t).out = s.out := rfl
@[simp] theorem State.clockTo_pending (s : State) (t : Instant) : (s.clockTo t).pending = s.pending := rfl
@[simp] theorem State.clockTo_booth (s : State) (t : Instant) : (s.clockTo t).clock.booth = s.clock.booth := rfl
@[simp] theorem State.clockTo_ticks (s : State) (t : Instant) : (s.clockTo t).clock.ticks = s.clock.ticks := rfl
@[simp] theorem State.clockTo_now (s : State) (t : Instant) : (s.clockTo t).clock.now = t := rfl

/-- With nothing left of the last base tick, nothing is taken. -/
theorem State.takeOverdue_eq {s : State} (h2 : s.clock.secondDue = false) (hl : ∀ l, (s.lane l).lossDue = false)
    (ht : s.ticketDue = false) : s.takeOverdue = s := by
  simp [State.takeOverdue, h2, hl, ht, fours]

/-- At the tick's own instant, or with nothing left of it, only the clock moves. -/
theorem State.caughtUp_eq {s : State} {t : Instant} (h : t ≤ s.lastBase ∨ s.clock.secondDue = false
    ∧ (∀ l, (s.lane l).lossDue = false) ∧ s.ticketDue = false) : s.caughtUp t = s := by
  unfold State.caughtUp
  split
  · rcases h with h | ⟨h2, hl, ht⟩
    · exact absurd h (by unfold Instant at *; omega)
    · exact State.takeOverdue_eq h2 hl ht
  · rfl

@[simp] theorem State.takeAt_now (s : State) (t : Instant) : (s.takeAt t).clock.now = s.takenAt t := rfl

/-! ### Screens and gates -/

/-- A screen command leaves the state as it is but for one output at most. -/
theorem State.toScreen_cases (s : State) (l : LaneId) (c : ScreenCommand) :
    s.toScreen l c = s ∨ ∃ x, (s.lane l).pl.screen = some x ∧ s.screenHeld x = false
      ∧ s.toScreen l c = s.emit (.screen x c) := by
  unfold State.toScreen
  split
  · exact .inl rfl
  · rename_i x hx
    split
    · exact .inl rfl
    · exact .inr ⟨x, hx, Bool.eq_false_iff.mpr ‹_›, rfl⟩

/-- A screen command changes the outputs alone. -/
theorem State.toScreen_out (s : State) (l : LaneId) (c : ScreenCommand) :
    ∃ more, s.toScreen l c = { s with out := s.out ++ more } := by
  rcases s.toScreen_cases l c with h | ⟨x, _, _, h⟩
  · exact ⟨[], by simp [h]⟩
  · exact ⟨_, h⟩

theorem State.toScreenAll_out (s : State) (l : LaneId) (cs : List ScreenCommand) :
    ∃ more, s.toScreenAll l cs = { s with out := s.out ++ more } := by
  induction cs generalizing s with
  | nil => exact ⟨[], by simp [State.toScreenAll]⟩
  | cons c rest ih =>
    obtain ⟨a, ha⟩ := s.toScreen_out l c
    obtain ⟨b, hb⟩ := ih (s.toScreen l c)
    exact ⟨a ++ b, by simpa [State.toScreenAll, ha] using hb⟩

/-- The entry to HOLD sets the flag, and sends one CLEAR unless the screen is in HOLD already. -/
theorem State.enterHold_eq (s : State) (c : ScreenId) :
    s.enterHold c = { s with held := s.held.set c true,
                             out := if s.screenHeld c then s.out else s.out ++ [.screen c .clear] } := by
  unfold State.enterHold
  split <;> simp_all [State.emit]

/-! ### What was overdue -/

/-- Everything but the clock, the assembler, the lanes, the notice unit and the outputs is the same. -/
def State.SameStores (s u : State) : Prop :=
  u.pin = s.pin ∧ u.bcp = s.bcp ∧ u.stc = s.stc ∧ u.shc = s.shc ∧ u.held = s.held ∧ u.link = s.link
    ∧ u.pending = s.pending

theorem State.SameStores.refl (s : State) : s.SameStores s := ⟨rfl, rfl, rfl, rfl, rfl, rfl, rfl⟩

theorem State.SameStores.trans {s u v : State} (h : s.SameStores u) (k : u.SameStores v) : s.SameStores v := by
  obtain ⟨h1, h2, h3, h4, h5, h6, h7⟩ := h
  obtain ⟨k1, k2, k3, k4, k5, k6, k7⟩ := k
  exact ⟨k1.trans h1, k2.trans h2, k3.trans h3, k4.trans h4, k5.trans h5, k6.trans h6, k7.trans h7⟩

theorem State.SameStores.ite {s u v : State} {c : Prop} [Decidable c] (h : s.SameStores u)
    (k : s.SameStores v) : s.SameStores (if c then u else v) := by
  split <;> assumption

theorem State.abortGate_same (s : State) (l : LaneId) (r : GateResult) : s.SameStores (s.abortGate l r) :=
  .ite (.ite ⟨rfl, rfl, rfl, rfl, rfl, rfl, rfl⟩ ⟨rfl, rfl, rfl, rfl, rfl, rfl, rfl⟩) (.refl s)

theorem State.endWatch_same (s : State) (l : LaneId) (r : GateResult) : s.SameStores (s.endWatch l r) :=
  .trans (u := if (s.lane l).ftm.watch ∧ (s.lane l).ftm.gate.owner = .watch then s.abortGate l r else s)
    (.ite (s.abortGate_same l r) (.refl s)) ⟨rfl, rfl, rfl, rfl, rfl, rfl, rfl⟩

theorem State.cueStep_same (s : State) (l : LaneId) (f : CueEngine → CueOut) : s.SameStores (s.cueStep l f) := by
  unfold State.cueStep
  obtain ⟨more, h⟩ := (s.modSce l (fun _ => (f (s.lane l).sce).1)).toScreenAll_out l (f (s.lane l).sce).2
  rw [h]
  exact ⟨rfl, rfl, rfl, rfl, rfl, rfl, rfl⟩

theorem State.enterPaused_same (s : State) (l : LaneId) (cause : PauseCause) :
    s.SameStores (s.enterPaused l cause) := by
  unfold State.enterPaused
  refine .trans ?_ (State.cueStep_same _ _ _)
  refine .trans (.trans (u := s.modPl l (fun p => { p with state := .paused, pause := some cause }))
    ⟨rfl, rfl, rfl, rfl, rfl, rfl, rfl⟩ (State.endWatch_same _ _ _)) ⟨rfl, rfl, rfl, rfl, rfl, rfl, rfl⟩

theorem State.lossExpiry_same (s : State) (l : LaneId) : s.SameStores (s.lossExpiry l) := by
  unfold State.lossExpiry
  dsimp only
  refine .trans (.trans (u := s.modFtm l (fun m =>
    { m with lossTimer := none, lossFresh := false, absent := true,
             lossExpiries := satInc top16 m.lossExpiries }))
    ⟨rfl, rfl, rfl, rfl, rfl, rfl, rfl⟩ (State.abortGate_same _ l .noPulses)) ?_
  split
  · exact ⟨rfl, rfl, rfl, rfl, rfl, rfl, rfl⟩
  · exact (State.enterPaused_same _ l .pulseLost).trans ⟨rfl, rfl, rfl, rfl, rfl, rfl, rfl⟩
  all_goals exact .refl _

theorem State.boothSecond_same (s : State) : s.SameStores s.boothSecond := by
  unfold State.boothSecond
  dsimp only
  split
  · exact ⟨rfl, rfl, rfl, rfl, rfl, rfl, rfl⟩
  · refine .ite ?_ ⟨rfl, rfl, rfl, rfl, rfl, rfl, rfl⟩
    unfold State.setBooth State.expireLicences
    exact .ite ⟨rfl, rfl, rfl, rfl, rfl, rfl, rfl⟩ ⟨rfl, rfl, rfl, rfl, rfl, rfl, rfl⟩

theorem State.expireTickets_same (s : State) : s.SameStores s.expireTickets :=
  .ite (.refl s) ⟨rfl, rfl, rfl, rfl, rfl, rfl, rfl⟩

/-- What fell due at the last base tick changes no store, no command, no hold and nothing queued. -/
theorem State.takeOverdue_same (s : State) : s.SameStores s.takeOverdue := by
  have h2 : ∀ (ls : List LaneId) (u : State), s.SameStores u → s.SameStores
      (ls.foldl (fun s l => if (s.lane l).lossDue then s.lossExpiry l else s) u) := by
    intro ls
    induction ls with
    | nil => exact fun _ h => h
    | cons l rest ih => exact fun u h => ih _ (h.trans (.ite (u.lossExpiry_same l) (.refl u)))
  have h3 := h2 fours _ (State.SameStores.ite (c := s.clock.secondDue = true) s.boothSecond_same (.refl s))
  exact .ite (h3.trans (State.expireTickets_same _)) h3

theorem State.takeAt_same (s : State) (t : Instant) : s.SameStores (s.takeAt t) := by
  unfold State.takeAt State.caughtUp
  exact .trans (.ite s.takeOverdue_same (.refl s)) ⟨rfl, rfl, rfl, rfl, rfl, rfl, rfl⟩

@[simp] theorem State.takeAt_pin (s : State) (t : Instant) : (s.takeAt t).pin = s.pin := (s.takeAt_same t).1
@[simp] theorem State.takeAt_bcp (s : State) (t : Instant) : (s.takeAt t).bcp = s.bcp := (s.takeAt_same t).2.1
@[simp] theorem State.takeAt_stc (s : State) (t : Instant) : (s.takeAt t).stc = s.stc :=
  (s.takeAt_same t).2.2.1
@[simp] theorem State.takeAt_shc (s : State) (t : Instant) : (s.takeAt t).shc = s.shc :=
  (s.takeAt_same t).2.2.2.1
@[simp] theorem State.takeAt_held (s : State) (t : Instant) : (s.takeAt t).held = s.held :=
  (s.takeAt_same t).2.2.2.2.1
@[simp] theorem State.takeAt_link (s : State) (t : Instant) : (s.takeAt t).link = s.link :=
  (s.takeAt_same t).2.2.2.2.2.1
@[simp] theorem State.takeAt_pending (s : State) (t : Instant) : (s.takeAt t).pending = s.pending :=
  (s.takeAt_same t).2.2.2.2.2.2

theorem State.abortGate_idle {s : State} {l : LaneId} (r : GateResult)
    (h : (s.lane l).ftm.gate.state ≠ .opened) : s.abortGate l r = s := by simp [State.abortGate, h]

theorem State.completeReset_cases (s : State) (l : LaneId) :
    s.completeReset l = s ∨ ((s.lane l).pl.state = .resetting ∧ s.stc.flight.any (Operation.ofLane l) = false
      ∧ s.completeReset l = (s.modPl l (fun p => { p with state := .idle })).raiseLane l srcLaneReady) := by
  unfold State.completeReset
  split
  · rename_i h
    exact .inr ⟨h.1, by simpa using h.2, rfl⟩
  · exact .inl rfl

/-! ### Lists and counts -/

@[simp] theorem modifyAt_length {α : Type} (f : α → α) (n : Nat) (l : List α) :
    (modifyAt f n l).length = l.length := by
  induction l generalizing n with
  | nil => cases n <;> rfl
  | cons a rest ih => cases n <;> simp [modifyAt, ih]

theorem removeAt_length_le {α : Type} (n : Nat) (l : List α) : (removeAt n l).length ≤ l.length := by
  induction l generalizing n with
  | nil => cases n <;> simp [removeAt]
  | cons a rest ih =>
    cases n with
    | zero => simp [removeAt]
    | succ n => simpa [removeAt] using ih n

@[simp] theorem insertBy_length {α : Type} (le : α → α → Bool) (a : α) (l : List α) :
    (insertBy le a l).length = l.length + 1 := by
  induction l with
  | nil => rfl
  | cons b rest ih =>
    unfold insertBy
    split <;> simp [ih]

theorem findFrom_some {α : Type} {p : α → Bool} {i k : Nat} {l : List α} {a : α}
    (h : findFrom p i l = some (k, a)) : p a = true ∧ i ≤ k ∧ l[k - i]? = some a := by
  induction l generalizing i with
  | nil => cases h
  | cons b rest ih =>
    unfold findFrom at h
    split at h
    · cases h
      exact ⟨‹_›, Nat.le_refl _, by simp⟩
    · obtain ⟨hp, hi, hg⟩ := ih h
      refine ⟨hp, by omega, ?_⟩
      have : k - i = (k - (i + 1)) + 1 := by omega
      rw [this]
      simpa using hg

theorem satInc_le {top n : Nat} (h : n ≤ top) : satInc top n ≤ top := by
  unfold satInc
  split <;> omega

/-- An emitted sample is a 24-bit value (R136). -/
theorem emitSample_inRange (x : Int) (r gain : Nat) (trim : Int) :
    inSampleRange (emitSample x r gain trim) := by
  unfold emitSample inSampleRange clampInt
  omega

end Sys2Proof.Machine
end

