-- ==== Sys2Proof/WellFormed.lean ====
section
/-! DEFINITION. Which commands are well formed: operands of a shape that the link or port they come
from can deliver. -/

namespace Sys2Proof

/-- Data of a read is a whole number of 4,096-byte blocks, at least one and at most `most` (R11). -/
def Returned.wholeBlocks (most : Nat) : Returned → Bool
  | .data bytes => bytes.length % 4096 == 0 && 0 < bytes.length / 4096 && bytes.length / 4096 ≤ most
  | .fault => true

/-- A well-formed command. The capacity is a block count of at most the array's highest block number
plus one (R18); the header and a cue record are one block, a catalogue slot 64 blocks (R15, R144); a
picture or sound unit is at most 64 blocks (R11); at most 8 operations are in flight (R11); an ingest
frame has its kind byte (section 10.6); bytes arrive on the control port at least one at a time. -/
def Instr.wf : Instr → Bool
  | .capacityReadReturn blocks => blocks ≤ 4294967296
  | .headerReadReturn r => r.wholeBlocks 1
  | .slotReadReturn r => r.wholeBlocks 64
  | .commandFrameReceived bytes => !bytes.isEmpty
  | .chunkOffer frame => !frame.isEmpty
  | .chunkWriteReturn op _ => op < 8
  | .catalogueWriteReturn op _ => op < 8
  | .laneReadReturn op r _ => op < 8 && r.wholeBlocks 64
  | .cueReadReturn op r => op < 8 && r.wholeBlocks 1
  | .powerOnReset | .startupLoadBegin | .formatWriteReturn _ | .frameByteTimeout | .unknownKind
  | .transmitLineFree | .softResetProceed _ | .queryWindows | .retirePackage | .declarePackage
  | .abortPackage | .queryPackage | .setIngest | .loadLicence | .revokeLicence _ | .queryLicence
  | .readLog | .collectLog | .goLive | .assignLane _ | .holdScreen _ | .releaseScreen | .appendItem
  | .removeItem | .clearQueue | .cue | .start _ | .pause _ | .resume _ | .stop _ | .seek _
  | .setLane _ | .laneReset _ | .queryLane | .gateStart | .gateStop _ | .queryGate _
  | .injectPulses _ | .setChannel _ | .querySound _ | .setEnables | .clearEnables | .setMaster
  | .ackNotice | .injectNotice | .queryPart | .setTime | .softReset | .ticketExpiry | .rawPulse _ _
  | .injectedPulse _ | .pulseLossExpiry _ | .gateOverflow _ | .baseTick | .slipCorrection _
  | .rampDownEnd _ | .soundReady | .boothSecond | .resetPinAsserted | .capacityReadNoAnswer
  | .syncByteReceived => true

end Sys2Proof
end

