-- ==== Sys2Proof/Tests/Slice0.lean ====
section
/-! SUPPORT. The model's own tests: what WellFormed refuses, the manual's check values and worked examples, single
steps on small states, and for each statement a state and operands that meet its hypotheses. -/

namespace Sys2Proof.Tests

open Sys2Proof
open Sys2Proof.Machine

-- The tests are many and each waits for the kernel: one after another they need fewer threads.
set_option Elab.async false

/-! ### Helpers -/

/-- Bytes of numbers. -/
def bs (l : List Nat) : List Byte := l.map (BitVec.ofNat 8)

/-- The state after a command that answers one. -/
def after (i : Instr) (s : State) : Option State :=
  match exec i s with
  | .next t => some t
  | .fault _ | .refused _ => none

/-- Whether a command answers a next state that passes a test. -/
def leads (i : Instr) (s : State) (p : State → Bool) : Bool :=
  match after i s with
  | none => false
  | some t => p t

/-- A READY part with its catalogue loaded. -/
def up : State :=
  let s := State.reset
  { s with out := [], bcp := { s.bcp with part := .ready },
           stc := { s.stc with capacity := 100000, status := some .loaded, load := .idle } }

/-- A state with one host command taken. -/
def sent (s : State) (kind : Nat) (body : List Nat) : State :=
  s.modBcp (fun b => { b with cmds := [⟨kind, 0x55#8, bs body, none⟩] })

/-- A command taken at a READY part is ready to be executed. -/
theorem sent_commanded (s : State) (kind : Nat) (body : List Nat) (hp : s.pin = false)
    (hr : s.bcp.part = .ready) : (sent s kind body).Commanded kind (bs body) :=
  ⟨hp, hr, 0x55#8, rfl⟩

/-- The state in which a command that carries an instant is executed. -/
def ripe (s : State) (kind : Nat) (body : List Nat) : State := (sent s kind body).takeAt 0

/-- The reply of the oldest command. -/
def replyOf (s : State) : Option Reply := (s.bcp.cmds.head?).bind Outstanding.reply

/-- A declaration of package 7: 24 frames a second, 1 block a frame, no sound, one reel of 48 frames. -/
def decl7 : Declaration :=
  { packageId := 7, rate := 24, slotBlocks := 1, channels := 0, licenceRequired := true,
    reels := [⟨48, 0⟩] }

/-- The table entry of package 7 at block 4,096. -/
def entry7 (state : WindowState) (refs ops : Nat) : TableEntry :=
  { window := { newWindow decl7 4096 with state := state, refs := refs, ops := ops },
    record := newRecord decl7 }

/-- A part with package 7. -/
def with7 (state : WindowState) (refs ops : Nat) : State :=
  up.modStc (fun c => { c with table := some (entry7 state refs ops) :: List.replicate 31 none })

/-- Licence 3 of package 7: two showings, one counted. -/
def licence3 : Licence :=
  { id := 3, packageId := 7, notBefore := 100, notAfter := 200, maxShowings := 2, count := 1, percent := 50,
    revoked := false }

/-- The COMPOSITION item of package 7. -/
def item7 (promoted begun : Bool) : Item :=
  { uid := 0, kind := .composition 7 0 0 (some 3), promoted := promoted, begun := begun, blocked := none,
    rate := 24, channels := 0, reelFrames := [48] }

/-- A BLACK item of 5 frames. -/
def itemBlack (uid : Nat) : Item :=
  { uid := uid, kind := .black 5, promoted := false, begun := false, blocked := none, rate := 0,
    channels := 0, reelFrames := [] }

/-- A reservation of licence 3. -/
def reservation3 (stage : Stage) : Reservation :=
  { screen := some 0, licenceId := 3, packageId := 7, mark := 24, stage := stage }

/-- A part with package 7 queued on L0, whose screen is released and confirmed, at booth time 150, with
licence 3. -/
def house : State :=
  let s := with7 .filling 1 0
  let s := { s with shc := { s.shc with licences := [licence3] }, held := ⟨false, true, true, true⟩,
                    clock := { s.clock with booth := some 150 } }
  s.modPl 0 (fun p => { p with confirmed := true, queue := [item7 false false], uids := 1 })

/-- That part with L0 in a state, its item promoted and at rate 24. -/
def houseIn (state : LaneState) : State :=
  let s := { house with shc := { house.shc with
    reservations := ⟨[reservation3 .promoted], [], [], []⟩ } }
  s.modPl 0 (fun p => { p with state := state, queue := [item7 true false], rate := some 24,
                               next := some ⟨0, 0, 0⟩ })

/-- L0's gate record set. -/
def gated (s : State) (g : Gate) : State := s.modFtm 0 (fun m => { m with gate := g })

/-! ### WellFormed refuses what no link or port delivers -/

theorem test_wf_capacity : (Instr.capacityReadReturn 4294967297).wf = false := by decide
theorem test_wf_header : (Instr.headerReadReturn (.data [])).wf = false := by decide
theorem test_wf_slot : (Instr.slotReadReturn (.data (bs [1, 2, 3]))).wf = false := by decide
theorem test_wf_frame : (Instr.commandFrameReceived []).wf = false := by decide
theorem test_wf_offer : (Instr.chunkOffer []).wf = false := by decide
theorem test_wf_chunkWrite : (Instr.chunkWriteReturn 8 true).wf = false := by decide
theorem test_wf_catalogueWrite : (Instr.catalogueWriteReturn 9 true).wf = false := by decide
theorem test_wf_laneReadSlot : (Instr.laneReadReturn 8 .fault 0).wf = false := by decide
theorem test_wf_laneReadData : (Instr.laneReadReturn 0 (.data []) 0).wf = false := by decide
theorem test_wf_cueReadSlot : (Instr.cueReadReturn 8 .fault).wf = false := by decide
theorem test_wf_cueReadData : (Instr.cueReadReturn 0 (.data [])).wf = false := by decide
theorem test_wf_accepts : (Instr.laneReadReturn 7 .fault 12).wf = true := by decide

/-! ### Check values and worked examples of the manual -/

/-- The bytes of "123456789" (section 10.6). -/
def nineDigits : List Byte := bs [0x31, 0x32, 0x33, 0x34, 0x35, 0x36, 0x37, 0x38, 0x39]

theorem test_crc16 : crc16 nineDigits = 0x29B1#16 := by decide +kernel
theorem test_crc32 : crc32 nineDigits = 0xCBF43926#32 := by decide +kernel

-- Worked examples of gain, ramp and trim (R136).
theorem test_gain_up : emitSample 1000001 48 98304 0 = 1500002 := by decide +kernel
theorem test_gain_down : emitSample (-1000001) 48 98304 0 = -1500001 := by decide +kernel
theorem test_gain_clamp : emitSample 7000000 48 98304 0 = 8388607 := by decide +kernel
theorem test_ramp_up : emitSample 1000001 47 65536 0 = 979167 := by decide +kernel
theorem test_ramp_truncates : emitSample (-1000001) 47 65536 0 = -979167 := by decide +kernel
theorem test_trim_clamp : emitSample (-8388608) 48 65536 (-4096) = -8388608 := by decide +kernel
theorem test_trim_silence : emitSample 0 48 98304 25 = 25 := by decide +kernel

-- Worked examples of the rate (R137, R138).
theorem test_rate_rounds : measuredRate 8 333007 = 24024 ∧ measuredRate 8 333008 = 24023 := by decide +kernel
theorem test_deviation : deviation 24023 24 = 958 ∧ deviation 24100 24 = 4166 ∧ deviation 23900 24 = -4166 := by
  decide +kernel

/-- The cue of the fades example (R142). -/
def fadeCue : CueEntry :=
  { number := 1, inAt := 1000, outAt := 1048, fadeIn := 6, fadeOut := 6, region := 0, offset := 0, style := 0,
    lines := [], index := 0 }

theorem test_opacity : opacityAt fadeCue 1000 = 36 ∧ opacityAt fadeCue 1005 = 218 ∧ opacityAt fadeCue 1006 = 255
    ∧ opacityAt fadeCue 1041 = 255 ∧ opacityAt fadeCue 1042 = 218 ∧ opacityAt fadeCue 1047 = 36 := by
  decide +kernel

-- Worked examples of the window size (R143).
theorem test_window_size :
    (Declaration.windowSize { decl7 with slotBlocks := 64, channels := 8, reels := [⟨28800, 900⟩] }) = 2189700
      ∧ (Declaration.windowSize { decl7 with slotBlocks := 2, channels := 2, reels := [⟨10, 3⟩] }) = 53 := by
  decide +kernel

-- Ranges that touch are merged (R27).
theorem test_merge_touching : mergeSpan [⟨0, 4⟩, ⟨8, 12⟩] ⟨4, 8⟩ = [⟨0, 12⟩] := by decide
theorem test_merge_apart : mergeSpan [⟨0, 4⟩, ⟨8, 12⟩] ⟨5, 7⟩ = [⟨0, 4⟩, ⟨5, 7⟩, ⟨8, 12⟩] := by decide

-- The table gives no row any bits.
theorem test_decode_none : decodeTableWord 16 0 = none := rfl

/-! ### The machine -/

theorem witness_StepTakesFront : ({ up with pending := [.soundReady] } : State).pending = .soundReady :: [] := rfl

/-- A state that meets the invariants with something in every place they speak of. -/
def lively : State :=
  let s := houseIn .cued
  { s with pending := [.soundReady], stc := { s.stc with flight := [⟨.slotWrite 0 false, 64, 1⟩] },
           link := { s.link with queue := [⟨0, 0, [1, -1]⟩] } }

theorem witness_step : ∃ t, step lively = .next t := ⟨_, rfl⟩
theorem witness_HoldsSilenceKept : lively.HoldsSilence := by unfold State.HoldsSilence; decide +kernel
theorem witness_LicencesConservedKept : lively.LicencesConserved := by
  unfold State.LicencesConserved; decide +kernel
theorem witness_WindowsApartKept : lively.WindowsApart := by unfold State.WindowsApart; decide +kernel
theorem witness_SamplesInRangeKept : lively.SamplesInRange := by
  unfold State.SamplesInRange inSampleRange; decide +kernel
theorem witness_PortsAndLogBoundedKept : lively.PortsBounded ∧ lively.LogBounded := by
  unfold State.PortsBounded State.LogBounded; decide +kernel
theorem witness_StoresBoundedKept : lively.StoresBounded := by unfold State.StoresBounded; decide +kernel
theorem witness_LanesBoundedKept : lively.LanesBounded := by unfold State.LanesBounded; decide +kernel

theorem witness_SamplesInRangeKept_tick : lively.TickBuilt := by unfold State.TickBuilt; decide +kernel

/-- That state with a VALID gate record of L0, and of L1 an open gate that has counted 8 pulses in 333,000 ticks. -/
def livelyGates : State :=
  (lively.modFtm 0 (fun m => { m with
    gate := { Gate.start .host (some 8) with state := .done, result := some .valid, count := 333007 } })).modFtm 1
      (fun m => { m with lastAccepted := some 333100,
                         gate := { Gate.start .host none with opened := true, pulses := 8, openTick := 100,
                                                              count := 333000 } })

theorem witness_LanesBoundedKept_gates : livelyGates.LanesBounded ∧ livelyGates.GatesSpaced := by
  refine ⟨by unfold State.LanesBounded; decide +kernel, fun l => ?_⟩
  have opened : (livelyGates.lane 1).ftm.lastAccepted = some 333100 := by decide +kernel
  have state : ∀ l, (livelyGates.lane l).ftm.gate.state = .opened → l = 1 := by decide +kernel
  have values : (livelyGates.lane 1).ftm.gate.openTick ≤ 333100 ∧ 4000 ≤ (livelyGates.lane 1).ftm.gate.count
      ∧ (livelyGates.lane 1).ftm.gate.opened = true := by decide +kernel
  refine ⟨by revert l; decide +kernel, fun h => ?_⟩
  obtain rfl := state l h
  exact ⟨fun f => absurd (values.2.2.symm.trans f) (by decide),
    fun _ => ⟨⟨333100, opened, values.1⟩, fun _ => values.2.1⟩⟩

/-- L0 CUED with a last accepted pulse and a gate record, at an instant. -/
def gateAt (lastAccepted : Option Nat) (gate : Gate) (instant : Nat) : State :=
  let s := (houseIn .cued).modFtm 0 (fun m => { m with lastAccepted := lastAccepted, gate := gate })
  { s with clock := { s.clock with ticks := instant / 150000, now := instant, samples := instant / 3125 } }

-- Pulses at 0.9 and at 4,000.0 us: both pass the filter, and the gate between them counts 4,000 (R110, R137).
theorem test_gate_spacing :
    ((((gateAt none (Gate.start .host none) 135).pulse 0).lane 0).ftm.gate.openTick = 0)
      ∧ (((gateAt (some 0) { Gate.start .host (some 1) with opened := true } 600000).pulse 0).lane 0).ftm.gate.count
        = 4000
      ∧ (((gateAt (some 0) { Gate.start .host (some 1) with opened := true } 600000).pulse 0).lane 0).ftm.gate.result
        = some .valid := by decide +kernel

/-! ### Resets, the load and the control port -/

theorem witness_PinResets : ({ up with pin := true } : State).pin = true := rfl

theorem witness_LoadBegins_begin : State.reset.pin = false ∧ State.reset.stc.load = .awaitingPort
    ∧ State.reset.stc.flight = [] := ⟨rfl, rfl, rfl⟩

theorem witness_LoadBegins_capacity : (State.reset.loadAt .capacityRead).pin = false
    ∧ (State.reset.loadAt .capacityRead).stc.load = .capacityRead ∧ 4096 ≤ 4096 ∧ 4095 < 4096 := by
  decide +kernel

theorem witness_LoadBegins_header : (State.reset.loadAt .headerRead).stc.load = .headerRead
    ∧ headerGood (padToBlock headerBytes) = true ∧ headerGood [] = false := by decide +kernel

/-- The load at a place. -/
def loadingAt (x : Load) : State := State.reset.loadAt x

theorem witness_LoadWritesReturn : (loadingAt (.headerWrite true)).stc.load = .headerWrite true
    ∧ (loadingAt (.formatWrite 30 false)).stc.load = .formatWrite 30 false ∧ 30 < 31
    ∧ (loadingAt (.formatWrite 31 true)).stc.load = .formatWrite 31 true
    ∧ (loadingAt (.emptyWrite 0 false)).stc.load = .emptyWrite 0 false
    ∧ (loadingAt (.emptyWrite 31 true)).stc.load = .emptyWrite 31 true
    ∧ (loadingAt (.headerWrite false)).stc.load.writing = true
    ∧ (loadingAt (.emptyWrite 31 true)).stc.load.writing = true
    ∧ (loadingAt (.formatWrite 0 false)).pin = false := by decide +kernel

/-- The load at slot 0 with the capacity read. -/
def judging : State := (loadingAt (.slotRead 0)).modStc (fun c => { c with capacity := 100000 })

theorem witness_SlotJudged_empty : judging.stc.load = .slotRead 0 ∧ 0 ≤ 31 ∧ 31 ≤ 31
    ∧ (loadingAt (.slotRead 31)).stc.load = .slotRead 31
    ∧ parseSlot [] = none ∧ (parseSlot emptyImage).map SlotImage.packageId = some 0 := by decide +kernel

theorem witness_SlotJudged_retiring :
    (parseSlot (slotImage (entry7 .retiring 1 0))).map (fun m => (m.packageId, m.state)) = some (7, 2) := by
  decide +kernel

theorem witness_SlotJudged_restored :
    ((parseSlot (slotImage (entry7 .filling 0 0))).bind (restoreSlot judging.stc)).isSome = true
      ∧ (parseSlot (slotImage (entry7 .filling 0 0))).map (fun m => (m.packageId, m.state)) = some (7, 0)
      ∧ 0 < judging.stc.table.length := by decide +kernel

-- A readable image whose window lies behind the capacity is not restored (R20).
theorem witness_SlotJudged_unfit :
    (parseSlot (slotImage (entry7 .filling 0 0))).map (restoreSlot State.reset.stc) = some none := by decide +kernel

theorem test_slot_31_ends : leads (.slotReadReturn (.data emptyImage)) (loadingAt (.slotRead 31))
    (fun t => t.stc.load == .idle && t.bcp.part == .ready) = true := by decide +kernel

theorem witness_SoftResetProceeds :
    (up.modBcp (fun b => { b with resetDue := true })).pin = false
      ∧ (up.modBcp (fun b => { b with resetDue := true })).bcp.resetDue = true := ⟨rfl, rfl⟩

/-- An offer id of a package. -/
def idOf (pid first : Nat) : ChunkId := ⟨pid, 0, 0, first, 1⟩

/-- A part with package 7 and a staging slot in each state, two of them of another package. -/
def staged : State :=
  (with7 .filling 0 0).modPka (fun p => { p with
    staging := [.held (idOf 7 1) [], .writing (idOf 7 2) [] false, .held (idOf 9 1) [],
                .writing (idOf 9 2) [] false, .reserved (idOf 9 3), .free],
    order := [2, 0], outstanding := 4, tickets := [⟨idOf 9 3, .stagingFull, 0, some 4⟩] })

-- The slot whose write is in flight is not FREE before its return (R33, R50).
theorem test_soft_reset_keeps_writing : leads (.softResetProceed 0)
    (staged.modBcp (fun b => { b with resetDue := true }))
    (fun t => t.pka.staging == [.free, .writing (idOf 7 2) [] false, .free, .writing (idOf 9 2) [] false,
      .free, .free] && t.pka.order == []) = true := by decide +kernel

/-- A part with the DONE of SOFT_RESET still on the line. -/
def doneOnLine : State := up.modBcp (fun b => { b with line := some (.reply 0x07#8 (.done .softReset)) })

theorem witness_SoftResetProceeds_line : doneOnLine.pin = false ∧ doneOnLine.bcp.resetDue = false
    ∧ doneOnLine.bcp.line = some (.reply 0x07#8 (.done .softReset)) := ⟨rfl, rfl, rfl⟩

-- The reset comes with the DONE's leaving, and not without a DONE (R199).
theorem test_soft_reset_line : leads (.softResetProceed 0) doneOnLine
      (fun t => t.bcp.line == none && t.bcp.part == .startingUp && t.bcp.resetDue == false) = true
    ∧ leads (.softResetProceed 0) up (fun _ => true) = false := by decide +kernel

theorem witness_FrameTakenAsSpelt : up.pin = false ∧ up.bcp.receiver = .hunting ∧ (0xFF : Nat) < 256
    ∧ (List.replicate 1024 0x00#8).length ≤ 1024 ∧ (Result.time 5 none).bytes.length ≤ 1024 := by decide +kernel

-- CRC-16 of the counted bytes worked out by hand; an unset booth time is all ones (R189, R197, R200).
theorem test_done_frame : (HostFrame.reply 0x07#8 (.done .empty)).bytes = bs [0xC3, 0, 2, 1, 7, 169, 118]
    ∧ (HostFrame.reply 0x07#8 (.done (.time 5 none))).bytes
      = bs [0xC3, 0, 10, 1, 7, 0, 0, 0, 5, 0xFF, 0xFF, 0xFF, 0xFF, 226, 178] := by decide +kernel

theorem test_frame_queryPart : leads (.commandFrameReceived (hostFrameBytes 0x80 0x07#8 [])) up
    (fun t => t.bcp.cmds == [⟨0x80, 0x07#8, [], none⟩] && t.bcp.linkErrors == 0) = true := by decide +kernel

theorem test_frame_badCrc : leads (.commandFrameReceived (bs [0xC3, 0, 2, 0x80, 7, 0, 0])) up
    (fun t => t.bcp.cmds == [] && t.bcp.linkErrors == 1) = true := by decide +kernel

/-- A part with some commands outstanding and some OVERRUN refusals waiting. -/
def crowdedPort (cmds tags : Nat) : State := up.modBcp (fun b =>
  { b with cmds := List.replicate cmds ⟨0x80, 0x01#8, [], none⟩, overrunTags := List.replicate tags 0x02#8 })

theorem witness_FrameTakenAsSpelt_outstanding : (crowdedPort 3 0).bcp.cmds.length < 4
    ∧ 4 ≤ (crowdedPort 4 3).bcp.cmds.length ∧ (crowdedPort 4 3).bcp.overrunTags.length < 4
    ∧ 4 ≤ (crowdedPort 4 4).bcp.overrunTags.length := by decide +kernel

-- The fifth command is answered OVERRUN with its own tag, the ninth is only counted (R191, R192).
theorem test_frame_overrun : leads (.commandFrameReceived (hostFrameBytes 0x80 0x07#8 [])) (crowdedPort 4 0)
      (fun t => t.bcp.cmds.length == 4 && t.bcp.overrunTags == [0x07#8] && t.bcp.overruns == 1) = true
    ∧ leads (.commandFrameReceived (hostFrameBytes 0x80 0x07#8 [])) (crowdedPort 4 4)
      (fun t => t.bcp.overrunTags == (crowdedPort 4 4).bcp.overrunTags && t.bcp.overruns == 1) = true := by
  decide +kernel

/-- A part whose receiver has waited too long for the next byte. -/
def stalledFrame : State := up.modBcp (fun b => { b with receiver := .collecting (bs [0]), gap := 3 })

theorem witness_ReceiverMoves : up.bcp.receiver = .hunting
    ∧ stalledFrame.bcp.receiver = .collecting (bs [0]) ∧ 2 < stalledFrame.bcp.gap
    ∧ (sent up 0x99 []).bcp.next = some ⟨0x99, 0x55#8, [], none⟩ ∧ hostRow 0 0x99 = none := by decide +kernel

-- A QUERY_PART whose check is one off, and impossible lengths 1 and 1,027 (R190).
theorem witness_ReceiverMoves_discarded : u16 (bs [0, 1]) 0 < 2 ∧ 1026 < u16 (bs [4, 3]) 0
    ∧ u16 (bs [0, 2, 0x80, 7]) 0 = 2 ∧ (bs [0, 2, 0x80, 7]).length = u16 (bs [0, 2, 0x80, 7]) 0 + 2
    ∧ u16 (bs [0, 0]) 0 ≠ (crc16 (bs [0, 2, 0x80, 7])).toNat ∧ up.pin = false ∧ up.bcp.receiver = .hunting := by
  decide +kernel

theorem test_impossible_length : leads (.commandFrameReceived (bs [0xC3, 4, 3])) up
      (fun t => t.bcp.linkErrors == 1 && t.ntu.raised.getLsbD 42 && t.bcp.receiver == .hunting) = true
    ∧ leads (.commandFrameReceived (bs [0xC3, 4, 2])) up
      (fun t => t.bcp.linkErrors == 0 && t.bcp.receiver == .collecting (bs [4, 2])) = true := by decide +kernel

/-- A part with an OVERRUN refusal, or else a built reply, to send. -/
def replying (tags : List Byte) : State :=
  up.modBcp (fun b => { b with overrunTags := tags, cmds := [⟨0x42, 0x01#8, [], some (.done .empty)⟩] })

/-- A part with a NOTICE due. -/
def noticing : State :=
  { up with ntu := { up.ntu with raised := 1#44, enabled := 1#44, master := true, outstanding := true,
                                 number := 255 } }

theorem witness_TransmitOrder_tags : (replying [0x02#8]).bcp.overrunTags = 0x02#8 :: []
    ∧ (replying []).bcp.overrunTags = []
    ∧ (replying []).bcp.cmds = ⟨0x42, 0x01#8, [], some (.done .empty)⟩ :: [] := by decide +kernel

theorem witness_TransmitOrder_notice : noticing.bcp.overrunTags = [] ∧ noticing.bcp.cmds = []
    ∧ noticing.bcp.line = none ∧ noticing.bcp.resetDue = false ∧ noticing.ntu.outstanding = true
    ∧ noticing.ntu.master = true ∧ noticing.ntu.pending ≠ 0#44 := by decide +kernel

theorem test_notice_number_wraps : leads .transmitLineFree noticing
    (fun t => t.bcp.line == some (.notice 0 1#44)) = true := by decide +kernel

theorem witness_TransmitOrder_none : (sent noticing 0x42 [0]).bcp.overrunTags = []
    ∧ (sent noticing 0x42 [0]).bcp.cmds = ⟨0x42, 0x55#8, bs [0], none⟩ :: []
    ∧ up.bcp.overrunTags = [] ∧ up.bcp.cmds = [] ∧ up.bcp.line = none ∧ up.bcp.resetDue = false
    ∧ up.ntu.outstanding = false := by decide +kernel

/-- That part with the NOTICE found empty. -/
def noticingNothing : State := { noticing with ntu := { noticing.ntu with raised := 0#44 } }

/-- That part with the master off. -/
def noticingOff : State := { noticing with ntu := { noticing.ntu with master := false } }

/-- That part with the DONE of SOFT_RESET on the line. -/
def noticingReset : State :=
  noticing.modBcp (fun b => { b with line := some (.reply 0x07#8 (.done .softReset)) })

-- A NOTICE passes a reply that is not yet built; empty or with the master off it is not sent (R183, R193).
theorem test_notice_order : leads .transmitLineFree (sent noticing 0x42 [0])
      (fun t => t.bcp.line == some (.notice 0 1#44) && t.bcp.cmds.length == 1) = true
    ∧ leads .transmitLineFree noticingNothing
      (fun t => t.out == [] && t.ntu.outstanding == false && t.ntu.number == 255) = true
    ∧ leads .transmitLineFree noticingOff
      (fun t => t.out == [] && t.ntu.outstanding == false && t.ntu.number == 255) = true
    ∧ leads .transmitLineFree noticingReset
      (fun t => t.out == [] && t.ntu.outstanding == true && t.bcp.resetDue == true) = true := by decide +kernel

theorem witness_BusyWhileStarting : (sent State.reset 0x4A [0]).bcp.part = .startingUp
    ∧ (sent State.reset 0x4A [0]).bcp.next = some ⟨0x4A, 0x55#8, bs [0], none⟩
    ∧ hostRow 9 0x4A = some (.stop 9) := by decide +kernel

/-! ### Storage and ingest -/

theorem witness_PackageRetired : (sent up 0x11 [0, 7]).Commanded 0x11 (bs [0, 7]) ∧ (bs [0, 7]).length = 2
    ∧ u16 (bs [0, 7]) 0 = 7 ∧ u16 (bs [0, 7]) 0 ≠ 0 ∧ u16 (bs [0, 0]) 0 = 0 :=
  ⟨sent_commanded _ _ _ rfl rfl, by decide +kernel⟩

theorem witness_PackageRetired_cases : (sent up 0x11 [0, 7]).stc.find 7 = none
    ∧ (sent (with7 .retiring 1 0) 0x11 [0, 7]).stc.find 7 = some (0, entry7 .retiring 1 0)
    ∧ (sent (with7 .filling 0 0) 0x11 [0, 7]).stc.find 7 = some (0, entry7 .filling 0 0)
    ∧ (sent (with7 .complete 1 0) 0x11 [0, 7]).stc.find 7 = some (0, entry7 .complete 1 0) := by
  decide +kernel

theorem test_retire_gone : leads .retirePackage (sent (with7 .complete 0 0) 0x11 [0, 7])
    (fun t => replyOf t == some (.done .gone) && (t.stc.find 7).isNone) = true := by decide +kernel

theorem test_retire_zero : leads .retirePackage (sent up 0x11 [0, 0])
    (fun t => replyOf t == some (.refused .badValue)) = true := by decide +kernel

theorem witness_ReleaseDropsPackage : (with7 .filling 0 0).stc.find 7 = some (0, entry7 .filling 0 0)
    ∧ (with7 .filling 0 2).stc.find 7 = some (0, entry7 .filling 0 2) := by decide +kernel

theorem witness_ReleaseDropsPackage_staged : staged.stc.find 7 = some (0, entry7 .filling 0 0)
    ∧ staged.stc.status ≠ some .unavailable ∧ 0 ∈ staged.pka.order
    ∧ staged.pka.staging[0]? = some (.held (idOf 7 1) []) ∧ (idOf 7 1).packageId = 7
    ∧ staged.pka.staging[1]? = some (.writing (idOf 7 2) [] false)
    ∧ staged.pka.staging[3]? = some (.writing (idOf 9 2) [] false) ∧ (idOf 9 2).packageId ≠ 7
    ∧ (∀ t ∈ staged.pka.tickets, t.slot ≠ some 1 ∧ t.slot ≠ some 3) := by decide +kernel

theorem test_release_withdraws : (staged.release 7).pka.order = [2] ∧ (staged.release 7).pka.outstanding = 3
    ∧ (staged.release 7).pka.staging = [.free, .writing (idOf 7 2) [] true, .held (idOf 9 1) [],
        .writing (idOf 9 2) [] false, .reserved (idOf 9 3), .free]
    ∧ (staged.release 7).out = [.verdict (idOf 7 1) (.refused .noPackage) false]
    ∧ (staged.release 7).stc.queue = [⟨0, false⟩] := by decide +kernel

/-- The body that declares package 7. -/
def declareBody : List Nat := [0, 7, 24, 1, 0, 1, 1, 0, 0, 0, 48, 0, 0]

theorem witness_PackageDeclared : 1 ≤ u8 (bs declareBody) 6 ∧ u8 (bs declareBody) 6 ≤ 12
    ∧ (bs declareBody).length = 7 + 6 * u8 (bs declareBody) 6 ∧ declared (bs declareBody) = decl7
    ∧ (declared (bs declareBody)).acceptable (u8 (bs declareBody) 5) = true := by decide +kernel

theorem witness_PackageDeclared_cases : (sent up 0x20 declareBody).Commanded 0x20 (bs declareBody)
    ∧ up.stc.find 7 = none ∧ up.stc.freeEntry = some 0 ∧ up.stc.place 48 = some 4096
    ∧ ((with7 .filling 0 0).stc.find 7).isSome = true :=
  ⟨sent_commanded _ _ _ rfl rfl, by decide +kernel⟩

theorem witness_PackageDeclared_full :
    ({ up.stc with table := List.replicate 32 (some (entry7 .filling 0 0)) } : Storage).freeEntry = none
      ∧ ({ up.stc with capacity := 4143 } : Storage).freeEntry = some 0
      ∧ ({ up.stc with capacity := 4143 } : Storage).place 48 = none
      ∧ ({ up.stc with capacity := 4144 } : Storage).place 48 = some 4096 := by decide +kernel

theorem test_declare_behind_draining :
    ({ up.stc with draining := [⟨4100, 4200, 1⟩] } : Storage).place 48 = some 4201
      ∧ ({ up.stc with draining := [⟨4100, 4200, 1⟩] } : Storage).place 4 = some 4096 := by decide +kernel

/-- A part with entries 0 and 2 of the window table taken, and a range draining. -/
def gappy : State := up.modStc (fun c => { c with
  table := some (entry7 .filling 0 0) :: none :: some { entry7 .filling 0 0 with window := newWindow decl7 5000 }
    :: List.replicate 29 none, draining := [⟨6000, 6009, 1⟩] })

theorem witness_PackageDeclared_placed : gappy.stc.freeEntry = some 1
    ∧ gappy.stc.occupied = [⟨4096, 4144⟩, ⟨5000, 5048⟩, ⟨6000, 6010⟩] ∧ gappy.stc.status ≠ some .unavailable := by
  decide +kernel

-- The two packages of the placement example, and two reels with sound and cues one behind the other (R5, R143).
theorem test_window_layout :
    (newWindow { decl7 with slotBlocks := 64, channels := 8, reels := [⟨28800, 900⟩] } 4096).layout
        = [⟨4096, 1847296, 2192896⟩]
      ∧ (newWindow { decl7 with slotBlocks := 64, channels := 8, reels := [⟨28800, 900⟩] } 4096).limit = 2193795
      ∧ (newWindow { decl7 with slotBlocks := 2, channels := 2, reels := [⟨10, 3⟩, ⟨5, 0⟩] } 5000).layout
        = [⟨5000, 5020, 5050⟩, ⟨5053, 5063, 5078⟩]
      ∧ (newRecord { decl7 with channels := 2, reels := [⟨10, 3⟩, ⟨5, 0⟩] }).track 1 .subtitle = none
      ∧ (newRecord { decl7 with channels := 2, reels := [⟨10, 3⟩, ⟨5, 0⟩] }).track 1 .sound = some (Track.empty 5)
      ∧ (newRecord { decl7 with channels := 2, reels := [⟨10, 3⟩, ⟨5, 0⟩] }).track 0 .subtitle
        = some (Track.empty 3) := by decide +kernel

theorem witness_IngestCommands : (sent (with7 .filling 0 0) 0x21 [0, 7]).Commanded 0x21 (bs [0, 7])
    ∧ (sent (with7 .filling 1 0) 0x21 [0, 7]).stc.find 7 = some (0, entry7 .filling 1 0)
    ∧ (sent up 0x23 [1]).Commanded 0x23 (bs [1]) ∧ (sent up 0x10 []).Commanded 0x10 []
    ∧ (sent (with7 .filling 0 0) 0x22 [0, 7, 0]).Commanded 0x22 (bs [0, 7, 0])
    ∧ (entry7 .filling 0 0).record.reels[0]? = some (newTracks decl7 ⟨48, 0⟩) :=
  ⟨sent_commanded _ _ _ rfl rfl, by decide +kernel, sent_commanded _ _ _ rfl rfl,
    sent_commanded _ _ _ rfl rfl, sent_commanded _ _ _ rfl rfl, by decide +kernel⟩

theorem witness_IngestCommands_values : u8 (bs [0]) 0 = 0 ∧ u8 (bs [1]) 0 = 1 ∧ 1 < u8 (bs [2]) 0
    ∧ u16 (bs [0, 7]) 0 ≠ 0 ∧ u16 (bs [0, 0, 0]) 0 = 0 := by
  decide +kernel

theorem witness_MergeKeepsForm : Ascending [⟨0, 4⟩, ⟨8, 12⟩] ∧ (⟨4, 8⟩ : Span).lo < (⟨4, 8⟩ : Span).hi := by
  simp [Ascending]

/-- An offer of picture unit 0 of package 7 with 4 bytes. -/
def chunk7 : Chunk :=
  { id := ⟨7, 0, 0, 0, 1⟩, length := 4, payload := bs [1, 2, 3, 4],
    crc := (crc32 (bs [1, 2, 3, 4])).toNat }

/-- Its frame. -/
def frame7 : List Byte :=
  bs [1, 0, 7, 0, 0, 0, 0, 0, 0, 0, 1, 0, 0, 0, 4, 1, 2, 3, 4] ++ b32 (crc32 (bs [1, 2, 3, 4])).toNat

theorem witness_OfferJudged : parseChunk frame7 = some chunk7 ∧ parseChunk [] = none
    ∧ (with7 .filling 0 0).pka.freeSlot = some 0 ∧ judge (with7 .filling 0 0) chunk7 true = .accepted := by
  decide +kernel

/-- Package 7 with unit 0 received, or in flight. -/
def track7 (received inFlight : List Span) : State :=
  (with7 .filling 0 0).modStc (fun c => c.modRecord 7 (fun r => r.modTrack 0 .picture (fun t =>
    { t with received := received, inFlight := inFlight })))

theorem witness_OfferJudged_others : judge (track7 [⟨0, 1⟩] []) chunk7 true = .duplicate
    ∧ judge up chunk7 true = .refused .noPackage
    ∧ judge (track7 [] [⟨0, 1⟩]) chunk7 true = .deferred .overlap
    ∧ judge (with7 .filling 0 0) chunk7 false = .deferred .stagingFull
    ∧ 8 ≤ (up.modPka (fun p => { p with outstanding := 8 })).pka.outstanding := by decide +kernel

theorem witness_OfferJudged_tickets :
    (8 : Nat) ≤ (List.replicate 8 (Ticket.mk ⟨9, 0, 0, 0, 1⟩ .overlap 0 none)).length
      ∧ ∀ t ∈ List.replicate 8 (Ticket.mk ⟨9, 0, 0, 0, 1⟩ .overlap 0 none), t.chunk ≠ chunk7.id := by
  decide +kernel

theorem witness_OfferJudged_staged : trackKind chunk7.id.track = some .picture
    ∧ (track7 [] [⟨3, 4⟩]).pka.staging[1]? = some .free ∧ ((track7 [] [⟨3, 4⟩]).stc.find 7).isSome = true
    ∧ (((track7 [] [⟨3, 4⟩]).stc.find 7).bind (fun e => e.2.record.track 0 .picture)).isSome = true := by
  decide +kernel

-- The range joins those in flight by its first unit, the slot the staging order at its back (R32).
theorem test_stage :
    ((((track7 [] [⟨3, 4⟩]).stage chunk7 1).stc.find 7).bind (fun e => e.2.record.track 0 .picture)).map Track.inFlight
        = some [⟨0, 1⟩, ⟨3, 4⟩]
      ∧ ((track7 [] [⟨3, 4⟩]).stage chunk7 1).pka.order = [1]
      ∧ ((track7 [] [⟨3, 4⟩]).stage chunk7 1).pka.staging[1]? = some (.held chunk7.id chunk7.payload)
      ∧ ((track7 [] [⟨3, 4⟩]).stage chunk7 1).pka.outstanding = 1 := by decide +kernel

/-- Package 7 with a ticket for its chunk, that holds slot 2 or waits for one. -/
def ticketed (slot : Option Nat) : State :=
  (with7 .filling 0 0).modPka (fun p => { p with tickets := [⟨chunk7.id, .stagingFull, 0, slot⟩] })

theorem witness_OfferJudged_again : (ticketed (some 2)).pka.tickets = [] ++ ⟨chunk7.id, .stagingFull, 0, some 2⟩ :: []
    ∧ judge (with7 .filling 0 0) chunk7 true = .accepted ∧ (ticketed none).pka.freeSlot = some 0
    ∧ (ticketed (some 2)).pka.outstanding < 8 := by decide +kernel

theorem witness_OfferJudged_passes :
    (⟨chunk7.id, .stagingFull, 0, none⟩ : Ticket).waits ∧ ¬ (⟨chunk7.id, .overlap, 0, none⟩ : Ticket).waits := by
  unfold Ticket.waits; decide

theorem test_reoffer_takes_its_slot : leads (.chunkOffer frame7) (ticketed (some 2))
    (fun t => t.pka.tickets == [] && t.stc.flight == [⟨.chunkWrite 2, 4096, 1⟩]) = true := by decide +kernel

theorem test_offer_writes : leads (.chunkOffer frame7) (with7 .filling 0 0)
    (fun t => t.stc.flight == [⟨.chunkWrite 0, 4096, 1⟩] && t.pka.outstanding == 1) = true := by
  decide +kernel

/-- A chunk write of package 7 in flight. -/
def writing7 (orphan : Bool) : State :=
  let s := track7 [] [⟨0, 1⟩]
  let slots := Staging.writing chunk7.id chunk7.payload orphan :: List.replicate 5 .free
  let s := s.modPka (fun p => { p with outstanding := 1, staging := slots })
  s.modStc (fun c => { c with flight := [⟨.chunkWrite 0, 4096, 1⟩] })

theorem witness_WritesReturned : (writing7 false).stc.load ≠ .awaitingPort
    ∧ (writing7 false).stc.flight[0]? = some ⟨.chunkWrite 0, 4096, 1⟩
    ∧ trackKind chunk7.id.track = some .picture
    ∧ (writing7 false).pka.staging[0]? = some (.writing chunk7.id chunk7.payload false)
    ∧ (writing7 true).pka.staging[0]? = some (.writing chunk7.id chunk7.payload true) := by decide +kernel

/-- A part whose soft reset's load waits for the port. -/
def discarding (s : State) : State := s.modStc (fun c => { c with load := .awaitingPort })

theorem witness_WritesReturned_discarded : (discarding (writing7 false)).pin = false
    ∧ (discarding (writing7 false)).stc.load = .awaitingPort
    ∧ (discarding (writing7 false)).stc.flight[0]? = some ⟨.chunkWrite 0, 4096, 1⟩
    ∧ (discarding lively).stc.load = .awaitingPort ∧ (discarding lively).pin = false
    ∧ (discarding lively).stc.flight[0]? = some ⟨.slotWrite 0 false, 64, 1⟩ := by decide +kernel

theorem test_discarded_return : leads (.chunkWriteReturn 0 true) (discarding (writing7 false))
    (fun t => t.pka.staging == List.replicate 6 .free && t.pka.outstanding == 1
      && t.out.all (fun x => match x with | .verdict .. => false | _ => true)) = true := by decide +kernel

theorem witness_WritesReturned_taken : ((writing7 false).stc.find 7).isSome = true
    ∧ (((writing7 false).stc.find 7).bind (fun e => e.2.record.track 0 .picture)).isSome = true := by
  decide +kernel

theorem witness_WritesReturned_slot : lively.stc.flight[0]? = some ⟨.slotWrite 0 false, 64, 1⟩
    ∧ lively.stc.load ≠ .awaitingPort ∧ lively.pin = false ∧ (∀ q ∈ lively.stc.queue, q.slot ≠ 0)
    ∧ (∃ q ∈ (lively.stc.requeue 0).queue, q.slot = 0)
    ∧ (with7 .filling 0 0).stc.table[0]? = some (some (entry7 .filling 0 0)) := by decide +kernel

/-- Storage with a read of package 7's window and one of a draining range in flight. -/
def flying (ops : Nat) : Storage :=
  { (with7 .filling 1 2).stc with flight := [⟨.chunkWrite 0, 4096, 1⟩, ⟨.cueRead 0 0 .bankA 0 0 0, 6003, 1⟩],
                                  draining := [⟨6000, 6009, ops⟩, ⟨7000, 7009, 3⟩] }

theorem witness_WritesReturned_port : (flying 1).flight[0]? = some ⟨.chunkWrite 0, 4096, 1⟩
    ∧ (flying 1).flight[1]? = some ⟨.cueRead 0 0 .bankA 0 0 0, 6003, 1⟩ := by decide +kernel

-- The window's count falls; the draining range's too, and with its last operation it is gone (R1, R9).
theorem test_returned_counts : (((flying 1).returned 0 ⟨.chunkWrite 0, 4096, 1⟩).find 7).map (fun e => e.2.window.ops)
        = some 1
      ∧ ((flying 1).returned 0 ⟨.chunkWrite 0, 4096, 1⟩).draining = (flying 1).draining
      ∧ ((flying 2).returned 1 ⟨.cueRead 0 0 .bankA 0 0 0, 6003, 1⟩).draining = [⟨6000, 6009, 1⟩, ⟨7000, 7009, 3⟩]
      ∧ ((flying 1).returned 1 ⟨.cueRead 0 0 .bankA 0 0 0, 6003, 1⟩).draining = [⟨7000, 7009, 3⟩]
      ∧ ((flying 1).returned 1 ⟨.cueRead 0 0 .bankA 0 0 0, 6003, 1⟩).flight = [⟨.chunkWrite 0, 4096, 1⟩] := by
  decide +kernel

theorem test_chunk_taken : leads (.chunkWriteReturn 0 true) (writing7 false)
    (fun t => t.out == [.verdict chunk7.id .taken false] && t.pka.outstanding == 0) = true := by
  decide +kernel

/-- A part of package 7 with its first unit in flight and others received, L2 stalled on it, and some chunks TAKEN
since a checkpoint. -/
def landing (received : List Span) (since : Nat) : State :=
  ((track7 received [⟨0, 1⟩]).modStc (fun c => c.modRecord 7 (fun r =>
    { (r.modTrack 0 .picture (fun t => { t with stalled := [2] })) with takenSince := since }))).modFetch 2
      (fun f => { f with state := .stalled })

theorem witness_WritesReturned_checkpoint : ((landing [⟨1, 48⟩] 5).stc.find 7).map (fun e => (e.2.window.state,
      e.2.record.takenSince)) = some (.filling, 5)
    ∧ (((landing [⟨1, 48⟩] 5).chunkTaken chunk7.id .picture).stc.find 7).map (fun e => e.2.record.complete) = some true
    ∧ (((landing [] 63).chunkTaken chunk7.id .picture).stc.find 7).map (fun e => e.2.record.complete) = some false
    ∧ (landing [] 63).stc.status ≠ some .unavailable ∧ (landing [] 63).stc.queue = [] := by decide +kernel

-- The stalled lane goes on, the 64th TAKEN asks for the slot's write, and the last unit completes (R35, R42, R43, R46).
theorem test_chunk_landed :
    (((landing [] 5).chunkTaken chunk7.id .picture).lane 2).pl.fetch.state = .running
      ∧ ((landing [] 5).chunkTaken chunk7.id .picture).stc.queue = []
      ∧ ((landing [] 63).chunkTaken chunk7.id .picture).stc.queue = [⟨0, false⟩]
      ∧ (((landing [] 63).chunkTaken chunk7.id .picture).stc.find 7).map (fun e => e.2.record.takenSince) = some 0
      ∧ (((landing [⟨1, 48⟩] 5).chunkTaken chunk7.id .picture).stc.find 7).map (fun e => e.2.window.state)
        = some .complete
      ∧ ((landing [⟨1, 48⟩] 5).chunkTaken chunk7.id .picture).ntu.raised.getLsbD 36 = true
      ∧ ((landing [⟨1, 48⟩] 5).chunkTaken chunk7.id .picture).stc.queue = [⟨0, false⟩] := by decide +kernel

-- A released package's write that faults raises INGEST_FAULT and is answered NO_PACKAGE (R22, R44).
theorem test_orphan_fault : leads (.chunkWriteReturn 0 false) (writing7 true)
    (fun t => t.ntu.raised.getLsbD 38 && t.out == [.verdict chunk7.id (.refused .noPackage) false]) = true := by
  decide +kernel

/-- A ticket 8,000 ticks old. -/
def aged : State :=
  let s := up.modPka (fun p => { p with tickets := [⟨chunk7.id, .overlap, 0, none⟩] })
  { s with clock := { s.clock with ticks := 8000, now := 1200000000 } }

theorem witness_TicketsExpire : aged.pin = false ∧ aged.ticketDue = true
    ∧ aged.lastBase < aged.takenAt 1200000001 := by decide +kernel

theorem test_ticket_not_due :
    ({ aged with clock := { aged.clock with ticks := 7999 } } : State).ticketDue = false := by decide +kernel

/-! ### A fetcher's one move -/

/-- The COMPOSITION item of package 7, second in the queue. -/
def second7 : Item := { item7 false false with uid := 1 }

/-- L0 with a queue and its fetcher RUNNING at a cursor. -/
def fetcherAt (s : State) (queue : List Item) (cursor : Cursor) : State :=
  s.modPl 0 (fun p => { p with queue := queue, fetch := { p.fetch with state := .running, cursor := some cursor } })

/-- L0's fetcher behind a BLACK item. -/
def behindBlack (s : State) : State := fetcherAt s [itemBlack 0, second7] (.afterItem 0)

/-- L0's fetcher at frame 0 of package 7's item, its reel in hand, some of its units received. -/
def atFrame (received : List Span) : State :=
  fetcherAt (track7 received []) [item7 true false] (.frameOf 0 ⟨0, 0, 0⟩ true)

theorem witness_SettlingLeavesAlone_items : ((behindBlack house).lane 0).pl.fetch.state = .running
    ∧ ((behindBlack house).lane 0).pl.fetch.work = .nothing
    ∧ ((behindBlack house).lane 0).pl.fetch.cursor = some (.afterItem 0)
    ∧ ((behindBlack house).lane 0).pl.itemAfter 0 = some second7
    ∧ ((fetcherAt house [itemBlack 0] (.afterItem 0)).lane 0).pl.itemAfter 0 = none
    ∧ second7.blocked = none ∧ second7.promoted = false ∧ second7.licence = some 3 ∧ second7.package = some 7
    ∧ promotionFailure (behindBlack house) 3 7 = none
    ∧ promotionFailure (behindBlack (with7 .filling 1 0)) 3 7 = some .timeUnset
    ∧ (itemBlack 1).licence = none ∧ (item7 true false).promoted = true := by decide +kernel

theorem witness_SettlingLeavesAlone_frames : ((atFrame []).lane 0).pl.fetch.cursor = some (.frameOf 0 ⟨0, 0, 0⟩ true)
    ∧ ((atFrame []).lane 0).pl.item 0 = some (item7 true false) ∧ (itemBlack 0).package = none
    ∧ ((atFrame []).lane 0).pl.buffer.length < 48 ∧ ((atFrame []).lane 0).pl.fetch.inHand.length < 2
    ∧ frameReady (atFrame [⟨0, 1⟩]) 7 0 0 = .ready ∧ frameReady (atFrame []) 7 0 0 = .missing [.picture]
    ∧ ((atFrame []).stc.find 7).isSome = true
    ∧ (((atFrame []).stc.find 7).bind (fun e => e.2.record.track 0 .picture)).isSome = true
    ∧ (((atFrame []).stc.find 7).bind (fun e => e.2.record.reels[0]?)).isSome = true
    ∧ ((houseIn .cueing).lane 0).pl.buffered < ((houseIn .cueing).lane 0).pl.set.lowMark
    ∧ up.stc.flight.length < 8 ∧ up.fetchers.decide = none := by decide +kernel

-- The item behind the cursor is promoted and the cursor moves to it, or it is BLOCKED and counted (R90).
theorem test_fetch_takes_up :
    ((behindBlack house).fetchOnce 0).1.shc.reservations.get 0 = [{ reservation3 .promoted with screen := some 0 }]
      ∧ (((behindBlack house).fetchOnce 0).1.lane 0).pl.fetch.cursor = some (.frameOf 1 ⟨0, 0, 0⟩ false)
      ∧ (((behindBlack (with7 .filling 1 0)).fetchOnce 0).1.lane 0).pl.fetch.state = .blocked
      ∧ (((behindBlack (with7 .filling 1 0)).fetchOnce 0).1.lane 0).pl.queue.map Item.blocked = [none, some .timeUnset]
      ∧ (((behindBlack (with7 .filling 1 0)).fetchOnce 0).1.lane 0).pl.stats.refused = 1
      ∧ (((fetcherAt house [itemBlack 0] (.afterItem 0)).fetchOnce 0).1.lane 0).pl.fetch.state = .done := by
  decide +kernel

-- A present frame takes slot 0 READING with its picture read; a missing one stalls the lane on its track (R46, R88).
theorem test_fetch_frame :
    (((atFrame [⟨0, 1⟩]).fetchOnce 0).1.lane 0).pl.buffer = [newSlot 0 (item7 true false) ⟨0, 0, 0⟩]
      ∧ (((atFrame [⟨0, 1⟩]).fetchOnce 0).1.lane 0).pl.fetch.work = .picture 0 false
      ∧ (((atFrame []).fetchOnce 0).1.lane 0).pl.fetch.state = .stalled
      ∧ (((atFrame []).fetchOnce 0).1.lane 0).pl.stats.stalls = 1
      ∧ ((((atFrame []).fetchOnce 0).1.stc.find 7).bind (fun e => e.2.record.track 0 .picture)).map Track.stalled
        = some [0] := by decide +kernel

-- A BLACK item's five frames are READY and the fetcher DONE; a DONE fetcher is the lane's cue point (R88, R94).
theorem test_fetch_black_cued :
    (((fetcherAt house [itemBlack 0] (.frameOf 0 ⟨0, 0, 0⟩ false)).fetchAll 0 128).lane 0).pl.buffer.map
        (fun b => (b.num, b.pos.frame, b.stage))
      = [(0, 0, .ready), (1, 1, .ready), (2, 2, .ready), (3, 3, .ready), (4, 4, .ready)]
      ∧ ((((fetcherAt house [itemBlack 0] (.afterItem 0)).modPl 0 (fun p => { p with state := .cueing })).settle.lane
        0).pl.state) = .cued
      ∧ ((fetcherAt house [itemBlack 0] (.afterItem 0)).modPl 0 (fun p =>
        { p with state := .cueing })).settle.ntu.raised.getLsbD 0 = true := by decide +kernel

/-! ### Reads, the arbiter and its grants -/

/-- A lane read, or a cue read, of L0 in flight. -/
def reading (k : OpKind) : State := (houseIn .cued).modStc (fun c => { c with flight := [⟨k, 4096, 1⟩] })

theorem witness_ReadsReturn :
    (reading (.laneRead 0 0 0 0 0 false)).stc.flight[0]? = some ⟨.laneRead 0 0 0 0 0 false, 4096, 1⟩
      ∧ (reading (.cueRead 0 0 .bankA 0 0 0)).stc.flight[0]? = some ⟨.cueRead 0 0 .bankA 0 0 0, 4096, 1⟩
      ∧ 0 = (((reading (.laneRead 0 0 0 0 0 false)).takeAt 0).lane 0).pl.fetch.epoch
      ∧ 1 ≠ (((reading (.laneRead 0 1 0 0 0 false)).takeAt 0).lane 0).pl.fetch.epoch
      ∧ 0 = ((houseIn .cued).lane 0).pl.fetch.epoch ∧ 1 ≠ ((houseIn .cued).lane 0).pl.fetch.epoch
      ∧ (houseIn .cued).stc.load ≠ .awaitingPort ∧ State.reset.stc.load = .awaitingPort := by decide +kernel

/-- Slot 0 of L0's buffer READING frame 0 of package 7's item. -/
def awaited : State :=
  (houseIn .cueing).modPl 0 (fun p => { p with buffer := [newSlot 0 (item7 true false) ⟨0, 0, 0⟩] })

theorem witness_ReadsReturn_slot : awaited.slotSource 0 0
      = some (newSlot 0 (item7 true false) ⟨0, 0, 0⟩, item7 true false, entry7 .filling 1 0)
    ∧ (newSlot 0 (item7 true false) ⟨0, 0, 0⟩).stage = .reading := by decide +kernel

/-- An engine whose bank A is LOADING a reel with reads to come. -/
def loadingBank (awaiting : Nat) : CueEngine :=
  { CueEngine.reset with
    bankA := { Bank.empty with state := .loading, reel := some (0, 0), frames := 2000, awaiting := awaiting } }

theorem witness_ReadsReturn_bank : ((loadingBank 2).bank .bankA).state = .loading
    ∧ ((loadingBank 2).bank .bankA).reel = some (0, 0) ∧ 1 < ((loadingBank 2).bank .bankA).awaiting
    ∧ ((loadingBank 1).bank .bankA).awaiting = 1 ∧ (CueEngine.reset.bank .bankA).state ≠ .loading
    ∧ BankId.bankB ≠ .bankA := by decide +kernel

-- A fault is a bad cue though the bank has gone (R148).
theorem test_cue_fault_bad : (CueEngine.reset.cueReturn .bankA 0 0 3 .fault).bad = 1
    ∧ ((loadingBank 1).cueReturn .bankA 0 0 0 .fault).bankA.state = .loaded := by decide +kernel

theorem test_lane_read_ready : ((awaited.readInto 0 0 0 0 false (.data (bs [0, 0, 0, 2, 9, 9]))).lane 0).pl.buffer.map
      (fun b => (b.stage, b.faulted)) = [(.ready, false)]
    ∧ ((awaited.readInto 0 0 0 0 false (.data [])).lane 0).pl.stats.readFaults = 1 := by decide +kernel

/-- L2 with a read waiting, PKA waiting, and a guard count. -/
def arbitrating (guard : Nat) : State :=
  let s := up.modFetch 2 (fun f => { f with work := .picture 0 false })
  { s with stc := { s.stc with guard := guard }, pka := { s.pka with order := [3] } }

theorem witness_ArbiterTiers : (arbitrating 15).stc.guard < 16 ∧ (arbitrating 15).laneWaits 2 = true
    ∧ ((arbitrating 15).lane 2).pl.buffered < ((arbitrating 15).lane 2).pl.set.lowMark
    ∧ 16 ≤ (arbitrating 16).stc.guard ∧ (arbitrating 16).pka.order = 3 :: [] := by decide +kernel

theorem test_arbiter_guard : (arbitrating 15).decide = some (.lane 2)
    ∧ (arbitrating 16).decide = some (.chunk 3) := by decide +kernel

/-- Package 101 of the placement example: 24 frames a second, P 64, 8 channels, 28,800 frames and 900 cues (R5). -/
def decl101 : Declaration :=
  { packageId := 101, rate := 24, slotBlocks := 64, channels := 8, licenceRequired := false,
    reels := [⟨28800, 900⟩] }

/-- Its COMPOSITION item. -/
def item101 : Item :=
  { uid := 0, kind := .composition 101 0 0 none, promoted := true, begun := false, blocked := none,
    rate := 24, channels := 8, reelFrames := [28800] }

/-- Its first cue's chunk. -/
def chunk101 : ChunkId := { packageId := 101, reel := 0, track := 2, first := 10, count := 1 }

/-- That package on L0, with frame 1,000 READING, a read before the arbiter, and a HELD chunk of one track. -/
def placed (work : Work) (track : Nat) : State :=
  let e : TableEntry := { window := newWindow decl101 4096, record := newRecord decl101 }
  let s := up.modStc (fun c => { c with table := some e :: List.replicate 31 none, queue := [⟨0, false⟩, ⟨3, true⟩] })
  let s := s.modPl 0 (fun p => { p with queue := [item101], buffer := [newSlot 0 item101 ⟨1000, 0, 1000⟩],
                                        fetch := { p.fetch with work := work } })
  let s := s.modSce 0 (fun e => { e with bankA := { e.bankA with reel := some (0, 0) } })
  s.modPka (fun p => { p with staging := .held { chunk101 with track := track } (bs [1, 2, 3]) :: p.staging.tail,
                              order := [0, 1] })

theorem witness_ArbiterTiers_grants :
    ((placed (.picture 0 true) 0).slotSource 0 0).map (fun x => (x.1.pos, x.2.1, x.2.2.window.layout))
        = some (⟨1000, 0, 1000⟩, item101, [⟨4096, 1847296, 2192896⟩])
      ∧ ((placed (.cues .bankA 10 900) 0).lane 0).pl.fetch.work = .cues .bankA 10 900
      ∧ (((placed (.cues .bankA 10 900) 0).lane 0).sce.bank .bankA).reel = some (0, 0)
      ∧ ((placed (.cues .bankA 10 900) 0).lane 0).pl.item 0 = some item101 ∧ item101.package = some 101
      ∧ ((placed .nothing 0).stc.find 101).isSome = true ∧ (placed .nothing 0).stc.table[3]? = some none
      ∧ (placed .nothing 2).pka.staging[0]? = some (.held chunk101 (bs [1, 2, 3])) := by decide +kernel

-- Picture unit 1,000 begins at 68,096, sound unit 1,000 at 1,859,296, and cue 10 is at 2,192,906 (R5, its example).
theorem test_grant_reads :
    ((placed (.picture 0 true) 0).grant (.lane 0)).out = [.storageRead 68096 64]
      ∧ (((placed (.picture 0 true) 0).grant (.lane 0)).lane 0).pl.fetch.work = .sound 0
      ∧ ((placed (.sound 0) 0).grant (.lane 0)).out = [.storageRead 1859296 12]
      ∧ ((placed (.cues .bankA 10 900) 0).grant (.lane 0)).out = [.storageRead 2192906 1]
      ∧ (((placed (.cues .bankA 10 900) 0).grant (.lane 0)).lane 0).pl.fetch.work = .cues .bankA 11 900 := by
  decide +kernel

-- Picture unit 10 is at 4,096 + 640, sound unit 10 at 1,847,296 + 120; slot 3 of the catalogue is at 256 (R15, R34).
theorem test_grant_writes :
    ((placed .nothing 0).grant (.chunk 0)).stc.flight = [⟨.chunkWrite 0, 4736, 1⟩]
      ∧ ((placed .nothing 1).grant (.chunk 0)).stc.flight = [⟨.chunkWrite 0, 1847416, 12⟩]
      ∧ ((placed .nothing 2).grant (.chunk 0)).stc.flight = [⟨.chunkWrite 0, 2192906, 1⟩]
      ∧ ((placed .nothing 0).grant (.catalogue ⟨3, true⟩)).stc.flight = [⟨.slotWrite 3 true, 256, 1⟩]
      ∧ ((placed .nothing 0).grant (.catalogue ⟨3, true⟩)).stc.queue = [⟨0, false⟩] := by decide +kernel

theorem test_grant_counts :
    (((placed (.picture 0 true) 0).grant (.lane 0)).stc.find 101).map (fun e => e.2.window.ops) = some 1
      ∧ (((placed .nothing 1).grant (.chunk 0)).stc.find 101).map (fun e => e.2.window.ops) = some 1
      ∧ (((placed .nothing 0).grant (.catalogue ⟨0, false⟩)).stc.find 101).map (fun e => e.2.window.ops) = some 0 := by
  decide +kernel

/-- No lane waits below its low mark: a catalogue request, a staged chunk, or two stocked lanes' reads wait. -/
def calm (queue : List SlotRequest) (order : List Nat) (work : Work) : State :=
  let s := (up.modFetch 1 (fun f => { f with work := work })).modFetch 3 (fun f => { f with work := work })
  let s := s.modPl 1 (fun p => { p with set := { p.set with lowMark := 0 } })
  let s := s.modPl 3 (fun p => { p with set := { p.set with lowMark := 0 } })
  (s.modStc (fun c => { c with queue := queue })).modPka (fun p => { p with order := order })

theorem witness_ArbiterTiers_lower :
    (∀ l, (calm [⟨5, false⟩] [4] (.picture 0 false)).laneWaits l = true →
      ((calm [⟨5, false⟩] [4] (.picture 0 false)).lane l).pl.set.lowMark
        ≤ ((calm [⟨5, false⟩] [4] (.picture 0 false)).lane l).pl.buffered)
    ∧ (calm [⟨5, false⟩] [4] (.picture 0 false)).stc.catalogueRequest = some ⟨5, false⟩
    ∧ (calm [⟨5, false⟩] [4] (.picture 0 false)).stc.guard < 16
    ∧ (calm [] [4] (.picture 0 false)).stc.catalogueRequest = none
    ∧ (calm [] [] (.picture 0 false)).laneWaits 3 = true
    ∧ (∀ l, (calm [] [] .nothing).laneWaits l = false) := by decide +kernel

theorem test_arbiter_lower : (calm [⟨5, false⟩] [4] (.picture 0 false)).decide = some (.catalogue ⟨5, false⟩)
    ∧ (calm [] [4] (.picture 0 false)).decide = some (.chunk 4)
    ∧ (calm [] [] (.picture 0 false)).decide = some (.lane 1) ∧ (calm [] [] .nothing).decide = none := by
  decide +kernel

/-! ### Licences and showings -/

/-- The body that loads licence 3. -/
def licenceBody : List Nat := [0, 3, 0, 7, 0, 0, 0, 100, 0, 0, 0, 200, 0, 2, 0, 1, 50]

theorem witness_LicenceLoaded : (sent up 0x30 licenceBody).Commanded 0x30 (bs licenceBody)
    ∧ (bs licenceBody).length = 17 ∧ loadedLicence (bs licenceBody) = licence3
    ∧ (loadedLicence (bs licenceBody)).id ≠ 0 ∧ (loadedLicence (bs licenceBody)).packageId ≠ 0
    ∧ (loadedLicence (bs licenceBody)).notBefore ≤ (loadedLicence (bs licenceBody)).notAfter :=
  ⟨sent_commanded _ _ _ rfl rfl, by decide +kernel⟩

theorem witness_LicenceLoaded_table : up.shc.heldOf 3 = 0 ∧ up.shc.openOf 3 = false
    ∧ up.shc.licences.length < 64 ∧ (house.shc.find 3).isSome = true ∧ house.shc.heldOf 3 = 0 := by
  decide +kernel

theorem witness_LicenceRevoked : (sent house 0x31 [0, 3, 0]).Commanded 0x31 (bs [0, 3, 0])
    ∧ (ripe house 0x31 [0, 3, 0]).shc.find (u16 (bs [0, 3, 0]) 0) = some licence3
    ∧ u16 (bs [0, 3, 0]) 0 ≠ 0 ∧ (ripe house 0x31 [0, 3, 0]).shc.heldOf 3 = 0
    ∧ 0 < (ripe (houseIn .cued) 0x31 [0, 3, 0]).shc.heldOf 3 ∧ u8 (bs [0, 3, 1]) 2 = 1
    ∧ (ripe (houseIn .cued) 0x31 [0, 3, 1]).shc.uses 3 0 = true ∧ u16 (bs [0, 0, 1]) 0 = 0 :=
  ⟨sent_commanded _ _ _ rfl rfl, by decide +kernel⟩

theorem witness_LicenceLoaded_states : { licence3 with revoked := true }.revoked = true
    ∧ licence3.revoked = false ∧ licence3.notAfter < 201 ∧ 200 ≤ licence3.notAfter ∧ 0 < licence3.maxShowings
    ∧ { licence3 with count := 2 }.count = { licence3 with count := 2 }.maxShowings
    ∧ licence3.count ≠ licence3.maxShowings ∧ { licence3 with maxShowings := 0 }.maxShowings = 0 := by decide

-- Expiry stands before SPENT; the last second of the window is inside it (R52).
theorem test_licence_states : { licence3 with count := 2 }.state (some 201) = .expired
    ∧ { licence3 with count := 2 }.state (some 200) = .spent ∧ licence3.state none = .valid
    ∧ { licence3 with revoked := true }.state (some 201) = .revoked := by decide

-- Max showings 10,000, count 60,000 and percent 0 (R53).
theorem test_licence_clamps :
    loadedLicence (bs [0, 3, 0, 7, 0, 0, 0, 100, 0, 0, 0, 200, 0x27, 0x10, 0xEA, 0x60, 0])
      = { licence3 with maxShowings := 9999, count := 9999, percent := 1 } := by decide +kernel

theorem test_promotion : promotionFailure house 3 7 = none ∧ promotionFailure house 3 8 = some .badValue
    ∧ promotionFailure up 3 7 = some .timeUnset ∧ promotionFailure (houseIn .cued) 3 7 = some .licenceSpent := by
  decide +kernel

/-- Record 1 of a showing of licence 3 with a number of real frames. -/
def showing3 (real : Nat) : ShowRecord :=
  { seq := 1, licenceId := 3, packageId := 7, lane := 0, screen := some 0, rehearsal := false,
    start := some 150, qualify := none, ended := none, real := real, fill := 0, outcome := .opened,
    cause := none }

/-- A part with that showing, in a mode. -/
def playingShow (real : Nat) (mode : Mode) : State :=
  { house with shc := { house.shc with reservations := ⟨[reservation3 (.showing 1)], [], [], []⟩,
                                       log := [showing3 real], nextSeq := 2, mode := mode } }

theorem witness_ShowingQualifies :
    (playingShow 23 .live).shc.reservations.get 0 = reservation3 (.showing 1) :: []
      ∧ (playingShow 23 .live).shc.log.find? (fun y => y.seq == 1) = some (showing3 23)
      ∧ satInc top32 (showing3 23).real = (reservation3 (.showing 1)).mark
      ∧ satInc top32 (showing3 22).real ≠ (reservation3 (.showing 1)).mark
      ∧ (playingShow 23 .live).shc.find 3 = some licence3
      ∧ (playingShow 23 .rehearsal).shc.mode = .rehearsal := by decide +kernel

theorem test_qualify_counts : ((playingShow 23 .live).showReal 0).shc.find 3 = some { licence3 with count := 2 }
    ∧ ((playingShow 22 .live).showReal 0).shc.find 3 = some licence3 := by decide +kernel

/-- A part with a PROMOTED reservation of licence 3 with a qualify mark. -/
def promoted (mark : Nat) : State :=
  let s := playingShow 1 .live
  { s with shc := { s.shc with reservations := ⟨[{ reservation3 .promoted with mark := mark }], [], [], []⟩,
                               log := [{ showing3 9 with outcome := .short }] } }

theorem witness_ShowingQualifies_created : (promoted 1).LogBounded
    ∧ (promoted 1).shc.reservations.get 0 = { reservation3 .promoted with mark := 1 } :: []
    ∧ ({ reservation3 .promoted with mark := 1 } : Reservation).stage = .promoted ∧ (promoted 1).shc.mode = .live
    ∧ (promoted 24).shc.reservations.get 0 = reservation3 .promoted :: [] ∧ (reservation3 .promoted).mark ≠ 1
    ∧ (playingShow 1 .live).shc.reservations.get 0 = reservation3 (.showing 1) :: []
    ∧ (reservation3 (.qualified 1)).stage = .qualified 1 := by
  unfold State.LogBounded; decide +kernel

-- The first real frame makes record 2; a mark of 1 counts at once (R60, R62).
theorem test_record_created : ((promoted 24).showReal 0).shc.log.map (fun x => (x.seq, x.real, x.qualify))
      = [(1, 9, none), (2, 1, none)]
    ∧ ((promoted 1).showReal 0).shc.log.map (fun x => (x.seq, x.real, x.qualify)) = [(1, 9, none), (2, 1, some 150)]
    ∧ ((promoted 1).showReal 0).shc.find 3 = some { licence3 with count := 2 }
    ∧ ((playingShow 1 .live).showFill 0).shc.log.map ShowRecord.fill = [1] := by decide +kernel

theorem witness_ShowingCommands : (sent house 0x32 [0, 3]).Commanded 0x32 (bs [0, 3])
    ∧ (sent (playingShow 1 .live) 0x33 [0, 0, 0, 1, 8]).Commanded 0x33 (bs [0, 0, 0, 1, 8])
    ∧ (sent (playingShow 1 .live) 0x34 [0, 0, 0, 1]).Commanded 0x34 (bs [0, 0, 0, 1])
    ∧ (sent up 0x35 []).Commanded 0x35 [] :=
  ⟨sent_commanded _ _ _ rfl rfl, sent_commanded _ _ _ rfl rfl, sent_commanded _ _ _ rfl rfl,
    sent_commanded _ _ _ rfl rfl⟩

theorem witness_ShowingCommands_values : u16 (bs [0, 3]) 0 ≠ 0 ∧ 1 < (playingShow 1 .live).shc.nextSeq
    ∧ u32 (bs [0, 0, 0, 1, 8]) 0 < (playingShow 1 .live).shc.nextSeq ∧ up.shc.mode = .rehearsal
    ∧ ∀ l, (up.lane l).pl.state = .idle := by decide +kernel

theorem test_collect_keeps_open : leads .collectLog (sent (playingShow 1 .live) 0x34 [0, 0, 0, 9])
    (fun t => replyOf t == some (.done (.collected 0 1)) && t.shc.log.length == 1) = true := by decide +kernel

/-- Records 1 and 2 closed, and 3 open. -/
def logged : Showings :=
  { (playingShow 1 .live).shc with
    log := [{ showing3 1 with outcome := .short }, { showing3 1 with seq := 2, outcome := .complete },
            { showing3 1 with seq := 3 }], nextSeq := 4 }

theorem test_collected : (logged.collected 1).log.map ShowRecord.seq = [2, 3]
    ∧ (logged.collected 3).log.map ShowRecord.seq = [3] := by decide +kernel

/-! ### Lane commands -/

theorem witness_LaneAssigned : (sent up 0x40 [0, 0]).Commanded 0x40 (bs [0, 0])
    ∧ u8 (bs [0, 0]) 0 = (0 : LaneId).val ∧ ((ripe up 0x40 [0, 0]).lane 0).pl.state ≠ .resetting
    ∧ screenField (u8 (bs [0, 0]) 1) = some (some 0) ∧ ((ripe up 0x40 [0, 0]).lane 0).pl.screen = some 0
    ∧ screenField (u8 (bs [0, 255]) 1) = some none ∧ ((ripe up 0x40 [0, 255]).lane 0).pl.screen ≠ none :=
  ⟨sent_commanded _ _ _ rfl rfl, by decide +kernel⟩

/-- A part with L1 unbound, so that screen S1 is free. -/
def freeScreen : State := up.modPl 1 (fun p => { p with screen := none })

theorem witness_LaneAssigned_move : screenField (u8 (bs [0, 1]) 1) = some (some 1)
    ∧ ((ripe freeScreen 0x40 [0, 1]).lane 0).pl.screen ≠ some 1
    ∧ (ripe freeScreen 0x40 [0, 1]).takenElsewhere 0 1 = false := by decide +kernel

theorem test_assign_moves : leads (.assignLane 0) (sent freeScreen 0x40 [0, 1])
    (fun t => (t.lane 0).pl.screen == some 1 && t.held.get 1 && (t.lane 0).pl.state == .idle) = true := by
  decide +kernel

theorem witness_ScreenHeld : (sent (houseIn .playing) 0x41 [0]).Commanded 0x41 (bs [0])
    ∧ ((ripe (houseIn .playing) 0x41 [0]).lane 0).pl.screen = some 0
    ∧ (ripe (houseIn .playing) 0x41 [0]).screenHeld 0 = false
    ∧ ((ripe (houseIn .playing) 0x41 [0]).lane 0).pl.state ≠ .resetting :=
  ⟨sent_commanded _ _ _ rfl rfl, by decide +kernel⟩

-- The stop's CLEAR and that of the entry to HOLD are both sent (R77).
theorem test_hold_clears_twice : leads (.holdScreen 0) (sent (houseIn .playing) 0x41 [0])
    (fun t => t.out == [.screen 0 .clear, .screen 0 .clear] && t.held.get 0) = true := by decide +kernel

/-- A part with L0 RESETTING. -/
def resettingLane : State := up.modPl 0 (fun p => { p with state := .resetting })

theorem witness_ScreenReleased : (sent up 0x42 [0]).Commanded 0x42 (bs [0]) ∧ (bs [0]).length = 1
    ∧ u8 (bs [0]) 0 = (0 : LaneId).val ∧ (resettingLane.lane 0).pl.state = .resetting
    ∧ (freeScreen.lane 1).pl.screen = none ∧ u8 (bs [1]) 0 = (1 : LaneId).val
    ∧ (up.lane 0).pl.screen = some 0 ∧ house.held.get 0 = false ∧ (up.lane 0).pl.state = .idle :=
  ⟨sent_commanded _ _ _ rfl rfl, by decide +kernel⟩

theorem witness_QueueEdited_black : (sent up 0x43 [0, 1, 0, 5]).Commanded 0x43 (bs [0, 1, 0, 5])
    ∧ (up.lane 0).pl.queue.length < 16 ∧ (bs [0, 1, 0, 5]).length = 4 ∧ u8 (bs [0, 1, 0, 5]) 1 = 1
    ∧ (bs [0, 2]).length = 2 ∧ u8 (bs [0, 2]) 1 = 2 :=
  ⟨sent_commanded _ _ _ rfl rfl, by decide +kernel⟩

/-- The body that appends package 7 under licence 3 to L0. -/
def appendBody : List Nat := [0, 0, 0, 7, 0, 0, 0, 3]

theorem witness_QueueEdited_composition : (bs appendBody).length = 8 ∧ u8 (bs appendBody) 1 = 0
    ∧ (with7 .filling 0 0).stc.find (u16 (bs appendBody) 2) = some (0, entry7 .filling 0 0)
    ∧ u16 (bs appendBody) 2 ≠ 0
    ∧ u8 (bs appendBody) 4 ≤ u8 (bs appendBody) 5 ∧ u8 (bs appendBody) 5 < decl7.reels.length
    ∧ u16 (bs appendBody) 6 ≠ 0 ∧ ((with7 .filling 0 0).lane 0).pl.queueRate = none
    ∧ decl7.licenceRequired = true := by decide +kernel

/-- Package 7 declared to need no licence. -/
def free7 : State := (with7 .filling 0 0).modStc (fun c => c.modRecord 7 (fun r =>
  { r with decl := { r.decl with licenceRequired := false } }))

theorem test_append_unlicensed : leads .appendItem (sent free7 0x43 [0, 0, 0, 7, 0, 0, 0, 0])
    (fun t => (t.lane 0).pl.queue.map Item.kind == [.composition 7 0 0 none]) = true := by decide +kernel

theorem witness_QueueEdited_remove : (sent house 0x44 [0, 0]).Commanded 0x44 (bs [0, 0])
    ∧ (house.lane 0).pl.queue[0]? = some (item7 false false)
    ∧ ((houseIn .cued).lane 0).pl.queue[0]? = some (item7 true false)
    ∧ (sent house 0x45 [0]).Commanded 0x45 (bs [0]) :=
  ⟨sent_commanded _ _ _ rfl rfl, by decide +kernel, by decide +kernel, sent_commanded _ _ _ rfl rfl⟩

theorem test_remove_drops_reference : leads .removeItem (sent house 0x44 [0, 0])
    (fun t => ((t.stc.find 7).map (fun e => e.2.window.refs)) == some 0 && (t.lane 0).pl.queue == []) = true := by
  decide +kernel

/-- The part whose package 7 is RETIRING, with some operations on its port. -/
def retiring7 (ops : Nat) : State :=
  house.modStc (fun c => c.modWindow 7 (fun w => { w with state := .retiring, ops := ops }))

theorem witness_QueueEdited_dropped : house.stc.find 7 = some (0, entry7 .filling 1 0)
    ∧ (retiring7 2).stc.find 7 = some (0, entry7 .retiring 1 2)
    ∧ ((retiring7 2).lane 0).pl.queue.countP (fun x => true && x.package == some 7) = 1
    ∧ (retiring7 2).stc.status ≠ some .unavailable ∧ (retiring7 2).stc.queue = [] := by decide +kernel

theorem witness_QueueEdited_alone (j : Nat) (e : TableEntry) (h : (retiring7 2).stc.table[j]? = some (some e)) :
    j = 0 := by
  have ht : (retiring7 2).stc.table = some (entry7 .retiring 1 2) :: List.replicate 31 none := by decide +kernel
  rw [ht] at h
  cases j with
  | zero => rfl
  | succ n =>
    rw [List.getElem?_cons_succ, List.getElem?_replicate] at h
    split at h <;> cases h

-- The last reference to a RETIRING window releases it: its blocks drain and its slot is to be written (R6, R8, R9).
theorem test_clear_releases : leads .clearQueue (sent (retiring7 2) 0x45 [0])
    (fun t => t.stc.find 7 == none && t.stc.draining == [⟨4096, (newWindow decl7 4096).limit, 2⟩]
      && t.stc.flight == [⟨.slotWrite 0 false, 64, 1⟩] && replyOf t == some (.done (.cleared 1 0))) = true := by
  decide +kernel

theorem witness_LaneCued : (sent house 0x46 [0]).Commanded 0x46 (bs [0])
    ∧ (house.lane 0).pl.state = .idle ∧ (house.lane 0).pl.screen = some 0
    ∧ (house.lane 0).pl.confirmed = true ∧ house.screenHeld 0 = false
    ∧ (house.lane 0).pl.queue = item7 false false :: [] ∧ (item7 false false).isIntermission = false
    ∧ (house.lane 0).pl.queueRate = some 24 :=
  ⟨sent_commanded _ _ _ rfl rfl, by decide +kernel⟩

theorem witness_LaneCued_promoted :
    promoteHead (sent house 0x46 [0]) 0 (item7 false false)
        = .ok ((sent house 0x46 [0]).reserve 0 3 7 48)
      ∧ promoteHead (sent (playingShow 1 .live) 0x46 [0]) 0 { item7 false false with kind := .composition 8 0 0 (some 3) }
        = .error .badValue
      ∧ (item7 false false).licence = some 3 ∧ (item7 false false).package = some 7
      ∧ promotionFailure (sent house 0x46 [0]) 3 7 = none ∧ (itemBlack 0).licence = none := ⟨rfl, rfl, rfl, rfl, rfl, rfl⟩

theorem test_cue_cueing : leads .cue (sent house 0x46 [0])
    (fun t => (t.lane 0).pl.state == .cueing && (t.shc.reservations.get 0) == [reservation3 .promoted]
      && (t.lane 0).pl.queue == [item7 true false] && (t.lane 0).pl.fetch.state == .stalled) = true := by
  decide +kernel

/-- A part that holds a number of records. -/
def logHolds (n : Nat) : State := { house with shc := { house.shc with log := List.replicate n (showing3 0) } }

theorem witness_LaneCued_reserved : (logHolds 239).shc.occupancy = 239 ∧ (logHolds 240).shc.occupancy ≠ 239
    ∧ (logHolds 239).shc.find 3 = some licence3 ∧ (item7 false false).licence = some 3
    ∧ (item7 false false).total = 48 ∧ promoteHead house 0 (item7 false false) = .ok (house.reserve 0 3 7 48) :=
  ⟨by decide +kernel, by decide +kernel, by decide +kernel, rfl, rfl, rfl⟩

-- The manual's marks (R139), and LOG_NEAR_FULL on the rise to 240 alone (R68).
theorem test_marks : qualifyMark 158400 70 = 110880 ∧ qualifyMark 1001 33 = 331 ∧ qualifyMark 1 1 = 1
    ∧ qualifyMark 28800 100 = 28800 ∧ ((logHolds 239).reserve 0 3 7 48).ntu.raised.getLsbD srcLogNearFull = true
    ∧ ((logHolds 238).reserve 0 3 7 48).ntu.raised = 0#44 ∧ ((logHolds 240).reserve 0 3 7 48).ntu.raised = 0#44
    ∧ ((logHolds 239).reserve 0 3 7 48).shc.reservations.get 0 = [reservation3 .promoted] := by decide +kernel

/-- The cued part with the rate check off. -/
def unchecked (state : LaneState) : State :=
  (houseIn state).modPl 0 (fun p => { p with set := { p.set with rateCheck := false } })

theorem witness_LaneStarted : (sent (houseIn .cued) 0x47 [0]).Commanded 0x47 (bs [0])
    ∧ ((ripe (houseIn .cued) 0x47 [0]).lane 0).pl.state = .cued
    ∧ startFailure (ripe (houseIn .cued) 0x47 [0])
        (((ripe (houseIn .cued) 0x47 [0]).lane 0).pl.queue.head?.bind Item.licence) = none
    ∧ ((ripe (houseIn .cued) 0x47 [0]).lane 0).pl.set.rateCheck = true
    ∧ ((ripe (unchecked .cued) 0x47 [0]).lane 0).pl.set.rateCheck = false :=
  ⟨sent_commanded _ _ _ rfl rfl, by decide +kernel⟩

/-- The cued part at a booth time. -/
def cuedAt (booth : Nat) : State :=
  { houseIn .cued with clock := { (houseIn .cued).clock with booth := some booth } }

theorem witness_LaneStarted_refused :
    ((ripe (cuedAt 99) 0x47 [0]).lane 0).pl.queue.head?.bind Item.licence = some 3
      ∧ (ripe (cuedAt 99) 0x47 [0]).shc.find 3 = some licence3 ∧ licence3.state (some 99) ≠ .expired
      ∧ 99 < licence3.notBefore ∧ licence3.state (some 201) = .expired ∧ licence3.state (some 200) ≠ .expired
      ∧ licence3.notBefore ≤ 100 := by decide +kernel

-- Licence 3 holds from 100 to 200 (R52, R59).
theorem test_start_times : leads (.start 0) (sent (cuedAt 99) 0x47 [0])
      (fun t => replyOf t == some (.refused .licenceNotYet) && (t.lane 0).pl.state == .cued) = true
    ∧ leads (.start 0) (sent (cuedAt 201) 0x47 [0])
      (fun t => replyOf t == some (.refused .licenceExpired) && (t.lane 0).pl.state == .cued) = true
    ∧ leads (.start 0) (sent (cuedAt 100) 0x47 [0]) (fun t => (t.lane 0).pl.state == .starting) = true
    ∧ leads (.start 0) (sent (cuedAt 200) 0x47 [0]) (fun t => (t.lane 0).pl.state == .starting) = true := by
  decide +kernel

/-- A PAUSED lane with a cause and a queue. -/
def pausedFor (cause : PauseCause) (queue : List Item) : State :=
  (houseIn .paused).modPl 0 (fun p => { p with pause := some cause, queue := queue })

theorem witness_LanePausedAndResumed : (sent (houseIn .playing) 0x48 [0]).Commanded 0x48 (bs [0])
    ∧ (sent (pausedFor .host [item7 true true]) 0x49 [0]).Commanded 0x49 (bs [0])
    ∧ ((ripe (houseIn .playing) 0x48 [0]).lane 0).pl.state = .playing
    ∧ ((ripe (pausedFor .host [item7 true true]) 0x49 [0]).lane 0).pl.state = .paused
    ∧ ((ripe (pausedFor .host [item7 true true]) 0x49 [0]).lane 0).pl.pause ≠ some .intermission
    ∧ ((ripe (pausedFor .intermission []) 0x49 [0]).lane 0).pl.pause = some .intermission
    ∧ ((ripe (pausedFor .intermission []) 0x49 [0]).lane 0).pl.queue = [] :=
  ⟨sent_commanded _ _ _ rfl rfl, sent_commanded _ _ _ rfl rfl, by decide +kernel⟩

/-- The INTERMISSION item. -/
def itemPause : Item := { itemBlack 2 with kind := .intermission }

/-- The item of package 7 BLOCKED. -/
def itemBlocked : Item := { item7 false false with blocked := some .licenceSpent }

theorem witness_LanePausedAndResumed_behind :
    ((ripe (pausedFor .intermission [itemBlack 1]) 0x49 [0]).lane 0).pl.queue = itemBlack 1 :: []
      ∧ ((ripe (pausedFor .intermission [itemBlack 1]) 0x49 [0]).lane 0).pl.pause = some .intermission
      ∧ (itemBlack 1).isIntermission = false ∧ (itemBlack 1).blocked = none
      ∧ itemPause.isIntermission = true ∧ itemBlocked.isIntermission = false
      ∧ itemBlocked.blocked = some .licenceSpent := by decide +kernel

theorem test_resume_behind_intermission :
    leads (.resume 0) (sent ((pausedFor .intermission [itemBlack 1]).modPl 0 (fun p => { p with next := none }))
        0x49 [0])
      (fun t => (t.lane 0).pl.state == .playing && (t.lane 0).pl.next == some ⟨0, 0, 0⟩) = true
    ∧ leads (.resume 0) (sent (pausedFor .intermission [itemPause, itemBlack 1]) 0x49 [0])
      (fun t => (t.lane 0).pl.state == .paused && (t.lane 0).pl.queue.length == 1
        && t.ntu.raised.getLsbD 3) = true
    ∧ leads (.resume 0) (sent (pausedFor .intermission [itemBlocked]) 0x49 [0])
      (fun t => (t.lane 0).pl.state == .idle && (t.lane 0).pl.fault == some (.promotion .licenceSpent)
        && (t.lane 0).pl.queue == [item7 false false]) = true := by decide +kernel

theorem witness_LaneStopped : (sent (houseIn .starting) 0x4A [0]).Commanded 0x4A (bs [0])
    ∧ ((ripe (houseIn .starting) 0x4A [0]).lane 0).pl.state.stoppable = true
    ∧ ((ripe (houseIn .cueing) 0x4A [0]).lane 0).pl.state.stoppable = true :=
  ⟨sent_commanded _ _ _ rfl rfl, by decide +kernel⟩

/-- A PLAYING lane with record 1 open. -/
def showingLane : State := (playingShow 1 .live).modPl 0 (fun p => { p with state := .playing })

theorem witness_LaneStopped_record : ((ripe showingLane 0x4A [0]).lane 0).pl.state.stoppable = true
    ∧ (ripe showingLane 0x4A [0]).shc.namedBy 0 (showing3 1) = true
    ∧ (ripe showingLane 0x4A [0]).shc.log = [showing3 1] := by decide +kernel

theorem test_stop_closes : leads (.stop 0) (sent showingLane 0x4A [0]) (fun t => t.shc.log
      == [{ showing3 1 with ended := some 150, cause := some .stop, outcome := .abandoned }]) = true
    ∧ leads (.revokeLicence 0) (sent showingLane 0x31 [0, 3, 1]) (fun t =>
      t.shc.log.map ShowRecord.cause == [some .revoked]) = true
    ∧ leads (.holdScreen 0) (sent showingLane 0x41 [0]) (fun t =>
      t.shc.log.map ShowRecord.cause == [some .held]) = true := by decide +kernel

theorem test_stop_drops_reservation : leads (.stop 0) (sent (houseIn .cued) 0x4A [0])
    (fun t => (t.shc.reservations.get 0) == [] && (t.lane 0).pl.queue == [item7 false false]
      && replyOf t == some (.done (.cleared 0 1))) = true := by decide +kernel

/-- A lane in a state with record 1 open, a cue active or hidden, and its sound in a state. -/
def screening (state : LaneState) (hidden : Bool) (sound : SoundState) : State :=
  (showingLane.modPl 0 (fun p => { p with state := state, rate := some 24 })).modLane 0 (fun n =>
    { n with sce := { n.sce with active := ⟨none, some ⟨fadeCue, 36, hidden⟩, none, none⟩ },
             sne := { n.sne with state := sound, pointer := some 1000 } })

theorem witness_LaneStopped_sent : ((ripe (screening .playing false .running) 0x4A [0]).lane 0).sne.state = .running
    ∧ ((ripe (screening .playing false .falling) 0x4A [0]).lane 0).sne.state = .falling
    ∧ ((ripe (screening .playing false .held) 0x4A [0]).lane 0).sne.state = .held
    ∧ ((ripe (screening .playing false .off) 0x4A [0]).lane 0).sne.state = .off
    ∧ ((ripe (screening .playing false .off) 0x4A [0]).lane 0).pl.state.stoppable = true
    ∧ ((ripe (screening .playing false .off) 0x4A [0]).lane 0).pl.screen = some 0
    ∧ (ripe (screening .playing false .off) 0x4A [0]).screenHeld 0 = false := by decide +kernel

-- One CLEAR and no HIDE, the slots emptied, the sound on its way down to OFF (R102, R158).
theorem test_stop_sends : leads (.stop 0) (sent (screening .playing false .running) 0x4A [0])
    (fun t => t.out == [.screen 0 .clear] && (t.lane 0).sce.active.get 1 == none
      && (t.lane 0).sne.state == .falling && (t.lane 0).sne.thenOff) = true := by decide +kernel

theorem test_reset_empties : leads (.laneReset 0) (sent (screening .paused true .held) 0x4D [0])
    (fun t => t.out == [.screen 0 .clear] && (t.lane 0).sce == CueEngine.reset && (t.lane 0).pl.pause == none
      && t.shc.log.map ShowRecord.cause == [some .laneReset]) = true := by decide +kernel

-- The record is closed, the bound screen cleared once and the sound link reset once (R48, R64, R104).
theorem test_soft_reset_closes : leads (.softResetProceed 0)
    ((screening .playing false .running).modBcp (fun b => { b with resetDue := true }))
    (fun t => t.shc.log.map (fun x => (x.cause, x.outcome)) == [(some .softReset, .abandoned)]
      && t.out.count .linkReset == 1 && t.out.count (.screen 0 .clear) == 1
      && (t.lane 0).sce == CueEngine.reset) = true := by decide +kernel

/-- A lane whose loss timer is at its loss time, a cue on its screen. -/
def screeningLoss : State :=
  (screening .playing false .running).modFtm 0 (fun m => { m with lossTimer := some 250 })

-- A pause hides the cue with one HIDE; RESUME shows it again at the opacity last sent (R155, R156).
theorem test_loss_hides : (screeningLoss.lane 0).lossDue = true
    ∧ leads (.pulseLossExpiry 0) screeningLoss (fun t => t.out == [.screen 0 (.hide 1)]
      && (t.lane 0).sce.active.get 1 == some ⟨fadeCue, 36, true⟩) = true := by decide +kernel

theorem test_resume_shows : leads (.resume 0)
    (sent ((screening .paused true .held).modPl 0 (fun p => { p with pause := some .pulseLost })) 0x49 [0])
    (fun t => t.out == [.screen 0 (.showCue 1 0 0 0 36 [])]
      && (t.lane 0).sce.active.get 1 == some ⟨fadeCue, 36, false⟩) = true := by decide +kernel

theorem witness_LaneSought :
    (sent (pausedFor .host [item7 true true]) 0x4B [0, 0, 0, 0, 47]).Commanded 0x4B (bs [0, 0, 0, 0, 47])
      ∧ ((ripe (pausedFor .host [item7 true true]) 0x4B [0, 0, 0, 0, 47]).lane 0).pl.state = .paused
      ∧ ((ripe (pausedFor .host [item7 true true]) 0x4B [0, 0, 0, 0, 47]).lane 0).pl.queue = item7 true true :: []
      ∧ (item7 true true).isIntermission = false ∧ (item7 true true).promoted = true
      ∧ (bs [0, 0, 0, 0, 47]).length = 5 :=
  ⟨sent_commanded _ _ _ rfl rfl, by decide +kernel⟩

theorem test_seek_clamps : leads (.seek 0) (sent (pausedFor .host [item7 true true]) 0x4B [0, 0, 0, 0, 48])
    (fun t => (t.lane 0).pl.next == some ⟨47, 0, 47⟩ && replyOf t == some (.done (.seekTarget 47))) = true := by
  decide +kernel

theorem witness_SettingApplied : (sent up 0x4C [0, 0, 0, 0, 0, 2]).Commanded 0x4C (bs [0, 0, 0, 0, 0, 2])
    ∧ ((ripe up 0x4C [0, 0, 0, 0, 0, 2]).lane 0).pl.state ≠ .resetting
    ∧ (bs [0, 0, 0, 0, 0, 2]).length = 6 ∧ u8 (bs [0, 0, 0, 0, 0, 2]) 1 = 0
    ∧ s32 (bs [0, 0, 0, 0, 0, 2]) 2 = 2 ∧ u8 (bs [0, 10, 0, 0, 0, 99]) 1 = 10
    ∧ u8 (bs [0, 8, 0, 0, 0, 0]) 1 = 8 ∧ s32 (bs [0, 8, 0, 0, 0, 0]) 2 = 0
    ∧ u8 (bs [0, 9, 0, 0, 0, 1]) 1 = 9 ∧ s32 (bs [0, 9, 0, 0, 0, 1]) 2 = 1
    ∧ 10 < u8 (bs [0, 11, 0, 0, 0, 0]) 1 ∧ s32 (bs [0, 0, 0xFF, 0xFF, 0xFF, 0xFF]) 2 < 0
    ∧ u8 (bs [0, 6, 0, 0, 0, 3]) 1 = 6 ∧ s32 (bs [0, 6, 0, 0, 0, 3]) 2 ≠ 2 :=
  ⟨sent_commanded _ _ _ rfl rfl, by decide +kernel⟩

theorem test_setting_clamps : leads (.setLane 0) (sent up 0x4C [0, 1, 0xFF, 0xFF, 0, 0])
    (fun t => (t.lane 0).pl.set.soundDelay == -4800 && replyOf t == some (.done (.applied (-4800)))) = true := by
  decide +kernel

theorem test_setting_divider_three : leads (.setLane 0) (sent up 0x4C [0, 6, 0, 0, 0, 3])
    (fun t => replyOf t == some (.refused .badValue)) = true := by decide +kernel

/-- A lane in a state with a gate of an owner waiting for its opening pulse, phase 1, the watch and RATE_OUT as given,
and the loss timer at 200. -/
def monitored (state : LaneState) (owner : GateOwner) (watch : Bool) : State :=
  (gated (houseIn state) (Gate.start owner (some 8))).modFtm 0 (fun m =>
    { m with phase := 1, watch := watch, rateOut := watch, lossTimer := some 200 })

theorem witness_SettingApplied_monitor :
    (sent (monitored .starting .check false) 0x4C [0, 6, 0, 0, 0, 1]).Commanded 0x4C (bs [0, 6, 0, 0, 0, 1])
      ∧ ((ripe (monitored .starting .check false) 0x4C [0, 6, 0, 0, 0, 1]).lane 0).ftm.gate.owner = .check
      ∧ ((ripe (monitored .starting .check false) 0x4C [0, 6, 0, 0, 0, 1]).lane 0).ftm.gate.state = .opened
      ∧ ((ripe (monitored .playing .host false) 0x4C [0, 9, 0, 0, 0, 1]).lane 0).pl.state = .playing
      ∧ ((ripe (monitored .playing .host false) 0x4C [0, 9, 0, 0, 0, 1]).lane 0).ftm.watch = false
      ∧ ((ripe (monitored .playing .watch true) 0x4C [0, 9, 0, 0, 0, 0]).lane 0).ftm.rateOut = true
      ∧ ((ripe (monitored .cued .host false) 0x4C [0, 10, 0, 0, 0, 200]).lane 0).ftm.lossTimer = some 200 :=
  ⟨sent_commanded _ _ _ rfl rfl, by decide +kernel⟩

-- The divider set to its own value resets the phase and ends the gate (R115).
theorem test_divider_ends_gate : leads (.setLane 0) (sent (monitored .starting .check false) 0x4C [0, 6, 0, 0, 0, 1])
      (fun t => (t.lane 0).ftm.phase == 0 && (t.lane 0).ftm.gate.result == some .aborted
        && (t.lane 0).pl.state == .cued && (t.lane 0).pl.fault == some .rateMismatch) = true
    ∧ leads (.setLane 0) (sent (monitored .cued .host false) 0x4C [0, 6, 0, 0, 0, 2])
      (fun t => (t.lane 0).ftm.gate.state == .aborted && t.ntu.raised == 0x100#44) = true
    ∧ leads (.setLane 0) (sent (monitored .playing .watch true) 0x4C [0, 6, 0, 0, 0, 2])
      (fun t => (t.lane 0).ftm.gate == Gate.start .watch (some 32) && (t.lane 0).ftm.watch) = true := by
  decide +kernel

theorem test_watch_switched : leads (.setLane 0) (sent (monitored .playing .host false) 0x4C [0, 9, 0, 0, 0, 1])
      (fun t => (t.lane 0).ftm.gate == Gate.start .watch (some 32) && (t.lane 0).ftm.watch
        && t.ntu.raised.getLsbD (laneSource 0 srcGate)) = true
    ∧ leads (.setLane 0) (sent (monitored .playing .watch true) 0x4C [0, 9, 0, 0, 0, 0])
      (fun t => (t.lane 0).ftm.gate.result == some .aborted && (t.lane 0).ftm.watch == false
        && (t.lane 0).ftm.rateOut == false && t.ntu.raised.getLsbD (laneSource 0 srcRateWarn)) = true
    ∧ leads (.setLane 0) (sent (monitored .cued .host false) 0x4C [0, 10, 0, 0, 0, 200])
      (fun t => (t.lane 0).ftm.lossTimer == none && (t.lane 0).ftm.lossExpiries == 1) = true := by decide +kernel

theorem witness_LaneResetTaken : (sent (houseIn .playing) 0x4D [0]).Commanded 0x4D (bs [0])
    ∧ ((ripe (houseIn .playing) 0x4D [0]).lane 0).pl.state ≠ .resetting
    ∧ (ripe (reading (.laneRead 0 0 0 0 0 false)) 0x4D [0]).stc.flight.any (Operation.ofLane 0) = true
    ∧ (ripe (houseIn .playing) 0x4D [0]).stc.flight.any (Operation.ofLane 0) = false :=
  ⟨sent_commanded _ _ _ rfl rfl, by decide +kernel⟩

theorem test_reset_waits : leads (.laneReset 0) (sent (reading (.laneRead 0 0 0 0 0 false)) 0x4D [0])
    (fun t => (t.lane 0).pl.state == .resetting && t.ntu.raised == 0#44) = true := by decide +kernel

theorem test_reset_ready : leads (.laneReset 0) (sent (houseIn .playing) 0x4D [0])
    (fun t => (t.lane 0).pl.state == .idle && t.ntu.raised == 1#44) = true := by decide +kernel

theorem witness_LaneReported : (sent up 0x4E [3]).Commanded 0x4E (bs [3])
    ∧ (sent up 0x52 [3]).Commanded 0x52 (bs [3]) ∧ (sent up 0x61 [3]).Commanded 0x61 (bs [3])
    ∧ u8 (bs [3]) 0 = (3 : LaneId).val ∧ ((ripe up 0x52 [3]).lane 3).pl.state ≠ .resetting :=
  ⟨sent_commanded _ _ _ rfl rfl, sent_commanded _ _ _ rfl rfl, sent_commanded _ _ _ rfl rfl,
    by decide +kernel⟩

/-! ### Pulses and gates -/

/-- A host gate of OPEN length waiting for its opening pulse. -/
def hostGate : State := gated up (Gate.start .host none)

theorem witness_GateCommands : (sent up 0x50 [0, 32]).Commanded 0x50 (bs [0, 32])
    ∧ (sent hostGate 0x51 [0]).Commanded 0x51 (bs [0])
    ∧ (sent (houseIn .cued) 0x53 [0, 0, 1, 0, 0, 0x9C, 0x3F]).Commanded 0x53
        (bs [0, 0, 1, 0, 0, 0x9C, 0x3F]) :=
  ⟨sent_commanded _ _ _ rfl rfl, sent_commanded _ _ _ rfl rfl, sent_commanded _ _ _ rfl rfl⟩

theorem witness_GateCommands_values : gateLength (u8 (bs [0, 32]) 1) = some (some 32)
    ∧ (up.lane 0).pl.state ≠ .starting ∧ (up.lane 0).ftm.watch = false
    ∧ (up.lane 0).ftm.gate.state ≠ .opened ∧ ((ripe hostGate 0x51 [0]).lane 0).ftm.gate.state = .opened
    ∧ ((ripe hostGate 0x51 [0]).lane 0).ftm.gate.owner = .host ∧ (bs [0, 0, 1, 0, 0, 0x9C, 0x3F]).length = 7
    ∧ ((ripe (houseIn .cued) 0x53 [0, 0, 1, 0, 0, 0x9C, 0x3F]).lane 0).pl.state ≠ .idle
    ∧ (ripe (houseIn .cued) 0x53 [0, 0, 1, 0, 0, 0x9C, 0x3F]).shc.mode = .rehearsal
    ∧ ((ripe (houseIn .cued) 0x53 [0, 0, 1, 0, 0, 0x9C, 0x3F]).lane 0).ftm.injection = none
    ∧ (Gate.start .host (some 8)).length ≠ none
    ∧ ({ Gate.start .host none with opened := true, pulses := 1 } : Gate).pulses = 1 := by decide +kernel

theorem test_gate_stop_no_pulses : leads (.gateStop 0) (sent hostGate 0x51 [0])
    (fun t => (t.lane 0).ftm.gate.result == some .noPulses && t.ntu.raised == 0x100#44
      && replyOf t == some (.done (.gateStopped
        ⟨.host, .done, none, false, 0, 0, some .noPulses, none, none⟩))) = true := by
  decide +kernel

/-- L0 with a last accepted pulse at tick 100. -/
def pulsed : State := up.modFtm 0 (fun m => { m with lastAccepted := some 100 })

/-- L0 with divider 2. -/
def divided : State := up.modPl 0 (fun p => { p with set := { p.set with divider := 2 } })

theorem witness_PulsesConditioned : (up.takeAt 600).boundTo 0 = some 0 ∧ ((up.takeAt 600).lane 0).ftm.injection = none
    ∧ ((pulsed.takeAt 600).lane 0).ftm.lastAccepted = some 100 ∧ tickAt (pulsed.takeAt 600).clock.now < 100 + 4000
    ∧ ((divided.takeAt 600).lane 0).ftm.lastAccepted = none ∧ ((divided.takeAt 600).lane 0).pl.set.divider = 2
    ∧ ((divided.takeAt 600).lane 0).ftm.phase = 0 := by decide +kernel

/-- L0 with a last accepted pulse at tick 100, 28 ms on. -/
def pulsedLater : State := { pulsed with clock := { pulsed.clock with ticks := 28, now := 4200000, samples := 1344 } }

theorem witness_PulsesConditioned_accepted :
    100 + 4000 ≤ tickAt (pulsedLater.takeAt 4200000).clock.now
      ∧ ((pulsedLater.takeAt 4200000).lane 0).pl.set.divider = 1
      ∧ ((pulsedLater.takeAt 4200000).lane 0).pl.state ≠ .playing
      ∧ ((pulsedLater.takeAt 4200000).lane 0).ftm.gate.state ≠ .opened
      ∧ ((pulsedLater.takeAt 4200000).lane 0).ftm.watch = false := by decide +kernel

-- 4,000 ticks after the last accepted pulse a pulse is accepted, one tick sooner it is a glitch (R111).
theorem test_glitch_edge : (pulsed.lane 0).ftm.accepts 4100 = true ∧ (pulsed.lane 0).ftm.accepts 4099 = false := by
  decide +kernel

/-- A PLAYING lane with the ended check gate as its last record, as at the default settings. -/
def checked : State := gated (houseIn .playing) { Gate.start .check (some 8) with state := .done, opened := true }

theorem witness_PulsesConditioned_playing : (checked.lane 0).pl.state = .playing
    ∧ (checked.lane 0).ftm.gate.owner = .check ∧ (checked.lane 0).ftm.gate.state ≠ .opened
    ∧ (freeScreen.takeAt 600).boundTo 1 = none := by decide +kernel

-- A pulse on that lane presents: its head is missing, nothing has been shown, so BLACK is sent (R97, R98).
theorem test_pulse_presents : leads (.rawPulse 0 0) checked
      (fun t => t.out == [.screen 0 .black] && (t.lane 0).ftm.counted == 1) = true
    ∧ leads (.rawPulse 1 0) freeScreen (fun t => t.lanes == freeScreen.lanes) = true := by decide +kernel

/-- A lane in a state with an opened gate whose next pulse brings its count to the length, at tick 333,000. -/
def closing (state : LaneState) (owner : GateOwner) (openTick : Nat) : State :=
  let s := gated (houseIn state) { Gate.start owner (some 8) with opened := true, pulses := 7, openTick := openTick }
  { s with clock := { s.clock with ticks := 333, now := 333 * 150000, samples := 15984 } }

theorem witness_PulsesConditioned_gates : ((closing .starting .check 0).lane 0).ftm.gate.state = .opened
    ∧ ((closing .starting .check 0).lane 0).ftm.gate.opened = true
    ∧ ((closing .starting .check 0).lane 0).ftm.gate.length = some 8 ∧ 8 = satInc top32 7
    ∧ ((closing .starting .check 0).lane 0).pl.rate = some 24
    ∧ ((closing .starting .check 0).lane 0).pl.state = .starting
    ∧ ((closing .playing .watch 0).lane 0).pl.state = .playing
    ∧ ((closing .playing .watch 0).lane 0).ftm.gate.owner ≠ .check
    ∧ ((closing .cued .host 0).lane 0).pl.state ≠ .playing ∧ (hostGate.lane 0).ftm.gate.opened = false
    ∧ (hostGate.lane 0).ftm.gate.state = .opened
    ∧ ({ Gate.start .host none with opened := true, pulses := 1 } : Gate).length ≠ some (satInc top32 1)
    ∧ (up.lane 0).ftm.gate.state ≠ .opened := by decide +kernel

-- 8 pulses in 333,000 ticks are 24.024 frames a second, in 400,000 they are 20.000 (R120, R125).
theorem test_check_gate : (((closing .starting .check 0).gatePulse 0).lane 0).pl.state = .playing
    ∧ ((({ closing .starting .check 0 with
          clock := { (closing .starting .check 0).clock with ticks := 400, now := 400 * 150000 } } : State).gatePulse
        0).lane 0).pl.fault = some .rateMismatch
    ∧ (((closing .cued .host 0).gatePulse 0).lane 0).ftm.gate.result = some .valid
    ∧ ((closing .cued .host 0).gatePulse 0).ntu.raised = 0x100#44 := by decide +kernel

theorem test_watch_gate : (((closing .playing .watch 300000).gatePulse 0).lane 0).ftm.rateOut = true
    ∧ ((closing .playing .watch 300000).gatePulse 0).ntu.raised.getLsbD (laneSource 0 srcRateWarn) = true
    ∧ (((closing .playing .watch 300000).gatePulse 0).lane 0).ftm.gate.openTick = 333000
    ∧ ((closing .playing .watch 0).gatePulse 0).ntu.raised = 0#44 := by decide +kernel

/-- A CUED lane with one injected pulse to come at tick 500. -/
def injecting (remaining : Nat) : State :=
  (houseIn .cued).modFtm 0 (fun m => { m with injection := some ⟨remaining, 9999, 500⟩ })

theorem witness_PulsesConditioned_injected : ((injecting 1).lane 0).ftm.injection = some ⟨1, 9999, 500⟩
    ∧ 500 * 150 ≤ (injecting 1).horizon
    ∧ (((injecting 1).caughtUp (500 * 150)).lane 0).ftm.injection = some ⟨1, 9999, 500⟩
    ∧ (((injecting 1).caughtUp (500 * 150)).lane 0).pl.state = .cued
    ∧ (((injecting 1).caughtUp (500 * 150)).lane 0).ftm.gate.state ≠ .opened
    ∧ (((injecting 1).caughtUp (500 * 150)).lane 0).ftm.watch = false
    ∧ (((injecting 2).caughtUp (500 * 150)).lane 0).ftm.injection = some ⟨2, 9999, 500⟩ := by decide +kernel

/-- L0 in a state with its loss timer at its loss time. -/
def lossAt (state : LaneState) : State :=
  (houseIn state).modFtm 0 (fun m => { m with lossTimer := some 250, gate := Gate.start .check (some 8) })

theorem witness_MonitorTimesOut_loss : ((lossAt .starting).lane 0).lossDue = true
    ∧ ((lossAt .starting).lane 0).ftm.gate.state = .opened ∧ ((lossAt .playing).lane 0).lossDue = true
    ∧ ((lossAt .starting).lane 0).pl.state = .starting ∧ ((lossAt .playing).lane 0).pl.state = .playing
    ∧ ((lossAt .cued).lane 0).lossDue = true ∧ (lossAt .playing).lastBase < (lossAt .playing).takenAt 1 := by
  decide +kernel

-- A pulse behind the tick at which the loss fell due finds it taken, and restarts the timer (R112, R113).
theorem test_pulse_behind_loss : leads (.rawPulse 0 1) (lossAt .playing)
    (fun t => (t.lane 0).pl.state == .paused && (t.lane 0).pl.pause == some .pulseLost
      && (t.lane 0).ftm.lossTimer == some 0 && (t.lane 0).ftm.absent == false) = true := by decide +kernel

-- One taken first at the tick's own instant restarts the timer, and there is no expiry (R112).
theorem test_pulse_before_loss : leads (.rawPulse 0 0) (lossAt .cued)
    (fun t => (t.lane 0).ftm.lossExpiries == 0 && (t.lane 0).ftm.lossTimer == some 0) = true := by decide +kernel

-- A timer restarted at the tick's own instant before it is not raised by that tick, one restarted behind it is (R112).
theorem test_loss_fresh : leads (.rawPulse 0 150000) (houseIn .cued) (fun t =>
      (t.lane 0).ftm.lossFresh && leads .baseTick t (fun u => (u.lane 0).ftm.lossTimer == some 0
        && leads .baseTick u (fun v => (v.lane 0).ftm.lossTimer == some 1))) = true
    ∧ leads (.rawPulse 0 149999) (houseIn .cued) (fun t =>
      leads .baseTick t (fun u => (u.lane 0).ftm.lossTimer == some 1)) = true := by decide +kernel

theorem witness_MonitorTimesOut_ticks : ((houseIn .cued).takeOverdue.takeTimed 8).pin = false
    ∧ ∃ u, exec .baseTick (houseIn .cued) = .next u := ⟨rfl, _, rfl⟩

theorem test_loss_starting : leads (.pulseLossExpiry 0) (lossAt .starting)
    (fun t => (t.lane 0).pl.state == .cued && (t.lane 0).pl.fault == some .noPulses) = true := by decide +kernel

/-- L0 with an opened gate of an owner whose count overflows at tick 16,777,214. -/
def overflowing (owner : GateOwner) : State :=
  let s := gated (houseIn .starting) { Gate.start owner (some 8) with opened := true }
  { s with clock := { s.clock with ticks := 16777, now := 16777 * 150000, samples := 805296 } }

theorem witness_MonitorTimesOut_overflow :
    ((overflowing .check).lane 0).ftm.overflowAt = some (16777214 * 150)
      ∧ (((overflowing .check).caughtUp (16777214 * 150)).lane 0).ftm.overflowAt = some (16777214 * 150)
      ∧ 16777214 * 150 ≤ (overflowing .check).horizon
      ∧ (((overflowing .host).caughtUp (16777214 * 150)).lane 0).ftm.gate.owner = .host
      ∧ (((overflowing .watch).caughtUp (16777214 * 150)).lane 0).ftm.gate.owner = .watch := by decide +kernel

/-! ### Presentation, cues and sound -/

/-- Slot 0 with frame 0 of package 7's item: its length word and two bytes. -/
def slot7 : BufSlot :=
  { num := 0, item := 0, pos := ⟨0, 0, 0⟩, composition := true, hasSound := false, faulted := false,
    stage := .ready, awaiting := 0, picture := bs [0, 0, 0, 2, 0xAA, 0xBB], sound := [] }

/-- A PLAYING lane with a buffer. -/
def playing (buffer : List BufSlot) : State :=
  (houseIn .playing).modPl 0 (fun p => { p with buffer := buffer, shown := true })

theorem witness_PulsePresentsOrFills : ((playing [slot7]).lane 0).pl.screen = some 0
    ∧ (playing [slot7]).screenHeld 0 = false ∧ ((playing [slot7]).lane 0).pl.queue = item7 true false :: []
    ∧ ((playing [slot7]).lane 0).pl.next = some ⟨0, 0, 0⟩
    ∧ ((playing [slot7]).lane 0).pl.buffer.find?
        (fun b => b.item == 0 && b.pos == ⟨0, 0, 0⟩ && b.stage != .presented) = some slot7
    ∧ (item7 true false).after ⟨0, 0, 0⟩ = some ⟨1, 0, 1⟩ := by decide +kernel

theorem witness_PulsePresentsOrFills_missing : ((playing []).lane 0).pl.buffer.find?
      (fun b => b.item == 0 && b.pos == ⟨0, 0, 0⟩ && b.stage != .presented) = none
    ∧ ((playing []).lane 0).pl.set.gapPolicy = .holdLast ∧ ((playing []).lane 0).pl.shown = true := by
  decide +kernel

/-- A PLAYING lane at the last frame of its item, with items behind it. -/
def lastFrame (rest : List Item) : State :=
  (playingShow 30 .live).modPl 0 (fun p =>
    { p with state := .playing, rate := some 24, queue := item7 true true :: rest, next := some ⟨47, 0, 47⟩,
             buffer := [{ slot7 with pos := ⟨47, 0, 47⟩ }] })

theorem witness_PulsePresentsOrFills_last : ((lastFrame []).lane 0).pl.queue = item7 true true :: []
    ∧ ((lastFrame []).lane 0).pl.next = some ⟨47, 0, 47⟩
    ∧ ((lastFrame []).lane 0).pl.buffer.find?
        (fun b => b.item == 0 && b.pos == ⟨47, 0, 47⟩ && b.stage != .presented)
      = some { slot7 with pos := ⟨47, 0, 47⟩ }
    ∧ (item7 true true).after ⟨47, 0, 47⟩ = none ∧ (lastFrame []).screenHeld 0 = false
    ∧ (lastFrame []).shc.reservations.get 0 = reservation3 (.showing 1) :: []
    ∧ (lastFrame []).shc.log.find? (fun y => y.seq == 1) = some (showing3 30)
    ∧ (itemBlack 1).isIntermission = false ∧ (itemBlack 1).blocked = none := by decide +kernel

theorem test_item_end_closes : (((lastFrame [itemBlack 1]).presentPulse 0).shc.log.map ShowRecord.outcome) = [.short]
    ∧ (((lastFrame [itemBlack 1]).presentPulse 0).lane 0).pl.next = some ⟨0, 0, 0⟩
    ∧ (((lastFrame []).presentPulse 0).lane 0).pl.state = .idle
    ∧ ((lastFrame []).presentPulse 0).ntu.raised.getLsbD 3 = true := by decide +kernel

theorem test_present_sends_frame : ((playing [slot7]).presentPulse 0).out
      = [.screen 0 (.frame (bs [0xAA, 0xBB]))]
    ∧ (((playing [slot7]).presentPulse 0).shc.find 3).map Licence.count = some 1
    ∧ ((playing [slot7]).presentPulse 0).shc.log.length = 1 := by decide +kernel

/-- A PLAYING lane at the last frame of the first of two reels, with slots. -/
def reelEnd (buffer : List BufSlot) (policy : GapPolicy) : State :=
  (houseIn .playing).modPl 0 (fun p => { p with
    queue := [{ item7 true true with reelFrames := [24, 24] }], next := some ⟨23, 0, 23⟩, buffer := buffer,
    shown := true, fetch := { p.fetch with inHand := [(0, 0), (0, 1)] }, set := { p.set with gapPolicy := policy } })

/-- Slot 0 with that frame, read without fault or with one. -/
def slot23 (faulted : Bool) : BufSlot := { slot7 with pos := ⟨23, 0, 23⟩, faulted := faulted }

/-- A PLAYING lane at the first frame of a BLACK item. -/
def blackHead : State :=
  (houseIn .playing).modPl 0 (fun p => { p with
    queue := [itemBlack 0], buffer := [{ slot7 with composition := false, picture := [] }] })

theorem witness_PulsePresentsOrFills_more (policy : GapPolicy) :
    (reelEnd [slot23 false] policy).headSlot 0 { item7 true true with reelFrames := [24, 24] } ⟨23, 0, 23⟩
        = some (slot23 false)
      ∧ (reelEnd [slot23 true] policy).headSlot 0 { item7 true true with reelFrames := [24, 24] } ⟨23, 0, 23⟩
        = some (slot23 true)
      ∧ (reelEnd [] policy).headSlot 0 { item7 true true with reelFrames := [24, 24] } ⟨23, 0, 23⟩ = none
      ∧ ({ item7 true true with reelFrames := [24, 24] } : Item).after ⟨23, 0, 23⟩ = some ⟨24, 1, 0⟩
      ∧ ((reelEnd [] policy).lane 0).pl.set.gapPolicy = policy
      ∧ ((reelEnd [] policy).lane 0).pl.state = .playing
      ∧ (blackHead.headSlot 0 (itemBlack 0) ⟨0, 0, 0⟩).isSome = true
      ∧ (itemBlack 0).after ⟨0, 0, 0⟩ = some ⟨1, 0, 1⟩ := by cases policy <;> decide +kernel

theorem test_reel_end : (((reelEnd [slot23 false] .stop).presentPulse 0).lane 0).pl.fetch.inHand = [(0, 1)]
    ∧ (((reelEnd [slot23 false] .stop).presentPulse 0).lane 0).pl.next = some ⟨24, 1, 0⟩
    ∧ (blackHead.presentPulse 0).out = [.screen 0 .black]
    ∧ (((blackHead.presentPulse 0)).lane 0).pl.next = some ⟨1, 0, 1⟩ := by decide +kernel

/-- A PLAYING lane at the last frame of a BLACK item, with items behind it. -/
def blackLast (rest : List Item) : State :=
  blackHead.modPl 0 (fun p => { p with
    queue := itemBlack 0 :: rest, next := some ⟨4, 0, 4⟩,
    buffer := [{ slot7 with pos := ⟨4, 0, 4⟩, composition := false, picture := [] }] })

theorem witness_PulsePresentsOrFills_blackLast (rest : List Item) :
    ((blackLast rest).headSlot 0 (itemBlack 0) ⟨4, 0, 4⟩).map (fun b => (b.stage, b.faulted)) = some (.ready, false)
      ∧ (itemBlack 0).kind = .black 5 ∧ (itemBlack 0).after ⟨4, 0, 4⟩ = none
      ∧ ((blackLast rest).lane 0).pl.queue = itemBlack 0 :: rest := ⟨rfl, rfl, rfl, rfl⟩

-- Its item is done, its slot free, and the item behind it next, or the lane IDLE (R97, R99).
theorem test_black_last : ((blackLast [itemBlack 1]).presentPulse 0).out.head? = some (.screen 0 .black)
    ∧ (((blackLast [itemBlack 1]).presentPulse 0).lane 0).pl.queue.map Item.uid = [1]
    ∧ (((blackLast [itemBlack 1]).presentPulse 0).lane 0).pl.next = some ⟨0, 0, 0⟩
    ∧ (((blackLast [itemBlack 1]).presentPulse 0).lane 0).pl.buffer = []
    ∧ (((blackLast [itemBlack 1]).presentPulse 0).lane 0).pl.stats.itemsDone = 1
    ∧ (((blackLast []).presentPulse 0).lane 0).pl.state = .idle := by decide +kernel

theorem test_gap_policies : ((reelEnd [] .black).presentPulse 0).out = [.screen 0 .black]
    ∧ ((reelEnd [] .stop).presentPulse 0).out = []
    ∧ (((reelEnd [] .stop).presentPulse 0).lane 0).pl.pause = some .gap
    ∧ ((reelEnd [slot23 true] .holdLast).presentPulse 0).out = [.screen 0 .repeatFrame]
    ∧ (((reelEnd [slot23 true] .holdLast).presentPulse 0).lane 0).pl.next = some ⟨24, 1, 0⟩
    ∧ (((reelEnd [slot23 true] .stop).presentPulse 0).lane 0).pl.buffer = [] := by decide +kernel

/-- The last frame of an item read with a fault, an item behind it. -/
def faultyLast (policy : GapPolicy) : State :=
  (lastFrame [itemBlack 1]).modPl 0 (fun p => { p with
    buffer := [{ slot7 with pos := ⟨47, 0, 47⟩, faulted := true }], set := { p.set with gapPolicy := policy } })

theorem witness_PulsePresentsOrFills_faultyLast (policy : GapPolicy) :
    ((faultyLast policy).headSlot 0 (item7 true true) ⟨47, 0, 47⟩).map (fun b => (b.stage, b.faulted))
        = some (.ready, true)
      ∧ ((faultyLast policy).lane 0).pl.set.gapPolicy = policy ∧ (faultyLast policy).screenHeld 0 = false := by
  cases policy <;> decide +kernel

theorem test_faulty_last : ((faultyLast .holdLast).presentPulse 0).out.head? = some (.screen 0 .black)
    ∧ (((faultyLast .holdLast).presentPulse 0).lane 0).pl.state = .playing
    ∧ (((faultyLast .holdLast).presentPulse 0).lane 0).pl.stats.fill = 1
    ∧ (((faultyLast .stop).presentPulse 0).lane 0).pl.pause = some .gap
    ∧ (((faultyLast .stop).presentPulse 0).lane 0).pl.stats.itemsDone = 1 := by decide +kernel

-- Its slot is free and its item has left the queue, whose next item is the new head (R91, R98).
theorem test_faulty_last_consumed : (((faultyLast .black).presentPulse 0).lane 0).pl.buffer = []
    ∧ (((faultyLast .black).presentPulse 0).lane 0).pl.queue.map Item.uid = [1]
    ∧ (((faultyLast .stop).presentPulse 0).lane 0).pl.buffer = []
    ∧ (((faultyLast .stop).presentPulse 0).lane 0).pl.next = some ⟨0, 0, 0⟩ := by decide +kernel

/-- A cue engine with a LOADED bank of one cue and one active slot whose time is over at frame 1,048. -/
def engine : CueEngine :=
  { CueEngine.reset with
    bankA := { Bank.empty with state := .loaded, reel := some (0, 0), entries := [fadeCue], frames := 2000 } }

theorem witness_CuesActivated : engine.bankOf 0 0 = some .bankA ∧ (engine.bank .bankA).state = .loaded
    ∧ engine.rebuild = false
    ∧ (engine.presented 0 0 1000).1.active.get 0 = some ⟨fadeCue, 36, false⟩ := by decide +kernel

/-- That engine with two cues more, one slot free, and no longer a rebuild due. -/
def crowded : CueEngine :=
  { engine with
    bankA := { engine.bankA with entries := [fadeCue, { fadeCue with number := 2 }, { fadeCue with outAt := 1000 }] },
    active := ⟨some ⟨{ fadeCue with outAt := 1000 }, 9, false⟩, some ⟨fadeCue, 36, false⟩,
               some ⟨fadeCue, 36, false⟩, some ⟨fadeCue, 255, true⟩⟩ }

theorem witness_CuesActivated_entered : crowded.bankOf 0 0 = some .bankA ∧ (crowded.bank .bankA).state = .loaded
    ∧ crowded.rebuild = false
    ∧ ((crowded.bank .bankA).entries.takeWhile (fun c => decide (c.inAt ≤ 1000))).length = 3
    ∧ crowded.dropped ≤ top32 := by decide +kernel

-- The slot retired at frame 1,000 takes the first cue reached, the second has no slot (R150, R151).
theorem test_cue_enters : (crowded.presented 0 0 1000).2 = [.hide 0, .showCue 0 0 0 0 36 []]
    ∧ (crowded.presented 0 0 1000).1.dropped = 1
    ∧ ((crowded.presented 0 0 1000).1.bank .bankA).cursor = 3 := by decide +kernel

/-- Package 7 declared with one cue, whose track is complete or not. -/
def cued7 (received : List Span) : State :=
  (with7 .filling 0 0).modStc (fun c => c.modRecord 7 (fun r =>
    { r with reels := [{ picture := Track.empty 48, sound := none,
                         subtitle := some { Track.empty 1 with received := received } }] }))

theorem witness_CuesActivated_taken : subtitleTrack (cued7 [⟨0, 1⟩]) 7 0 = .complete 1
    ∧ subtitleTrack (cued7 []) 7 0 = .incomplete ∧ subtitleTrack (with7 .filling 0 0) 7 0 = .absent := by
  decide +kernel

/-- A cue block: number 5, frames 10 to 40, fades of 6 frames, region 1, offset 7, style 2, and two lines of 2 and 1
bytes. -/
def cueBlock : List Byte :=
  bs [0, 5, 0, 0, 0, 10, 0, 0, 0, 40, 6, 6, 1, 7, 2, 2, 0, 2, 65, 66, 0, 1, 67, 0]

theorem witness_CuesActivated_record : parseCue cueBlock
    = some { number := 5, inFrame := 10, outFrame := 40, fadeIn := 6, fadeOut := 6, region := 1, offset := 7,
             style := 2, lines := [bs [65, 66], bs [67]] } := by decide +kernel

-- No number, a fade of 61 frames, no line, and a line longer than the block (R144).
theorem test_cue_invalid : parseCue (cueBlock.set 1 0) = none ∧ parseCue (cueBlock.set 10 61) = none
    ∧ parseCue (cueBlock.set 15 0) = none ∧ parseCue (cueBlock.set 21 9) = none := by decide +kernel

theorem witness_CuesActivated_built : ((loadingBank 0).bank .bankA).state = .loading
    ∧ ((loadingBank 0).bank .bankA).awaiting = 0 := by decide +kernel

theorem test_take_up_missing : ((((cued7 []).takeUpReel 0 7 0 0 48).lane 0).sce.bankA.state = .missing)
    ∧ ((cued7 []).takeUpReel 0 7 0 0 48).ntu.raised = 0x80#44 := by decide +kernel

/-- That engine with the cue active and the cursor past it. -/
def engineShowing : CueEngine :=
  { engine with bankA := { engine.bankA with cursor := 1 },
                active := ⟨some ⟨fadeCue, 36, false⟩, none, none, none⟩, current := some .bankA }

theorem test_cue_updates : engineShowing.presented 0 0 1001
      = ({ engineShowing with active := ⟨some ⟨fadeCue, 72, false⟩, none, none, none⟩ }, [.opacity 0 72])
    ∧ (engineShowing.presented 0 0 1048).2 = [.hide 0] := by decide +kernel

/-- The body of a SET_CHANNEL of L0. -/
def channelBody (channel enable tag : Nat) : List Nat := [0, channel, enable, tag, 0, 1, 0, 0, 0, 0, 0, 0]

theorem witness_ChannelSet : (sent up 0x60 (channelBody 8 1 7)).Commanded 0x60 (bs (channelBody 8 1 7))
    ∧ (bs (channelBody 8 1 7)).length = 12
    ∧ tagTaken ((ripe up 0x60 (channelBody 8 1 7)).lane 0).sne.map 8 7 = true
    ∧ tagTaken ((ripe up 0x60 (channelBody 8 1 7)).lane 0).sne.map 8 8 = false
    ∧ ((ripe up 0x60 (channelBody 8 1 7)).lane 0).pl.state ≠ .resetting
    ∧ u8 (bs (channelBody 15 0 15)) 2 = 0 ∧ u8 (bs (channelBody 15 0 15)) 1 ≤ 15
    ∧ (ripe up 0x60 (channelBody 8 1 8)).clock.now = (ripe up 0x60 (channelBody 8 1 8)).lastBase
    ∧ ((ripe up 0x60 (channelBody 8 1 8)).lane 0).sne.built = []
    ∧ (up.takeAt 9).clock.now ≠ (up.takeAt 9).lastBase :=
  ⟨sent_commanded _ _ _ rfl rfl, by decide +kernel⟩

-- At the instant of a base tick the tick that begins has the new entry; within a tick the old one stands (R164).
theorem test_channel_at_tick : leads (.setChannel 0) (sent up 0x60 (channelBody 0 0 0))
      (fun t => (t.lane 0).sne.latched.length == 7) = true
    ∧ leads (.setChannel 9) (sent up 0x60 (channelBody 0 0 0))
      (fun t => (t.lane 0).sne.latched.length == 8) = true := by decide +kernel

/-- L0's sound RUNNING at content sample 1,000, with corrections scheduled. -/
def sounding (corrections : List Correction) : State :=
  (houseIn .playing).modSne 0 (fun u => { u with state := .running, pointer := some 1000, corrections := corrections })

theorem witness_SamplesMoveSound : ((sounding []).lane 0).sne.state = .running
    ∧ ((sounding []).lane 0).sne.pointer = some 1000 ∧ ((sounding []).lane 0).sne.corrections = [] := by
  decide +kernel

theorem witness_SamplesMoveSound_slip :
    ((sounding [⟨5, true⟩]).lane 0).sne.corrections = [⟨5, true⟩] ∧ (sounding [⟨5, true⟩]).clock.samples ≤ 5
      ∧ (sounding [⟨5, true⟩]).clock.now ≤ 5 * 3125 ∧ 5 * 3125 < (sounding [⟨5, true⟩]).horizon
      ∧ (((sounding [⟨5, true⟩]).caughtUp (5 * 3125 + 1)).lane 0).sne = ((sounding [⟨5, true⟩]).lane 0).sne := by
  decide +kernel

theorem test_slip_repeat : leads (.slipCorrection 0) (sounding [⟨2, true⟩])
    (fun t => (t.lane 0).sne.pointer == some 1002 && t.clock.samples == 3) = true := by decide +kernel
theorem test_slip_skip : leads (.slipCorrection 0) (sounding [⟨2, false⟩])
    (fun t => (t.lane 0).sne.pointer == some 1004 && t.clock.samples == 3) = true := by decide +kernel

/-- Slot 0 of package 101's item READY with frame 0 and a sound unit's first samples: 1, 2, 3 on. -/
def soundSlot0 : BufSlot :=
  { newSlot 0 item101 ⟨0, 0, 0⟩ with stage := .ready, sound := bs [0, 0, 1, 0xFF, 0xFF, 0xFE] ++ b24s }
where
  /-- Samples 3 to 32. -/
  b24s : List Byte := (List.range 30).flatMap (fun i => bs [0, 0, i + 3])

/-- L0's sound in a state under a ramp at a content sample of that item, channel 1 at a gain of 2. -/
def carrying (state : SoundState) (ramp : Ramp) (c : Int) (corrections : List Correction) : Lane :=
  let s := (houseIn .playing).modPl 0 (fun p => { p with buffer := [soundSlot0] })
  let s := s.modSne 0 (fun u => { u with
    state := state, pointer := some c, ramp := ramp, corrections := corrections, item := some ⟨0, 28800, 8⟩,
    map := u.map.modify 1 (fun x => { x with gain := 131072 }), store := [(0, List.replicate 48 4800)] })
  s.lane 0

theorem witness_SamplesMoveSound_values : (carrying .running (.up 5) 1 [⟨7, false⟩]).sne.state = .running
    ∧ (carrying .running (.up 5) 1 [⟨7, false⟩]).sne.pointer = some 1
    ∧ (carrying .running (.up 5) 1 [⟨7, false⟩]).sne.corrections.find? (fun k => k.sample == 7) = some ⟨7, false⟩
    ∧ (carrying .running (.resync 5) 1 []).sne.ramp = .resync 5 ∧ (carrying .falling (.down 5) 1 []).sne.ramp = .down 5
    ∧ (carrying .off .none 0 []).sne.state = .off ∧ (carrying .held .none 0 []).sne.state = .held
    ∧ (carrying .running .none 1 []).sne.item = some ⟨0, 28800, 8⟩ ∧ (carrying .running .none 1 []).pl.rate = some 24
    ∧ (carrying .running .none 1 []).pl.soundSlot 0 0 = some soundSlot0 := by decide +kernel

-- The sample at place c * channels + channel, channel 1 doubled; silence before the item (R130, R136).
theorem test_sample_values : (carrying .running .none 0 []).content 0 0 = 1
    ∧ (carrying .running .none 0 []).content 1 0 = -2 ∧ (carrying .running .none 0 []).content 1 (-1) = 0
    ∧ ((carrying .running .none 1 []).sample 7).sne.built.head? = some [9, 20, 11, 12, 13, 14, 15, 16]
    ∧ ((carrying .running .none 2 [⟨7, true⟩]).sample 7).sne.built.head? = some [9, 20, 11, 12, 13, 14, 15, 16]
    ∧ ((carrying .running .none 0 [⟨7, false⟩]).sample 7).sne.built.head? = some [9, 20, 11, 12, 13, 14, 15, 16]
    ∧ ((carrying .off .none 1 []).sample 7).sne.built.head? = some [0, 0, 0, 0, 0, 0, 0, 0] := by decide +kernel

-- A ramp-down's wall sample i has the factor 47 - i, and 4,800 * 45 / 48 is 4,500 (R134, R135).
theorem test_ramp_values : ((carrying .falling (.down 5) 1 []).sample 7).sne.built.head?.map List.head? = some (some 4500)
    ∧ ((carrying .running (.resync 5) 1 []).sample 7).sne.built.head?.map List.head? = some (some 4500)
    ∧ ((carrying .running (.up 5) 3 []).sample 29).sne.built.head?.map List.head? = some (some 12)
    ∧ ((carrying .running (.up 5) 3 []).sample 5).sne.built.head?.map List.head? = some (some 0) := by decide +kernel

/-- That lane's part with wall samples of the tick produced, its screen released. -/
def midTick (n : Nat) : State :=
  ((houseIn .playing).modLane 0 (fun _ => carrying .running .none 0 [])).produceTo n

theorem witness_SamplesInRangeKept_mid : (midTick 2).TickBuilt ∧ (midTick 48).TickBuilt := by
  unfold State.TickBuilt; decide +kernel

-- A block has the channel's samples in wall-sample order, and its tick's 48 at the end (R171).
theorem test_block_order : (((midTick 2).lane 0).sne.blocks 0).map SoundBlock.samples
      = [[1, 9], [-4, 20], [3, 11], [4, 12], [5, 13], [6, 14], [7, 15], [8, 16]]
    ∧ (((midTick 48).lane 0).sne.blocks 0).map (fun b => b.samples.length) = List.replicate 8 48 := by decide +kernel

/-- L0's sound FALLING from wall sample 0, to OFF or to HELD. -/
def falling (off : Bool) : State :=
  (houseIn .paused).modSne 0 (fun u =>
    { u with state := .falling, pointer := some 1000, ramp := .down 0, thenOff := off })

theorem witness_SamplesMoveSound_fall : ((falling true).lane 0).sne.state = .falling
    ∧ ((falling true).lane 0).sne.ramp = .down 0 ∧ (falling true).clock.samples ≤ 0 + 47
    ∧ (0 + 47) * 3125 < (falling true).horizon ∧ ((falling true).lane 0).sne.thenOff = true
    ∧ ((falling false).lane 0).sne.thenOff = false
    ∧ (((falling true).caughtUp ((0 + 47) * 3125 + 1)).lane 0).sne = ((falling true).lane 0).sne := by decide +kernel

/-- Frame 10 of an item with sound, at 24 frames a second. -/
def handed10 : Handed := ⟨⟨0, 48, 2⟩, 10, 2000, false⟩

/-- L0's sound in a state at a content sample. -/
def soundAt (state : SoundState) (pointer : Option Int) : Lane :=
  ((houseIn .playing).modSne 0 (fun u => { u with state := state, pointer := pointer })).lane 0

theorem witness_SamplesMoveSound_frames : (soundAt .off none).sne.pointer = none
    ∧ (soundAt .running (some 20003)).sne.pointer = some 20003
    ∧ (soundAt .running (some 20003)).sne.seatPending = false ∧ handed10.frame ≠ 0
    ∧ (20003 - 20000 : Int).natAbs ≤ (soundAt .running (some 20003)).pl.set.resyncLimit
    ∧ (soundAt .running (some 30000)).pl.set.resyncLimit < (30000 - 20000 : Int).natAbs
    ∧ (soundAt .running none).sne.resumed = false ∧ handed10.gapEnded = false ∧ 0 < handed10.item.channels
    ∧ (soundAt .held (some 0)).sne.state ≠ .running ∧ (soundAt .off none).pl.rate = some 24 := by decide +kernel

theorem test_sound_frame : ((soundAt .off none).soundFrame handed10 5).sne.pointer = some 20000
    ∧ ((soundAt .off none).soundFrame handed10 5).sne.ramp = .up 5
    ∧ ((soundAt .running (some 20003)).soundFrame handed10 5).sne.last = .slip 3
    ∧ ((soundAt .running (some 30000)).soundFrame handed10 5).sne.pointer = some 20000
    ∧ ((soundAt .running (some 30000)).soundFrame handed10 5).sne.counts.resyncs = 1
    ∧ ((soundAt .running (some 30000)).soundFrame { handed10 with frame := 0 } 5).sne.last = .seat := by
  decide +kernel

theorem test_sound_silent : ((soundAt .held (some 7)).silentFrame handed10 5 true).sne.pointer = some 20000
    ∧ ((soundAt .held (some 7)).silentFrame handed10 5 true).sne.error = none := by decide +kernel

/-- Booth time 9 with a sub-second count. -/
def boothAt (sub : Nat) (due : Bool) : State :=
  { up with clock := { up.clock with booth := some 9, sub := sub, secondDue := due } }

theorem witness_ClockTicks : up.clock.secondDue = false ∧ up.clock.booth = none
    ∧ (boothAt 998 false).clock.booth.isSome = true ∧ (boothAt 998 false).clock.sub ≠ 999
    ∧ (boothAt 999 false).clock.sub = 999 ∧ (boothAt 999 true).clock.secondDue = true
    ∧ (boothAt 999 true).clock.booth = some 9 ∧ up.takenAt 0 ≤ up.lastBase
    ∧ (∀ l, (up.lane l).lossDue = false) ∧ up.ticketDue = false := by decide +kernel

theorem test_second_rises : leads .boothSecond (boothAt 999 true)
    (fun t => t.clock.booth == some 10 && t.clock.sub == 0) = true := by decide +kernel

theorem witness_Expires : house.shc.Expires (some 200) (some (satInc top32 200))
    ∧ ¬ house.shc.Expires (some 199) (some (satInc top32 199)) := by
  unfold Showings.Expires; decide +kernel

theorem test_expiry_raised : leads .setTime (sent house 0x81 [0, 0, 0, 201])
      (fun t => t.ntu.raised.getLsbD srcLicenceExpired) = true
    ∧ leads .setTime (sent house 0x81 [0, 0, 0, 200]) (fun t => t.ntu.raised == 0#44) = true := by decide +kernel

theorem witness_ReadyAnswered : lively.link.queue = ⟨0, 0, [1, -1]⟩ :: [] ∧ up.link.queue = []
    ∧ up.link.ready = false ∧ lively.pin = false := by decide +kernel

/-- A part whose sound link queue has a number of free places, a ready pending or not. -/
def linkWith (free : Nat) (ready : Bool) : State :=
  { up with link := { up.link with queue := List.replicate (1024 - free) ⟨0, 0, []⟩, ready := ready } }

theorem witness_ReadyAnswered_offer : (linkWith 1 false).link.queue.length + 1 ≤ 1024
    ∧ 1024 < (linkWith 0 false).link.queue.length + 1 ∧ (linkWith 1024 true).link.ready = true
    ∧ (linkWith 1024 true).link.queue ++ [(⟨1, 2, []⟩ : SoundBlock)] = ⟨1, 2, []⟩ :: []
    ∧ house.laneHeld 0 = false ∧ up.laneHeld 0 = true ∧ (house.lane 0).sne.latched ≠ [] := by decide +kernel

theorem test_offer_dropped : ((linkWith 1 false).offerBlocks 0 [⟨0, 0, []⟩, ⟨0, 1, []⟩]).link.dropped = 1
    ∧ (((linkWith 1 false).offerBlocks 0 [⟨0, 0, []⟩, ⟨0, 1, []⟩]).lane 0).sne.counts.dropped = 1
    ∧ ((linkWith 2 false).offerBlocks 0 [⟨0, 0, []⟩, ⟨0, 1, []⟩]).link.queue.length = 1024 := by decide +kernel

/-! ### Notices, the part and the arithmetic -/

theorem witness_NoticeCommands : (sent up 0x70 [1, 0, 0, 0, 0, 8]).Commanded 0x70 (bs [1, 0, 0, 0, 0, 8])
    ∧ (bs [1, 0, 0, 0, 0, 8]).length = 6 ∧ sourceSet (bs [1, 0, 0, 0, 0, 8]) < 2 ^ 44
    ∧ 2 ^ 44 ≤ sourceSet (bs [0, 0, 0, 0, 0, 16]) ∧ up.shc.mode = .rehearsal
    ∧ (playingShow 1 .live).shc.mode = .live :=
  ⟨sent_commanded _ _ _ rfl rfl, by decide +kernel⟩

theorem witness_NoticeCommands_kinds : (sent up 0x71 [1, 0, 0, 0, 0, 0]).Commanded 0x71 (bs [1, 0, 0, 0, 0, 0])
    ∧ (sent up 0x73 [1, 0, 0, 0, 0, 0]).Commanded 0x73 (bs [1, 0, 0, 0, 0, 0])
    ∧ (sent up 0x74 [1, 0, 0, 0, 0, 0]).Commanded 0x74 (bs [1, 0, 0, 0, 0, 0])
    ∧ (sent up 0x72 [1]).Commanded 0x72 (bs [1]) ∧ (sent up 0x72 [2]).Commanded 0x72 (bs [2]) :=
  ⟨sent_commanded _ _ _ rfl rfl, sent_commanded _ _ _ rfl rfl, sent_commanded _ _ _ rfl rfl,
    sent_commanded _ _ _ rfl rfl, sent_commanded _ _ _ rfl rfl⟩

theorem test_inject_notice : leads .injectNotice (sent noticing 0x74 [2, 0, 0, 0, 0, 0])
      (fun t => t.ntu.raised == 3#44 && t.ntu.enabled == 1#44) = true
    ∧ leads .ackNotice (sent noticing 0x73 [1, 0, 0, 0, 0, 0]) (fun t => t.ntu.raised == 0#44) = true := by
  decide +kernel

theorem witness_PartCommands : (sent State.reset 0x80 []).bcp.next = some ⟨0x80, 0x55#8, [], none⟩
    ∧ (sent State.reset 0x80 []).pin = false ∧ (sent up 0x81 [0, 0, 0, 9]).Commanded 0x81 (bs [0, 0, 0, 9])
    ∧ (sent up 0x82 []).Commanded 0x82 [] :=
  ⟨rfl, rfl, sent_commanded _ _ _ rfl rfl, sent_commanded _ _ _ rfl rfl⟩

/-- The cue record of the manual's scaling example (R141). -/
def scaledCue : CueRecord :=
  { number := 1, inFrame := 500, outFrame := 510, fadeIn := 8, fadeOut := 6, region := 0, offset := 0,
    style := 0, lines := [] }

theorem witness_FadesScaled : (cueEntry 0 1000 0 scaledCue).isSome = true
    ∧ (cueEntry 0 1000 0 { scaledCue with outFrame := 514 }).map CueEntry.fadeIn = some 8 := by decide +kernel

-- The manual's table of clamped times (R140).
theorem test_cue_times :
    (cueEntry (-12) 1000 0 { scaledCue with inFrame := 5, outFrame := 40 }).map (fun e => (e.inAt, e.outAt)) = some (0, 28)
      ∧ cueEntry (-12) 1000 0 { scaledCue with inFrame := 3, outFrame := 10 } = none
      ∧ (cueEntry 12 1000 0 { scaledCue with inFrame := 980, outFrame := 995 }).map (fun e => (e.inAt, e.outAt))
        = some (992, 1000)
      ∧ cueEntry 12 1000 0 { scaledCue with inFrame := 990, outFrame := 1000 } = none
      ∧ cueEntry 0 1000 0 { scaledCue with inFrame := 400, outFrame := 400 } = none := by decide +kernel

theorem witness_OpacityCases : fadeCue.inAt ≤ 1000 ∧ 1047 < fadeCue.outAt ∧ fadeCue.fadeIn ≤ 60
    ∧ fadeCue.fadeOut ≤ 60 ∧ (engine.rebuildAt .bankA 1047).1.active.get 0 = some ⟨fadeCue, 36, false⟩ := by
  decide +kernel

theorem witness_SlipsAndRates : (16 : Nat) ≤ 16 ∧ (17 : Nat) ≤ 800 ∧ 0 < 333007 ∧ 1 ≤ 4 ∧ 4 ≤ min (9 : Int).natAbs 4
    ∧ 0 < 24 ∧ (((24023 : Nat) : Int) - 1000 * (24 : Nat)) * 1000 = 23000 := by decide

-- The schedule of a slip of +4 at 24 frames per second: every 400 wall samples (R133).
theorem test_slip_schedule : (slipSchedule 100 2000 (slipOf 9 4)).map Correction.sample = [500, 900, 1300, 1700] := by
  decide +kernel

/-! ### Boundary -/

theorem test_pin_holds : exec .baseTick { up with pin := true } = .refused .heldInReset := rfl

end Sys2Proof.Tests
end

section
/-! PROOF. What settling at the end of an event leaves alone, as far as the screens are concerned: the hold flags,
the screen links, and the state of every lane that is not CUEING. -/

namespace Sys2Proof.Machine

open Sys2Proof

/-! ### The frame of settling -/

/-- The hold flags stand, nothing is sent on a screen link, and a lane's state moves from CUEING to CUED only
(R75, R94). -/
structure State.ScreensQuiet (s u : State) : Prop where
  held : u.held = s.held
  out : ∃ more, u.out = s.out ++ more ∧ ∀ x d, Output.screen x d ∉ more
  state : ∀ l, (u.lane l).pl.state = (s.lane l).pl.state
    ∨ (s.lane l).pl.state = .cueing ∧ (u.lane l).pl.state = .cued

namespace State.ScreensQuiet

variable {s u v : State}

theorem of_eq (hheld : u.held = s.held) (hout : u.out = s.out)
    (hstate : ∀ l, (u.lane l).pl.state = (s.lane l).pl.state) : s.ScreensQuiet u :=
  ⟨hheld, ⟨[], by simp [hout]⟩, fun l => .inl (hstate l)⟩

theorem refl (s : State) : s.ScreensQuiet s := of_eq rfl rfl fun _ => rfl

theorem trans (h : s.ScreensQuiet u) (k : u.ScreensQuiet v) : s.ScreensQuiet v := by
  obtain ⟨a, ha, hna⟩ := h.out
  obtain ⟨b, hb, hnb⟩ := k.out
  refine ⟨k.held.trans h.held, ⟨a ++ b, by simp [ha, hb], fun x d hm => ?_⟩, fun l => ?_⟩
  · exact (List.mem_append.mp hm).elim (hna x d) (hnb x d)
  · have hl := h.state l
    have kl := k.state l
    grind

/-- A lane that is not CUEING keeps its state. -/
theorem state_eq {l : LaneId} (h : s.ScreensQuiet u) (hc : (s.lane l).pl.state ≠ .cueing) :
    (u.lane l).pl.state = (s.lane l).pl.state :=
  (h.state l).resolve_right fun hl => hc hl.1

/-! Each update of the state that settling makes. -/

theorem modPl (h : s.ScreensQuiet u) (l : LaneId) {f : Playout → Playout} (hf : ∀ p, (f p).state = p.state) :
    s.ScreensQuiet (u.modPl l f) := by
  refine h.trans (of_eq rfl rfl fun k => ?_)
  by_cases hk : k = l
  · rw [hk, State.lane_modPl_same, hf]
  · rw [State.lane_modPl_ne u f hk]

theorem modFetch (h : s.ScreensQuiet u) (l : LaneId) (f : Fetcher → Fetcher) : s.ScreensQuiet (u.modFetch l f) :=
  h.modPl l fun _ => rfl

theorem fetchState (h : s.ScreensQuiet u) (l : LaneId) (x : FetchState) : s.ScreensQuiet (u.fetchState l x) :=
  h.modFetch l _

theorem fetchAt (h : s.ScreensQuiet u) (l : LaneId) (c : Cursor) : s.ScreensQuiet (u.fetchAt l c) :=
  h.modFetch l _

theorem modStats (h : s.ScreensQuiet u) (l : LaneId) (f : LaneStats → LaneStats) :
    s.ScreensQuiet (u.modStats l f) :=
  h.modPl l fun _ => rfl

theorem modItem (h : s.ScreensQuiet u) (l : LaneId) (uid : Nat) (f : Item → Item) :
    s.ScreensQuiet (u.modItem l uid f) :=
  h.modPl l fun _ => rfl

theorem modSce (h : s.ScreensQuiet u) (l : LaneId) (f : CueEngine → CueEngine) : s.ScreensQuiet (u.modSce l f) :=
  h.trans (of_eq rfl rfl fun k => by rw [State.modSce_lane_pl])

theorem modStc (h : s.ScreensQuiet u) (f : Storage → Storage) : s.ScreensQuiet (u.modStc f) :=
  h.trans (of_eq rfl rfl fun _ => rfl)

theorem modPka (h : s.ScreensQuiet u) (f : Assembler → Assembler) : s.ScreensQuiet (u.modPka f) :=
  h.trans (of_eq rfl rfl fun _ => rfl)

theorem raiseLane (h : s.ScreensQuiet u) (l : LaneId) (n : Nat) : s.ScreensQuiet (u.raiseLane l n) :=
  h.trans (of_eq rfl rfl fun _ => rfl)

theorem issue (h : s.ScreensQuiet u) (o : Operation) {out : Output} (ho : ∀ x d, out ≠ .screen x d) :
    s.ScreensQuiet (u.issue o out) :=
  h.trans ⟨rfl, ⟨[out], rfl, fun x d hm => ho x d (List.mem_singleton.mp hm).symm⟩, fun _ => .inl rfl⟩

theorem issueRead (h : s.ScreensQuiet u) (kind : OpKind) (first count : Nat) :
    s.ScreensQuiet (u.issueRead kind first count) :=
  h.issue _ fun _ _ => nofun

theorem reserve (h : s.ScreensQuiet u) (l : LaneId) (lic pid total : Nat) :
    s.ScreensQuiet (u.reserve l lic pid total) := by
  unfold State.reserve
  split
  · exact h
  · dsimp only
    split
    · exact h.trans (of_eq rfl rfl fun _ => rfl)
    · exact h.trans (of_eq rfl rfl fun _ => rfl)

theorem takeUpReel (h : s.ScreensQuiet u) (l : LaneId) (pid item reel frames : Nat) :
    s.ScreensQuiet (u.takeUpReel l pid item reel frames) := by
  unfold State.takeUpReel
  dsimp only
  split
  · exact h.modSce l _
  · exact ((h.modSce l _).modSce l _).raiseLane l _
  · exact (h.modSce l _).modFetch l _

end State.ScreensQuiet

/-! ### The fetcher and the cue point -/

theorem State.promoted_quiet (s : State) (l : LaneId) (i : Item) : s.ScreensQuiet (s.promoted l i) :=
  ((ScreensQuiet.refl s).modItem l _ _).fetchAt l _

theorem State.block_quiet (s : State) (l : LaneId) (i : Item) (why : Reason) : s.ScreensQuiet (s.block l i why) :=
  (((ScreensQuiet.refl s).modItem l _ _).modStats l _).fetchState l _

theorem State.takeUp_quiet (s : State) (l : LaneId) (i : Item) : s.ScreensQuiet (s.takeUp l i).1 := by
  unfold State.takeUp
  split
  · exact (ScreensQuiet.refl s).fetchState l _
  · split
    · exact (ScreensQuiet.refl s).fetchAt l _
    · split
      · split
        · exact s.block_quiet l i _
        · exact ((ScreensQuiet.refl s).reserve l _ _ _).trans (State.promoted_quiet _ l i)
      · exact s.promoted_quiet l i

theorem State.fetchBlack_quiet (s : State) (l : LaneId) (i : Item) (pos : Pos) :
    s.ScreensQuiet (s.fetchBlack l i pos) := by
  refine .fetchAt (.modPl (.refl s) l ?_) l _
  exact fun _ => rfl

theorem State.fetchFrame_quiet (s : State) (l : LaneId) (i : Item) (pos : Pos) :
    s.ScreensQuiet (s.fetchFrame l i pos) :=
  (ScreensQuiet.refl s).modPl l fun _ => rfl

theorem State.stall_quiet (s : State) (l : LaneId) (pid reel : Nat) (tracks : List TrackKind) :
    s.ScreensQuiet (s.stall l pid reel tracks) :=
  (((ScreensQuiet.refl s).modStc _).modStats l _).fetchState l _

theorem State.reelInHand_quiet (s : State) (l : LaneId) (i : Item) (pid : Nat) (pos : Pos) :
    s.ScreensQuiet (s.reelInHand l i pid pos) :=
  ((ScreensQuiet.refl s).modFetch l _).takeUpReel l _ _ _ _

theorem State.fetchAtFrame_quiet (s : State) (l : LaneId) (i : Item) (pos : Pos) (taken : Bool) :
    s.ScreensQuiet (s.fetchAtFrame l i pos taken).1 := by
  unfold State.fetchAtFrame
  dsimp only
  split
  · split
    · exact (ScreensQuiet.refl s).fetchState l _
    · exact s.fetchBlack_quiet l i pos
  · split
    · split
      · exact s.reelInHand_quiet l i _ pos
      · exact (ScreensQuiet.refl s).fetchState l _
    · split
      · exact (ScreensQuiet.refl s).fetchState l _
      · split
        · exact s.stall_quiet l _ _ _
        · exact s.fetchFrame_quiet l i pos

theorem State.fetchOnce_quiet (s : State) (l : LaneId) : s.ScreensQuiet (s.fetchOnce l).1 := by
  unfold State.fetchOnce
  dsimp only
  split
  · exact .refl s
  · split
    · exact .refl s
    · split
      · exact (ScreensQuiet.refl s).fetchState l _
      · exact s.takeUp_quiet l _
    · split
      · exact .refl s
      · exact s.fetchAtFrame_quiet l _ _ _

theorem State.fetchAll_quiet (s : State) (l : LaneId) (n : Nat) : s.ScreensQuiet (s.fetchAll l n) := by
  induction n generalizing s with
  | zero => exact .refl s
  | succ n ih =>
    have hmove := s.fetchOnce_quiet l
    unfold State.fetchAll
    split
    · rename_i s' hs
      rw [hs] at hmove
      exact hmove.trans (ih s')
    · rename_i s' hs
      rwa [hs] at hmove

/-- The cue point is the one place where settling moves a lane's state. -/
theorem State.testCued_quiet (s : State) (l : LaneId) : s.ScreensQuiet (s.testCued l) := by
  unfold State.testCued
  dsimp only
  split
  · rename_i hcue
    refine .raiseLane ?_ l _
    refine ⟨rfl, ⟨[], by simp⟩, fun k => ?_⟩
    by_cases hk : k = l
    · subst hk
      exact .inr ⟨hcue.1, by rw [State.lane_modPl_same]⟩
    · exact .inl (by rw [State.lane_modPl_ne s _ hk])
  · exact .refl s

theorem State.fetchers_quiet (s : State) : s.ScreensQuiet s.fetchers := by
  have hlanes : ∀ (ls : List LaneId) (u : State),
      u.ScreensQuiet (ls.foldl (fun s l => (s.fetchAll l 128).testCued l) u) := by
    intro ls
    induction ls with
    | nil => exact .refl
    | cons l rest ih =>
      intro u
      exact ((u.fetchAll_quiet l 128).trans (State.testCued_quiet _ l)).trans (ih _)
  exact hlanes fours s

/-! ### The arbiter -/

theorem State.grantLane_quiet (s : State) (l : LaneId) : s.ScreensQuiet (s.grantLane l) := by
  have hdrop : s.ScreensQuiet (s.modFetch l fun f => { f with work := .nothing }) :=
    (ScreensQuiet.refl s).modFetch l _
  unfold State.grantLane
  dsimp only
  split
  · exact .refl s
  · split
    · exact hdrop
    · split
      · exact ((ScreensQuiet.refl s).issueRead _ _ _).modFetch l _
      · exact ((ScreensQuiet.refl s).issueRead _ _ _).modFetch l _
  · split
    · exact hdrop
    · exact ((ScreensQuiet.refl s).issueRead _ _ _).modFetch l _
  · split
    · exact hdrop
    · split
      · exact hdrop
      · split
        · exact hdrop
        · exact ((ScreensQuiet.refl s).issueRead _ _ _).modFetch l _

theorem State.grantCatalogue_quiet (s : State) (q : SlotRequest) : s.ScreensQuiet (s.grantCatalogue q) :=
  ((ScreensQuiet.refl s).modStc _).issue _ fun _ _ => nofun

theorem State.grantChunk_quiet (s : State) (slot : Nat) : s.ScreensQuiet (s.grantChunk slot) := by
  have horder : s.ScreensQuiet (s.modPka fun p => { p with order := p.order.filter fun n => n != slot }) :=
    (ScreensQuiet.refl s).modPka _
  unfold State.grantChunk
  dsimp only
  split
  · split
    · exact horder
    · exact (horder.modPka _).issue _ fun _ _ => nofun
  · exact horder

theorem State.grant_quiet (s : State) (g : Grant) : s.ScreensQuiet (s.grant g) := by
  refine ((ScreensQuiet.refl s).modStc fun c =>
    { c with guard := guardAfter c.guard g (!s.pka.order.isEmpty) }).trans ?_
  cases g with
  | lane l => exact State.grantLane_quiet _ l
  | catalogue q => exact State.grantCatalogue_quiet _ q
  | chunk slot => exact State.grantChunk_quiet _ slot

/-- One decision: the fetchers move, and either nothing is granted or a grant is made and the decisions go on. The
definition is opened by `delta`, since Lean's own equation for it evaluates the four fetchers and runs out of
heartbeats. -/
theorem State.decisions_succ_cases (s : State) (n : Nat) : s.decisions (n + 1) = s.fetchers
    ∨ ∃ g, s.decisions (n + 1) = (s.fetchers.grant g).decisions n := by
  delta State.decisions
  dsimp only
  delta State.decisions._f
  dsimp only
  split
  · exact .inl rfl
  · split
    · exact .inl rfl
    · rename_i g _
      exact .inr ⟨g, rfl⟩

theorem State.decisions_quiet (s : State) (n : Nat) : s.ScreensQuiet (s.decisions n) := by
  induction n generalizing s with
  | zero => exact .refl s
  | succ n ih =>
    obtain hrest | ⟨g, hgrant⟩ := s.decisions_succ_cases n
    · rw [hrest]
      exact s.fetchers_quiet
    · rw [hgrant]
      exact (s.fetchers_quiet.trans (State.grant_quiet _ g)).trans (ih _)

/-- Settling changes no hold flag, sends nothing on a screen link, and moves a lane from CUEING to CUED only. -/
theorem State.settle_quiet (s : State) : s.ScreensQuiet s.settle := by
  unfold State.settle
  exact (s.decisions_quiet 9).modStc _

theorem State.answered_quiet (s : State) (r : Reply) : s.ScreensQuiet (s.answered r) :=
  (ScreensQuiet.of_eq rfl rfl fun _ => rfl : s.ScreensQuiet (s.reply r)).trans (State.settle_quiet _)

end Sys2Proof.Machine
end

section
/-! PROOF. RELEASE_SCREEN (R78). -/

namespace Sys2Proof

theorem Quad.set_get_self {α : Type} (v : Quad α) (i : Fin 4) : v.set i (v.get i) = v := by
  refine Quad.ext_get _ _ fun k => ?_
  by_cases hk : k = i
  · rw [hk, Quad.get_set_same]
  · rw [Quad.get_set_ne _ _ hk]

namespace Machine

/-- A lane command of the right length on a RESETTING lane is BUSY, whatever its owner (R79). -/
theorem laneCommand_resetting {n : Nat} {body : List Byte} {s : State} {l : LaneId} (k : LaneId → Answer)
    (hn : body.length = n) (hl : u8 body 0 = l.val) (hs : (s.lane l).pl.state = .resetting) :
    laneCommand n body s k = .refused .busy s := by
  have h4 : u8 body 0 < 4 := hl ▸ l.isLt
  have he : (⟨u8 body 0, h4⟩ : LaneId) = l := Fin.ext hl
  simp [laneCommand, fixedLength, hn, onLane, h4, he, hs]

theorem releaseScreen_unbound {s : State} {l : LaneId} (h : (s.lane l).pl.screen = none) :
    releaseScreen l s = .refused .badState s := by
  simp [releaseScreen, h]

theorem releaseScreen_bound {s : State} {l : LaneId} {c : ScreenId} (h : (s.lane l).pl.screen = some c) :
    releaseScreen l s = .done .empty { s with held := s.held.set c false } := by
  simp [releaseScreen, h]

/-- A RELEASE_SCREEN taken is its lane command's answer, settled. -/
theorem exec_releaseScreen {s : State} {body : List Byte} (h : s.Commanded 0x42 body) :
    exec .releaseScreen s = .next (laneCommand 1 body s fun l => releaseScreen l s).state.settle :=
  runCommand_eq (fun body s => laneCommand 1 body s fun l => releaseScreen l s) h

/-- Settles O37: the owner's answer in each case, with what settling behind it leaves alone. -/
theorem screenReleased : Obligations.ScreenReleased := by
  intro s body l hcmd hlen hlane
  have hexec := exec_releaseScreen hcmd
  refine ⟨fun hreset => ?_, fun hlive hnone => ?_, fun c hlive hbound => ?_⟩
  · rw [hexec, laneCommand_resetting _ hlen hlane hreset]
    rfl
  · rw [hexec, laneCommand_eq _ hlen hlane hlive, releaseScreen_unbound hnone]
    rfl
  · have hquiet := State.answered_quiet { s with held := s.held.set c false } (.done .empty)
    obtain ⟨more, hout, hscreen⟩ := hquiet.out
    refine ⟨_, more, ?_, ?_, fun x hx => ?_, rfl, fun hfree => ?_, hout, hscreen, fun hidle => ?_⟩
    · rw [hexec, laneCommand_eq _ hlen hlane hlive, releaseScreen_bound hbound]
      rfl
    · rw [hquiet.held, Quad.get_set_same]
    · rw [hquiet.held, Quad.get_set_ne _ _ hx]
    · rw [← hfree, Quad.set_get_self]
    · have hidle' : (({ s with held := s.held.set c false } : State).lane l).pl.state = .idle := hidle
      exact (hquiet.state_eq (by rw [hidle']; nofun)).trans hidle'

end Machine

end Sys2Proof
end

section
/-! PROOF. A cue's entry: its times within the reel and its fades within its duration (R140, R141). -/

namespace Sys2Proof.Machine

open Sys2Proof

/-! ### Times moved by the subtitle offset (R140) -/

theorem cueTime_eq_of_clamped {stored frames t : Nat} {delta : Int}
    (h : (t : Int) = max 0 (min (frames : Int) (stored + delta))) : cueTime stored delta frames = t := by
  unfold cueTime clampInt
  rw [min_comm, ← h, Int.toNat_natCast]

theorem cueEntry_eq_none {delta : Int} {frames index : Nat} {c : CueRecord}
    (h : cueTime c.outFrame delta frames ≤ cueTime c.inFrame delta frames) :
    cueEntry delta frames index c = none :=
  if_pos h

theorem cueEntry_eq_some {delta : Int} {frames index : Nat} {c : CueRecord}
    (h : cueTime c.inFrame delta frames < cueTime c.outFrame delta frames) :
    ∃ e, cueEntry delta frames index c = some e ∧ e.inAt = cueTime c.inFrame delta frames
      ∧ e.outAt = cueTime c.outFrame delta frames ∧ e.number = c.number ∧ e.region = c.region
      ∧ e.offset = c.offset ∧ e.style = c.style ∧ e.lines = c.lines ∧ e.index = index :=
  ⟨_, if_neg h.not_ge, rfl, rfl, rfl, rfl, rfl, rfl, rfl, rfl⟩

/-- What an entry can be: one with a frame to show, its record's fades scaled to its duration. -/
theorem cueEntry_some_duration {delta : Int} {frames index : Nat} {c : CueRecord} {e : CueEntry}
    (h : cueEntry delta frames index c = some e) :
    e.inAt < e.outAt ∧ e.fadeIn = scaledFadeIn (e.outAt - e.inAt) c.fadeIn c.fadeOut
      ∧ e.fadeOut = scaledFadeOut (e.outAt - e.inAt) c.fadeIn c.fadeOut := by
  by_cases hle : cueTime c.outFrame delta frames ≤ cueTime c.inFrame delta frames
  · simp [cueEntry_eq_none hle] at h
  · obtain rfl := Option.some.inj ((if_neg hle).symm.trans h)
    exact ⟨not_le.mp hle, rfl, rfl⟩

/-! ### Fades scaled to a duration (R141) -/

section fades

variable {d fadeIn fadeOut : Nat}

theorem scaledFadeIn_exceeding (h : d < fadeIn + fadeOut) :
    scaledFadeIn d fadeIn fadeOut = d * fadeIn / (fadeIn + fadeOut) :=
  if_pos h

theorem scaledFadeOut_exceeding (h : d < fadeIn + fadeOut) :
    scaledFadeOut d fadeIn fadeOut = d - scaledFadeIn d fadeIn fadeOut :=
  if_pos h

theorem scaledFadeIn_fitting (h : fadeIn + fadeOut ≤ d) : scaledFadeIn d fadeIn fadeOut = fadeIn :=
  if_neg h.not_gt

theorem scaledFadeOut_fitting (h : fadeIn + fadeOut ≤ d) : scaledFadeOut d fadeIn fadeOut = fadeOut :=
  if_neg h.not_gt

/-- A scaled fade-in is a share fi / (fi + fo) of the duration, so the fade-out left over is never cut off at 0. -/
theorem scaledFadeIn_le_of_exceeding (h : d < fadeIn + fadeOut) : scaledFadeIn d fadeIn fadeOut ≤ d := by
  rw [scaledFadeIn_exceeding h]
  exact Nat.div_le_of_le_mul (by rw [Nat.mul_comm]; exact Nat.mul_le_mul_right d (Nat.le_add_right ..))

theorem scaledFades_le (d fadeIn fadeOut : Nat) :
    scaledFadeIn d fadeIn fadeOut + scaledFadeOut d fadeIn fadeOut ≤ d := by
  rcases lt_or_ge d (fadeIn + fadeOut) with h | h
  · have hin := scaledFadeIn_le_of_exceeding h
    rw [scaledFadeOut_exceeding h]
    omega
  · rwa [scaledFadeIn_fitting h, scaledFadeOut_fitting h]

end fades

/-- Settles O58: the duration's clauses from the scaled fades, the times' clauses from the clamp, and the manual's
example by both. -/
theorem fadesScaled : Obligations.FadesScaled := by
  refine ⟨?_, ?_, ?_⟩
  · rintro delta frames index c e d he rfl
    obtain ⟨hlt, hin, hout⟩ := cueEntry_some_duration he
    refine ⟨by omega, fun h => ⟨?_, ?_⟩, fun h => ⟨?_, ?_⟩, ?_⟩
    · rw [hin, scaledFadeIn_exceeding h]
    · rw [hout, hin, scaledFadeOut_exceeding h]
    · rw [hin, scaledFadeIn_fitting h]
    · rw [hout, scaledFadeOut_fitting h]
    · rw [hin, hout]
      exact scaledFades_le ..
  · intro delta frames index a b c ha hb
    obtain rfl := cueTime_eq_of_clamped ha
    obtain rfl := cueTime_eq_of_clamped hb
    exact ⟨cueEntry_eq_none, cueEntry_eq_some⟩
  · intro c hin hout hfi hfo
    have hinAt : cueTime c.inFrame 0 1000 = 500 := cueTime_eq_of_clamped (by simp [hin])
    have houtAt : cueTime c.outFrame 0 1000 = 510 := cueTime_eq_of_clamped (by simp [hout])
    obtain ⟨e, he, hea, heb, -⟩ := cueEntry_eq_some (c := c) (delta := 0) (frames := 1000) (index := 0) (by omega)
    obtain ⟨-, hfadeIn, hfadeOut⟩ := cueEntry_some_duration he
    rw [hea, heb, hinAt, houtAt, hfi, hfo] at hfadeIn hfadeOut
    exact ⟨e, he, hfadeIn, hfadeOut⟩

end Sys2Proof.Machine
end

section
/-! PROOF. The opacity of a shown cue, and that of a cue shown by a rebuild (R142, R157). -/

namespace Sys2Proof.Machine

open Sys2Proof

/-! ### The cases of an opacity -/

section opacity

variable {c : CueEntry} {f : Nat}

theorem opacityAt_fadeIn (h : f < c.inAt + c.fadeIn) :
    opacityAt c f = 255 * (f - c.inAt + 1) / (c.fadeIn + 1) :=
  if_pos h

theorem opacityAt_fadeOut (hin : c.inAt + c.fadeIn ≤ f) (hout : c.outAt ≤ f + c.fadeOut) :
    opacityAt c f = 255 * (c.outAt - f) / (c.fadeOut + 1) :=
  (if_neg hin.not_gt).trans (if_pos hout)

theorem opacityAt_steady (hin : c.inAt + c.fadeIn ≤ f) (hout : f + c.fadeOut < c.outAt) : opacityAt c f = 255 :=
  (if_neg hin.not_gt).trans (if_neg hout.not_ge)

theorem rebuildOpacity_fadeOut (h : c.outAt ≤ f + c.fadeOut) :
    rebuildOpacity c f = 255 * (c.outAt - f) / (c.fadeOut + 1) :=
  if_pos h

theorem rebuildOpacity_steady (h : f + c.fadeOut < c.outAt) : rebuildOpacity c f = 255 :=
  if_neg h.not_ge

/-- The kth step of a fade of n frames, n at most the 60 of a valid record (R144). -/
theorem fadeStep_bounds {k n : Nat} (hk : 1 ≤ k) (hkn : k ≤ n) (hn : n ≤ 60) :
    4 ≤ 255 * k / (n + 1) ∧ 255 * k / (n + 1) ≤ 255 := by
  constructor
  · rw [Nat.le_div_iff_mul_le n.succ_pos]
    omega
  · exact Nat.div_le_of_le_mul (by omega)

theorem opacityAt_bounds (hshown : c.inAt ≤ f) (hlast : f < c.outAt) (hfi : c.fadeIn ≤ 60) (hfo : c.fadeOut ≤ 60) :
    4 ≤ opacityAt c f ∧ opacityAt c f ≤ 255 := by
  rcases lt_or_ge f (c.inAt + c.fadeIn) with hin | hin
  · rw [opacityAt_fadeIn hin]
    exact fadeStep_bounds (by omega) (by omega) hfi
  rcases le_or_gt c.outAt (f + c.fadeOut) with hout | hout
  · rw [opacityAt_fadeOut hin hout]
    exact fadeStep_bounds (by omega) (by omega) hfo
  · rw [opacityAt_steady hin hout]
    omega

end opacity

/-! ### The active set of a rebuild (R157) -/

/-- Every cue in an active slot has its rebuild opacity at a reel frame. -/
def CueEngine.RebuiltAt (e : CueEngine) (f : Nat) : Prop :=
  ∀ (k : Fin 4) (a : ActiveCue), e.active.get k = some a → a.opacity = rebuildOpacity a.cue f

theorem CueEngine.rebuiltAt_of_empty {e : CueEngine} (f : Nat) (h : e.active = ⟨none, none, none, none⟩) :
    e.RebuiltAt f := by
  intro k a ha
  have hnone : e.active.get k = none := by
    rw [h]
    match k with
    | 0 | 1 | 2 | 3 => rfl
  rw [hnone] at ha
  cases ha

theorem enterCue_of_full {c : CueEntry} {opacity : Nat} {o : CueOut} (h : o.1.freeSlot = none) :
    (enterCue c opacity o).1.active = o.1.active := by
  simp [enterCue, h]

theorem enterCue_of_free {c : CueEntry} {opacity : Nat} {o : CueOut} {i : Fin 4} (h : o.1.freeSlot = some i) :
    (enterCue c opacity o).1.active = o.1.active.set i (some ⟨c, opacity, false⟩) := by
  simp [enterCue, h]

/-- What an active slot can hold behind the entry of a cue: what it held, or that cue at that opacity. -/
theorem enterCue_active_cases {c : CueEntry} {opacity : Nat} {o : CueOut} {k : Fin 4} {a : ActiveCue}
    (h : (enterCue c opacity o).1.active.get k = some a) :
    o.1.active.get k = some a ∨ a = ⟨c, opacity, false⟩ := by
  cases hfree : o.1.freeSlot with
  | none => exact .inl (by rwa [enterCue_of_full hfree] at h)
  | some i =>
    rw [enterCue_of_free hfree] at h
    by_cases hk : k = i
    · rw [hk, Quad.get_set_same] at h
      exact .inr (Option.some.inj h).symm
    · rw [Quad.get_set_ne _ _ hk] at h
      exact .inl h

theorem enterCue_keeps_rebuiltAt {f : Nat} (c : CueEntry) {o : CueOut} (h : o.1.RebuiltAt f) :
    (enterCue c (rebuildOpacity c f) o).1.RebuiltAt f := by
  intro k a ha
  obtain hold | rfl := enterCue_active_cases ha
  · exact h k a hold
  · rfl

theorem enterAll_keeps_rebuiltAt {f : Nat} (cues : List CueEntry) {o : CueOut} (h : o.1.RebuiltAt f) :
    (cues.foldl (fun o c => enterCue c (rebuildOpacity c f) o) o).1.RebuiltAt f := by
  induction cues generalizing o with
  | nil => exact h
  | cons c rest ih => exact ih (enterCue_keeps_rebuiltAt c h)

@[simp] theorem CueEngine.modBank_active (e : CueEngine) (b : BankId) (g : Bank → Bank) :
    (e.modBank b g).active = e.active := by
  cases b <;> rfl

/-- A rebuild enters cues and then moves the bank's cursor, which no active slot sees. -/
theorem CueEngine.rebuildAt_rebuiltAt {e : CueEngine} {f : Nat} (b : BankId) (h : e.RebuiltAt f) :
    (e.rebuildAt b f).1.RebuiltAt f := by
  intro k a ha
  simp only [CueEngine.rebuildAt, CueEngine.modBank_active] at ha
  exact enterAll_keeps_rebuiltAt (o := (e, [])) _ h k a ha

/-- Settles O59: the cases of an opacity, and a rebuild from empty slots. -/
theorem opacityCases : Obligations.OpacityCases :=
  ⟨fun _ _ hshown hlast hfi hfo => ⟨opacityAt_fadeIn, opacityAt_fadeOut, opacityAt_steady, rebuildOpacity_fadeOut,
      rebuildOpacity_steady, opacityAt_bounds hshown hlast hfi hfo⟩,
    fun _ b f k a hempty ha => CueEngine.rebuildAt_rebuiltAt b (CueEngine.rebuiltAt_of_empty f hempty) k a ha⟩

end Sys2Proof.Machine
end

section
/-! PROOF. What settling does, said once: every move of the fetchers and of the arbiter is an update of one of a few
kinds, each with what it leaves alone (R11 to R14, R86 to R94). -/

namespace Sys2Proof.Machine

open Sys2Proof

/-! ### What a move may do to a lane, to the storage controller and to the assembler -/

/-- A table entry without its operations in flight and its stalled lanes, the only parts settling changes. -/
def TableEntry.atRest (e : TableEntry) : TableEntry :=
  { window := { e.window with ops := 0 }, record := e.record.mapTracks (fun t => { t with stalled := [] }) }

/-- A lane's record after moves of its fetcher: only its state at the cue point, the marks of its items, its
fetcher, its buffer and two of its counts may differ. -/
structure Playout.Fetches (p q : Playout) : Prop where
  frame : q = { p with state := q.state, queue := q.queue, fetch := q.fetch, buffer := q.buffer, stats := q.stats }
  state : q.state = p.state ∨ p.state = .cueing ∧ q.state = .cued
  marks : q.queue.map Item.unmarked = p.queue.map Item.unmarked
  stats : q.stats = { p.stats with stalls := q.stats.stalls, refused := q.stats.refused }
  buffer : p.buffer <+: q.buffer
  full : p.buffer.length ≤ 48 → q.buffer.length ≤ 48
  epoch : q.fetch.epoch = p.fetch.epoch
  hands : p.fetch.inHand.length ≤ 2 → q.fetch.inHand.length ≤ 2

/-- The storage controller after grants: its windows and records but for operations and stalls are the same, its
queue may be shorter, and the port holds more, never more than 8. -/
structure Storage.Serves (c d : Storage) : Prop where
  frame : d = { c with table := d.table, queue := d.queue, guard := d.guard, flight := d.flight }
  table : d.table.map (Option.map TableEntry.atRest) = c.table.map (Option.map TableEntry.atRest)
  queue : d.queue.Sublist c.queue
  flight : c.flight <+: d.flight
  bound : c.flight.length ≤ 8 → d.flight.length ≤ 8

/-- The assembler after grants: staged chunks have gone to the port. -/
structure Assembler.Serves (p q : Assembler) : Prop where
  frame : q = { p with staging := q.staging, order := q.order }
  staging : q.staging.length = p.staging.length
  order : q.order.Sublist p.order

theorem Playout.Fetches.refl (p : Playout) : p.Fetches p :=
  ⟨rfl, .inl rfl, rfl, rfl, List.prefix_refl _, id, rfl, id⟩

theorem Playout.Fetches.trans {p q r : Playout} (h : p.Fetches q) (k : q.Fetches r) : p.Fetches r where
  frame := by
    rw [k.frame, h.frame]
  state := by
    have := h.state
    have := k.state
    grind
  marks := k.marks.trans h.marks
  stats := by
    rw [k.stats, h.stats]
  buffer := h.buffer.trans k.buffer
  full := k.full ∘ h.full
  epoch := k.epoch.trans h.epoch
  hands := k.hands ∘ h.hands

theorem Storage.Serves.refl (c : Storage) : c.Serves c := ⟨rfl, rfl, .refl _, List.prefix_refl _, id⟩

theorem Storage.Serves.trans {c d e : Storage} (h : c.Serves d) (k : d.Serves e) : c.Serves e where
  frame := by
    rw [k.frame, h.frame]
  table := k.table.trans h.table
  queue := k.queue.trans h.queue
  flight := h.flight.trans k.flight
  bound := k.bound ∘ h.bound

theorem Assembler.Serves.refl (p : Assembler) : p.Serves p := ⟨rfl, rfl, .refl _⟩

theorem Assembler.Serves.trans {p q r : Assembler} (h : p.Serves q) (k : q.Serves r) : p.Serves r where
  frame := by
    rw [k.frame, h.frame]
  staging := k.staging.trans h.staging
  order := k.order.trans h.order

/-- What a move of the fetcher with the same buffer and no more reels in hand does. -/
theorem Playout.Fetches.of_fetch {p : Playout} {f : Fetcher} (hepoch : f.epoch = p.fetch.epoch)
    (hhands : p.fetch.inHand.length ≤ 2 → f.inHand.length ≤ 2) : p.Fetches { p with fetch := f } :=
  ⟨rfl, .inl rfl, rfl, rfl, List.prefix_refl _, id, hepoch, hhands⟩

theorem Playout.Fetches.mark {p : Playout} {g : Item → Item} (hg : ∀ i, (g i).unmarked = i.unmarked) :
    p.Fetches { p with queue := p.queue.map g } :=
  ⟨rfl, .inl rfl, by simp [Function.comp_def, hg], rfl, List.prefix_refl _, id, rfl, id⟩

/-! ### The kinds of move -/

/-- What is sent to the storage array. -/
def Output.toStorage : Output → Bool
  | .storageRead _ _ | .storageWrite _ _ _ => true
  | .host _ | .verdict _ _ _ | .linkReset | .screen _ _ | .soundBlock _ | .capacityRead => false

/-- A run of the moves that settle an event, from one state to another. -/
inductive State.Settles (s : State) : State → Prop
  | refl : s.Settles s
  | playout {u : State} (l : LaneId) (f : Playout → Playout) (h : s.Settles u)
      (hf : (u.lane l).pl.Fetches (f (u.lane l).pl)) : s.Settles (u.modPl l f)
  | cues {u : State} (l : LaneId) (f : CueEngine → CueEngine) (h : s.Settles u) : s.Settles (u.modSce l f)
  | storage {u : State} (f : Storage → Storage) (h : s.Settles u) (hf : u.stc.Serves (f u.stc)) :
      s.Settles (u.modStc f)
  | assembler {u : State} (f : Assembler → Assembler) (h : s.Settles u) (hf : u.pka.Serves (f u.pka)) :
      s.Settles (u.modPka f)
  | sent {u : State} (o : Output) (h : s.Settles u) (ho : o.toStorage = true) : s.Settles (u.emit o)
  | raised {u : State} (n : Nat) (h : s.Settles u) : s.Settles (u.raise n)
  | reserved {u : State} (l : LaneId) (lic pid total : Nat) (h : s.Settles u)
      (hpass : promotionFailure u lic pid = none) : s.Settles (u.reserve l lic pid total)

namespace State.Settles

variable {s u v : State}

theorem trans (h : s.Settles u) (k : u.Settles v) : s.Settles v := by
  induction k with
  | refl => exact h
  | playout l f _ hf ih => exact ih.playout l f hf
  | cues l f _ ih => exact ih.cues l f
  | storage f _ hf ih => exact ih.storage f hf
  | assembler f _ hf ih => exact ih.assembler f hf
  | sent o _ ho ih => exact ih.sent o ho
  | raised n _ ih => exact ih.raised n
  | reserved l lic pid total _ hpass ih => exact ih.reserved l lic pid total hpass

theorem modFetch (h : s.Settles u) (l : LaneId) {f : Fetcher → Fetcher} (hepoch : ∀ x, (f x).epoch = x.epoch)
    (hhands : (u.lane l).pl.fetch.inHand.length ≤ 2 → (f (u.lane l).pl.fetch).inHand.length ≤ 2) :
    s.Settles (u.modFetch l f) :=
  h.playout l _ (.of_fetch (hepoch _) hhands)

theorem fetchState (h : s.Settles u) (l : LaneId) (x : FetchState) : s.Settles (u.fetchState l x) :=
  h.modFetch l (fun _ => rfl) id

theorem fetchAt (h : s.Settles u) (l : LaneId) (c : Cursor) : s.Settles (u.fetchAt l c) :=
  h.modFetch l (fun _ => rfl) id

theorem setWork (h : s.Settles u) (l : LaneId) {f : Fetcher → Work} :
    s.Settles (u.modFetch l fun x => { x with work := f x }) :=
  h.modFetch l (fun _ => rfl) id

theorem frameGranted (h : s.Settles u) (l : LaneId) (i : Item) (pos : Pos) : s.Settles (u.frameGranted l i pos) :=
  h.modFetch l (fun _ => rfl) id

theorem countStall (h : s.Settles u) (l : LaneId) :
    s.Settles (u.modStats l fun k => { k with stalls := satInc top32 k.stalls }) :=
  h.playout l _ ⟨rfl, .inl rfl, rfl, rfl, List.prefix_refl _, id, rfl, id⟩

theorem countRefused (h : s.Settles u) (l : LaneId) :
    s.Settles (u.modStats l fun k => { k with refused := satInc top32 k.refused }) :=
  h.playout l _ ⟨rfl, .inl rfl, rfl, rfl, List.prefix_refl _, id, rfl, id⟩

theorem mark (h : s.Settles u) (l : LaneId) (uid : Nat) {f : Item → Item} (hf : ∀ i, (f i).unmarked = i.unmarked) :
    s.Settles (u.modItem l uid f) :=
  h.playout l _ (.mark fun i => by split <;> simp [hf])

theorem issue (h : s.Settles u) (o : Operation) {out : Output} (hroom : u.stc.flight.length < 8)
    (ho : out.toStorage = true) : s.Settles (u.issue o out) := by
  refine .sent out (h.storage _ ?_) ho
  unfold Storage.granted
  dsimp only
  have hbound : (u.stc.flight ++ [o]).length ≤ 8 := by
    rw [List.length_append]
    exact hroom
  split
  · exact ⟨rfl, rfl, .refl _, List.prefix_append _ _, fun _ => hbound⟩
  · refine ⟨rfl, ?_, .refl _, List.prefix_append _ _, fun _ => hbound⟩
    simp only [Storage.modAt, List.map_map]
    refine List.map_congr_left fun e _ => ?_
    cases e with
    | none => rfl
    | some e =>
      simp only [Function.comp_apply, Option.map_some, Option.some.injEq]
      split <;> rfl

theorem issueRead (h : s.Settles u) (kind : OpKind) (first count : Nat) (hroom : u.stc.flight.length < 8) :
    s.Settles (u.issueRead kind first count) :=
  h.issue _ hroom rfl

/-- Stalls registered or withdrawn are no part of an entry at rest. -/
theorem modRecord (h : s.Settles u) (pid : Nat) {f : PackageRecord → PackageRecord}
    (hf : ∀ r, (f r).mapTracks (fun t => { t with stalled := [] }) = r.mapTracks (fun t => { t with stalled := [] })) :
    s.Settles (u.modStc fun c => c.modRecord pid f) := by
  refine h.storage _ ⟨rfl, ?_, .refl _, List.prefix_refl _, id⟩
  simp only [Storage.modRecord, Storage.modEntry, List.map_map]
  refine List.map_congr_left fun e _ => ?_
  cases e with
  | none => simp
  | some e =>
    simp only [Function.comp_apply]
    split
    · simp [TableEntry.atRest, hf]
    · rfl

end State.Settles

theorem ReelTracks.mapAll_modify {f g : Track → Track} (hg : ∀ t, f (g t) = f t) (r : ReelTracks) (k : TrackKind) :
    (r.modify g k).mapAll f = r.mapAll f := by
  cases k <;> simp [ReelTracks.modify, ReelTracks.mapAll, hg, Function.comp_def]

theorem map_modifyAt_eq {α β : Type} {f : α → β} {g : α → α} (hg : ∀ a, f (g a) = f a) (n : Nat) (l : List α) :
    (modifyAt g n l).map f = l.map f := by
  induction l generalizing n with
  | nil => cases n <;> rfl
  | cons a rest ih => cases n <;> simp [modifyAt, hg, ih]

/-- A change of a track that its image under `f` does not show is no change of the record's image. -/
theorem PackageRecord.mapTracks_modTrack {f g : Track → Track} (hg : ∀ t, f (g t) = f t) (p : PackageRecord)
    (reel : Nat) (k : TrackKind) : (p.modTrack reel k g).mapTracks f = p.mapTracks f := by
  simp [PackageRecord.mapTracks, PackageRecord.modTrack,
    map_modifyAt_eq (fun r => ReelTracks.mapAll_modify hg r k)]

/-! ### The fetcher and the cue point -/

theorem State.settles_registerStall (s : State) (l : LaneId) (pid reel : Nat) (tracks : List TrackKind) :
    s.Settles (s.registerStall l pid reel tracks) := by
  refine .modRecord .refl pid fun r => ?_
  induction tracks generalizing r with
  | nil => rfl
  | cons k rest ih =>
    refine (ih _).trans (PackageRecord.mapTracks_modTrack (fun t => ?_) r reel k)
    split <;> rfl

theorem State.settles_takeUpReel (s : State) (l : LaneId) (pid item reel frames : Nat) :
    s.Settles (s.takeUpReel l pid item reel frames) := by
  unfold State.takeUpReel
  dsimp only
  split
  · exact .cues l _ .refl
  · exact .raised _ (.cues l _ (.cues l _ .refl))
  · exact .setWork (.cues l _ .refl) l

theorem State.settles_promoted (s : State) (l : LaneId) (i : Item) : s.Settles (s.promoted l i) :=
  State.Settles.fetchAt (.mark .refl l i.uid (f := fun i => { i with promoted := true }) fun _ => rfl) l _

theorem State.settles_block (s : State) (l : LaneId) (i : Item) (why : Reason) : s.Settles (s.block l i why) :=
  State.Settles.fetchState
    (.countRefused (.mark .refl l i.uid (f := fun i => { i with blocked := some why }) fun _ => rfl) l) l _

theorem State.settles_takeUp (s : State) (l : LaneId) (i : Item) : s.Settles (s.takeUp l i).1 := by
  unfold State.takeUp
  split
  · exact .fetchState .refl l _
  · split
    · exact .fetchAt .refl l _
    · split
      · split
        · exact s.settles_block l i _
        · rename_i hpass
          exact (State.Settles.reserved l _ _ _ .refl hpass).trans (State.settles_promoted _ l i)
      · exact s.settles_promoted l i

/-- A frame taken into a slot of a buffer that has one free. -/
theorem Playout.Fetches.pushSlot {p : Playout} (b : BufSlot) {f : Fetcher} (hroom : p.buffer.length < 48)
    (hepoch : f.epoch = p.fetch.epoch) (hhands : f.inHand = p.fetch.inHand) :
    p.Fetches { p with buffer := p.buffer ++ [b], fetch := f } where
  frame := rfl
  state := .inl rfl
  marks := rfl
  stats := rfl
  buffer := List.prefix_append _ _
  full := fun _ => by
    rw [List.length_append]
    exact hroom
  epoch := hepoch
  hands := fun h => hhands ▸ h

theorem State.settles_fetchBlack (s : State) (l : LaneId) (i : Item) (pos : Pos)
    (hroom : (s.lane l).pl.buffer.length < 48) : s.Settles (s.fetchBlack l i pos) :=
  .fetchAt (.playout l _ .refl (.pushSlot _ hroom rfl rfl)) l _

theorem State.settles_fetchFrame (s : State) (l : LaneId) (i : Item) (pos : Pos)
    (hroom : (s.lane l).pl.buffer.length < 48) : s.Settles (s.fetchFrame l i pos) :=
  .playout l _ .refl (.pushSlot _ hroom rfl rfl)

theorem State.settles_stall (s : State) (l : LaneId) (pid reel : Nat) (tracks : List TrackKind) :
    s.Settles (s.stall l pid reel tracks) :=
  .fetchState (.countStall (s.settles_registerStall l pid reel tracks) l) l _

theorem State.settles_reelInHand (s : State) (l : LaneId) (i : Item) (pid : Nat) (pos : Pos)
    (hroom : (s.lane l).pl.fetch.inHand.length < 2) : s.Settles (s.reelInHand l i pid pos) := by
  refine .trans (.modFetch .refl l ?_ ?_) (State.settles_takeUpReel _ l pid _ _ _)
  · exact fun _ => rfl
  · exact fun _ => by
      rw [List.length_append]
      exact hroom

theorem State.settles_fetchAtFrame (s : State) (l : LaneId) (i : Item) (pos : Pos) (taken : Bool) :
    s.Settles (s.fetchAtFrame l i pos taken).1 := by
  unfold State.fetchAtFrame
  dsimp only
  split
  · split
    · exact .fetchState .refl l _
    · exact s.settles_fetchBlack l i pos (Nat.lt_of_not_le ‹_›)
  · split
    · split
      · exact s.settles_reelInHand l i _ pos ‹_›
      · exact .fetchState .refl l _
    · split
      · exact .fetchState .refl l _
      · split
        · exact s.settles_stall l _ _ _
        · exact s.settles_fetchFrame l i pos (Nat.lt_of_not_le ‹_›)

theorem State.settles_fetchOnce (s : State) (l : LaneId) : s.Settles (s.fetchOnce l).1 := by
  unfold State.fetchOnce
  dsimp only
  split
  · exact .refl
  · split
    · exact .refl
    · split
      · exact .fetchState .refl l _
      · exact s.settles_takeUp l _
    · split
      · exact .refl
      · exact s.settles_fetchAtFrame l _ _ _

theorem State.settles_fetchAll (s : State) (l : LaneId) (n : Nat) : s.Settles (s.fetchAll l n) := by
  induction n generalizing s with
  | zero => exact .refl
  | succ n ih =>
    have hmove := s.settles_fetchOnce l
    unfold State.fetchAll
    split
    · rename_i s' hs
      rw [hs] at hmove
      exact hmove.trans (ih s')
    · rename_i s' hs
      rwa [hs] at hmove

/-- The cue point is the one place where settling moves a lane's state. -/
theorem State.settles_testCued (s : State) (l : LaneId) : s.Settles (s.testCued l) := by
  unfold State.testCued
  dsimp only
  split
  · rename_i hcue
    exact .raised _ (.playout l _ .refl ⟨rfl, .inr ⟨hcue.1, rfl⟩, rfl, rfl, List.prefix_refl _, id, rfl, id⟩)
  · exact .refl

theorem State.settles_fetchers (s : State) : s.Settles s.fetchers := by
  have hlanes : ∀ (ls : List LaneId) (u : State),
      u.Settles (ls.foldl (fun s l => (s.fetchAll l 128).testCued l) u) := by
    intro ls
    induction ls with
    | nil => exact fun _ => .refl
    | cons l rest ih =>
      intro u
      exact ((u.settles_fetchAll l 128).trans (State.settles_testCued _ l)).trans (ih _)
  exact hlanes fours s

/-! ### The arbiter -/

section grants

variable (s : State) (hroom : s.stc.flight.length < 8)

include hroom

theorem State.settles_grantLane (l : LaneId) : s.Settles (s.grantLane l) := by
  have hdrop : s.Settles (s.modFetch l fun f => { f with work := .nothing }) := .setWork .refl l
  unfold State.grantLane
  dsimp only
  split
  · exact .refl
  · split
    · exact hdrop
    · split
      · exact .setWork (.issueRead .refl _ _ _ hroom) l
      · exact .frameGranted (.issueRead .refl _ _ _ hroom) l _ _
  · split
    · exact hdrop
    · exact .frameGranted (.issueRead .refl _ _ _ hroom) l _ _
  · split
    · exact hdrop
    · split
      · exact hdrop
      · split
        · exact hdrop
        · exact .setWork (.issueRead .refl _ _ _ hroom) l

theorem State.settles_grantCatalogue (q : SlotRequest) : s.Settles (s.grantCatalogue q) :=
  .issue (.storage _ .refl ⟨rfl, rfl, List.filter_sublist, List.prefix_refl _, id⟩) _ hroom rfl

theorem State.settles_grantChunk (slot : Nat) : s.Settles (s.grantChunk slot) := by
  have horder : s.Settles (s.modPka fun p => { p with order := p.order.filter fun n => n != slot }) :=
    .assembler _ .refl ⟨rfl, rfl, List.filter_sublist⟩
  unfold State.grantChunk
  dsimp only
  split
  · split
    · exact horder
    · exact .issue (.assembler _ horder ⟨rfl, modifyAt_length _ _ _, .refl _⟩) _ hroom rfl
  · exact horder

theorem State.settles_grant (g : Grant) : s.Settles (s.grant g) := by
  have hguard : s.Settles (s.modStc fun c => { c with guard := guardAfter c.guard g (!s.pka.order.isEmpty) }) :=
    .storage _ .refl ⟨rfl, rfl, .refl _, List.prefix_refl _, id⟩
  refine hguard.trans ?_
  cases g with
  | lane l => exact State.settles_grantLane _ (by exact hroom) l
  | catalogue q => exact State.settles_grantCatalogue _ (by exact hroom) q
  | chunk slot => exact State.settles_grantChunk _ (by exact hroom) slot

end grants

/-- One decision: the fetchers move; with the load running, the port full or nothing waiting that is all, and
else the decided grant is made and the decisions go on. -/
theorem State.decisions_succ (s : State) (n : Nat) :
    ((s.fetchers.stc.load ≠ .idle ∨ 8 ≤ s.fetchers.stc.flight.length ∨ s.fetchers.decide = none)
        ∧ s.decisions (n + 1) = s.fetchers)
      ∨ ∃ g, s.fetchers.stc.load = .idle ∧ s.fetchers.stc.flight.length < 8 ∧ s.fetchers.decide = some g
        ∧ s.decisions (n + 1) = (s.fetchers.grant g).decisions n := by
  delta State.decisions
  dsimp only
  delta State.decisions._f
  dsimp only
  split
  · rename_i hstop
    exact .inl ⟨hstop.elim .inl fun h => .inr (.inl h), rfl⟩
  · rename_i hgo
    obtain ⟨hload, hroom⟩ := not_or.mp hgo
    split
    · exact .inl ⟨.inr (.inr ‹_›), rfl⟩
    · rename_i g hg
      exact .inr ⟨g, Decidable.not_not.mp hload, Nat.lt_of_not_le hroom, hg, rfl⟩

theorem State.settles_decisions (s : State) (n : Nat) : s.Settles (s.decisions n) := by
  induction n generalizing s with
  | zero => exact .refl
  | succ n ih =>
    obtain ⟨_, hrest⟩ | ⟨g, _, hroom, _, hgrant⟩ := s.decisions_succ n
    · rw [hrest]
      exact s.settles_fetchers
    · rw [hgrant]
      exact (s.settles_fetchers.trans (State.settles_grant _ hroom g)).trans (ih _)

/-- Settling is a run of its moves. -/
theorem State.settles_settle (s : State) : s.Settles s.settle := by
  have hguard : ∀ u, s.Settles u → s.Settles (u.modStc fun c => c.restGuard (!u.pka.order.isEmpty)) := by
    intro u hu
    refine hu.storage _ ?_
    unfold Storage.restGuard
    split
    · exact .refl _
    · exact ⟨rfl, rfl, .refl _, List.prefix_refl _, id⟩
  exact hguard _ (s.settles_decisions 9)

end Sys2Proof.Machine
end

section
/-! PROOF. The frame of settling, and one move of a fetcher in each of its cases (R45, R46, R86 to R94). -/

namespace Sys2Proof.Machine

open Sys2Proof

/-! ### Finding and changing table entries -/

theorem findFrom_map {α β : Type} (p : β → Bool) (g : α → β) (i : Nat) (l : List α) :
    findFrom p i (l.map g) = (findFrom (fun a => p (g a)) i l).map (fun x => (x.1, g x.2)) := by
  induction l generalizing i with
  | nil => rfl
  | cons a rest ih =>
    simp only [List.map_cons, findFrom]
    split <;> simp [ih]

theorem Storage.find_eq_some {c : Storage} {pid i : Nat} {e : TableEntry} (h : c.find pid = some (i, e)) :
    c.table[i]? = some (some e) ∧ e.window.packageId = pid := by
  unfold Storage.find at h
  split at h
  · rename_i k e' hk
    cases h
    obtain ⟨hp, -, hget⟩ := findFrom_some hk
    exact ⟨by simpa using hget, by simpa [isPackage] using hp⟩
  · cases h

/-- The window of a package after a change of its entry that leaves its package id. -/
theorem Storage.find_modEntry (c : Storage) (pid : Nat) {f : TableEntry → TableEntry}
    (hf : ∀ e, (f e).window.packageId = e.window.packageId) :
    (c.modEntry pid f).find pid = (c.find pid).map (fun x => (x.1, f x.2)) := by
  have hp : ∀ e : Option TableEntry, isPackage pid (if isPackage pid e then e.map f else e) = isPackage pid e := by
    intro e
    split
    · cases e with
      | none => rfl
      | some e => simp [isPackage, hf]
    · rfl
  unfold Storage.find Storage.modEntry
  simp only [findFrom_map, hp]
  cases hfind : findFrom (isPackage pid) 0 c.table with
  | none => rfl
  | some x =>
    obtain ⟨i, e⟩ := x
    have he := (findFrom_some hfind).1
    cases e with
    | none => rfl
    | some e => simp [he]

theorem Storage.find_modRecord (c : Storage) (pid : Nat) (f : PackageRecord → PackageRecord) :
    (c.modRecord pid f).find pid = (c.find pid).map (fun x => (x.1, { x.2 with record := f x.2.record })) :=
  c.find_modEntry pid fun _ => rfl

theorem Storage.find_modWindow (c : Storage) (pid : Nat) {f : Window → Window}
    (hf : ∀ w, (f w).packageId = w.packageId) :
    (c.modWindow pid f).find pid = (c.find pid).map (fun x => (x.1, { x.2 with window := f x.2.window })) :=
  c.find_modEntry pid fun _ => hf _

theorem modifyAt_getElem? {α : Type} (f : α → α) (n k : Nat) (l : List α) :
    (modifyAt f n l)[k]? = if k = n then l[k]?.map f else l[k]? := by
  induction l generalizing n k with
  | nil => cases n <;> simp [modifyAt]
  | cons a rest ih =>
    cases n <;> cases k <;> simp [modifyAt, ih]

/-- A reel's track after a change of a track of its kind. -/
theorem ReelTracks.get_modify (r : ReelTracks) (f : Track → Track) (k j : TrackKind) :
    (r.modify f k).get j = if j = k then (r.get j).map f else r.get j := by
  cases k <;> cases j <;> rfl

theorem PackageRecord.track_modTrack (p : PackageRecord) (reel : Nat) (k j : TrackKind) (f : Track → Track) :
    (p.modTrack reel k f).track reel j = if j = k then (p.track reel j).map f else p.track reel j := by
  unfold PackageRecord.track PackageRecord.modTrack
  simp only [modifyAt_getElem?, if_pos]
  cases p.reels[reel]? with
  | none => simp
  | some r => exact r.get_modify f k j

/-! ### What settling leaves alone -/

/-- The frame of settling. -/
structure State.SettleFrame (s u : State) : Prop where
  pin : u.pin = s.pin
  clock : u.clock = s.clock
  bcp : u.bcp = s.bcp
  held : u.held = s.held
  link : u.link = s.link
  pending : u.pending = s.pending
  enabled : u.ntu.enabled = s.ntu.enabled
  master : u.ntu.master = s.ntu.master
  number : u.ntu.number = s.ntu.number
  shc : u.shc = { s.shc with reservations := u.shc.reservations }
  stc : s.stc.Serves u.stc
  pka : s.pka.Serves u.pka
  ftm : ∀ l, (u.lane l).ftm = (s.lane l).ftm
  sne : ∀ l, (u.lane l).sne = (s.lane l).sne
  pl : ∀ l, (s.lane l).pl.Fetches (u.lane l).pl
  out : ∃ more, u.out = s.out ++ more ∧ ∀ o ∈ more, o.toStorage = true

/-- A lane's reservations changed to a list. -/
def Showings.withReservations (h : Showings) (l : LaneId) (rs : List Reservation) : Showings :=
  { h with reservations := h.reservations.set l rs }

/-- The reservation that a passed promotion makes for a lane (R57, R58, R139). -/
def State.newReservation (s : State) (l : LaneId) (lic pid total : Nat) (c : Licence) : Reservation :=
  { screen := (s.lane l).pl.screen, licenceId := lic, packageId := pid, mark := qualifyMark total c.percent,
    stage := .promoted }

/-- A reservation made: at the tail of the lane's, PROMOTED, with the notice of a log nearly full. -/
theorem State.reserve_of_find {s : State} {lic : Nat} {c : Licence} (l : LaneId) (pid total : Nat)
    (h : s.shc.find lic = some c) :
    s.reserve l lic pid total =
      (fun u => if s.shc.occupancy = 239 then u.raise srcLogNearFull else u)
        { s with
          shc := s.shc.withReservations l (s.shc.reservations.get l ++ [s.newReservation l lic pid total c]) } := by
  simp [State.reserve, h, Showings.withReservations, State.newReservation]

theorem State.reserve_of_not_found {s : State} {lic : Nat} (l : LaneId) (pid total : Nat)
    (h : s.shc.find lic = none) : s.reserve l lic pid total = s := by
  simp [State.reserve, h]

namespace State.SettleFrame

variable {s u v : State}

/-- A state that differs in stores, reservations and notices alone. -/
theorem of_lanes (hpin : u.pin = s.pin) (hclock : u.clock = s.clock) (hbcp : u.bcp = s.bcp) (hheld : u.held = s.held)
    (hlink : u.link = s.link) (hpending : u.pending = s.pending) (hen : u.ntu.enabled = s.ntu.enabled)
    (hmaster : u.ntu.master = s.ntu.master) (hnumber : u.ntu.number = s.ntu.number)
    (hshc : u.shc = { s.shc with reservations := u.shc.reservations }) (hstc : s.stc.Serves u.stc)
    (hpka : s.pka.Serves u.pka) (hlanes : u.lanes = s.lanes)
    (hout : ∃ more, u.out = s.out ++ more ∧ ∀ o ∈ more, o.toStorage = true) : s.SettleFrame u :=
  have hl : ∀ l, u.lane l = s.lane l := fun l => by rw [State.lane, hlanes, State.lane]
  ⟨hpin, hclock, hbcp, hheld, hlink, hpending, hen, hmaster, hnumber, hshc, hstc, hpka, fun l => by rw [hl],
    fun l => by rw [hl], fun l => by rw [hl]; exact .refl _, hout⟩

theorem refl (s : State) : s.SettleFrame s :=
  of_lanes rfl rfl rfl rfl rfl rfl rfl rfl rfl rfl (.refl _) (.refl _) rfl ⟨[], by simp⟩

theorem trans (h : s.SettleFrame u) (k : u.SettleFrame v) : s.SettleFrame v where
  pin := k.pin.trans h.pin
  clock := k.clock.trans h.clock
  bcp := k.bcp.trans h.bcp
  held := k.held.trans h.held
  link := k.link.trans h.link
  pending := k.pending.trans h.pending
  enabled := k.enabled.trans h.enabled
  master := k.master.trans h.master
  number := k.number.trans h.number
  shc := by rw [k.shc, h.shc]
  stc := h.stc.trans k.stc
  pka := h.pka.trans k.pka
  ftm l := (k.ftm l).trans (h.ftm l)
  sne l := (k.sne l).trans (h.sne l)
  pl l := (h.pl l).trans (k.pl l)
  out := by
    obtain ⟨a, ha, hna⟩ := h.out
    obtain ⟨b, hb, hnb⟩ := k.out
    exact ⟨a ++ b, by simp [ha, hb], fun o hm => (List.mem_append.mp hm).elim (hna o) (hnb o)⟩

theorem of_pl (s : State) (l : LaneId) {f : Playout → Playout} (hf : (s.lane l).pl.Fetches (f (s.lane l).pl)) :
    s.SettleFrame (s.modPl l f) where
  pin := rfl
  clock := rfl
  bcp := rfl
  held := rfl
  link := rfl
  pending := rfl
  enabled := rfl
  master := rfl
  number := rfl
  shc := rfl
  stc := .refl _
  pka := .refl _
  ftm k := State.modPl_lane_ftm s l k f
  sne k := State.modPl_lane_sne s l k f
  pl k := by
    by_cases hk : k = l
    · rw [hk, State.lane_modPl_same]
      exact hf
    · rw [State.lane_modPl_ne s f hk]
      exact .refl _
  out := ⟨[], by simp⟩

theorem of_sce (s : State) (l : LaneId) (f : CueEngine → CueEngine) : s.SettleFrame (s.modSce l f) where
  pin := rfl
  clock := rfl
  bcp := rfl
  held := rfl
  link := rfl
  pending := rfl
  enabled := rfl
  master := rfl
  number := rfl
  shc := rfl
  stc := .refl _
  pka := .refl _
  ftm k := State.modSce_lane_ftm s l k f
  sne k := State.modSce_lane_sne s l k f
  pl k := by
    rw [State.modSce_lane_pl]
    exact .refl _
  out := ⟨[], by simp⟩

theorem of_raise (s : State) (n : Nat) : s.SettleFrame (s.raise n) :=
  of_lanes rfl rfl rfl rfl rfl rfl rfl rfl rfl rfl (.refl _) (.refl _) rfl ⟨[], by simp⟩

theorem of_reserve (s : State) (l : LaneId) (lic pid total : Nat) : s.SettleFrame (s.reserve l lic pid total) := by
  cases hfind : s.shc.find lic with
  | none =>
    rw [State.reserve_of_not_found l pid total hfind]
    exact .refl s
  | some c =>
    rw [State.reserve_of_find l pid total hfind]
    dsimp only
    split
    · exact of_lanes rfl rfl rfl rfl rfl rfl rfl rfl rfl rfl (.refl _) (.refl _) rfl ⟨[], by simp⟩
    · exact of_lanes rfl rfl rfl rfl rfl rfl rfl rfl rfl rfl (.refl _) (.refl _) rfl ⟨[], by simp⟩

section fields

variable {s u : State} (h : s.SettleFrame u)

include h

theorem licences : u.shc.licences = s.shc.licences := by rw [h.shc]
theorem log : u.shc.log = s.shc.log := by rw [h.shc]
theorem nextSeq : u.shc.nextSeq = s.shc.nextSeq := by rw [h.shc]
theorem mode : u.shc.mode = s.shc.mode := by rw [h.shc]
theorem capacity : u.stc.capacity = s.stc.capacity := by rw [h.stc.frame]
theorem status : u.stc.status = s.stc.status := by rw [h.stc.frame]
theorem draining : u.stc.draining = s.stc.draining := by rw [h.stc.frame]
theorem faults : u.stc.faults = s.stc.faults := by rw [h.stc.frame]
theorem load : u.stc.load = s.stc.load := by rw [h.stc.frame]
theorem tickets : u.pka.tickets = s.pka.tickets := by rw [h.pka.frame]
theorem outstanding : u.pka.outstanding = s.pka.outstanding := by rw [h.pka.frame]
theorem setting : u.pka.setting = s.pka.setting := by rw [h.pka.frame]
theorem discards : u.pka.discards = s.pka.discards := by rw [h.pka.frame]

variable (l : LaneId)

theorem screen : (u.lane l).pl.screen = (s.lane l).pl.screen := by rw [(h.pl l).frame]
theorem confirmed : (u.lane l).pl.confirmed = (s.lane l).pl.confirmed := by rw [(h.pl l).frame]
theorem set : (u.lane l).pl.set = (s.lane l).pl.set := by rw [(h.pl l).frame]
theorem rate : (u.lane l).pl.rate = (s.lane l).pl.rate := by rw [(h.pl l).frame]
theorem next : (u.lane l).pl.next = (s.lane l).pl.next := by rw [(h.pl l).frame]
theorem position : (u.lane l).pl.position = (s.lane l).pl.position := by rw [(h.pl l).frame]
theorem shown : (u.lane l).pl.shown = (s.lane l).pl.shown := by rw [(h.pl l).frame]
theorem inGap : (u.lane l).pl.inGap = (s.lane l).pl.inGap := by rw [(h.pl l).frame]
theorem pause : (u.lane l).pl.pause = (s.lane l).pl.pause := by rw [(h.pl l).frame]
theorem fault : (u.lane l).pl.fault = (s.lane l).pl.fault := by rw [(h.pl l).frame]
theorem uids : (u.lane l).pl.uids = (s.lane l).pl.uids := by rw [(h.pl l).frame]

theorem kinds : (u.lane l).pl.queue.map Item.kind = (s.lane l).pl.queue.map Item.kind := by
  have hmarks := congrArg (List.map Item.kind) (h.pl l).marks
  simpa [Function.comp_def, Item.unmarked] using hmarks

end fields

end State.SettleFrame

theorem State.Settles.frame {s u : State} (h : s.Settles u) : s.SettleFrame u := by
  induction h with
  | refl => exact .refl s
  | playout l f _ hf ih => exact ih.trans (.of_pl _ l hf)
  | cues l f _ ih => exact ih.trans (.of_sce _ l f)
  | storage f _ hf ih =>
    exact ih.trans (.of_lanes rfl rfl rfl rfl rfl rfl rfl rfl rfl rfl hf (.refl _) rfl ⟨[], by simp⟩)
  | assembler f _ hf ih =>
    exact ih.trans (.of_lanes rfl rfl rfl rfl rfl rfl rfl rfl rfl rfl (.refl _) hf rfl ⟨[], by simp⟩)
  | sent o _ ho ih =>
    exact ih.trans (.of_lanes rfl rfl rfl rfl rfl rfl rfl rfl rfl rfl (.refl _) (.refl _) rfl ⟨[o], by simpa⟩)
  | raised n _ ih => exact ih.trans (.of_raise _ n)
  | reserved l lic pid total _ _ ih => exact ih.trans (.of_reserve _ l lic pid total)

theorem State.settle_frame (s : State) : s.SettleFrame s.settle := s.settles_settle.frame

section settled

variable (s : State)

@[simp] theorem State.settle_pin : s.settle.pin = s.pin := s.settle_frame.pin
@[simp] theorem State.settle_clock : s.settle.clock = s.clock := s.settle_frame.clock
@[simp] theorem State.settle_bcp : s.settle.bcp = s.bcp := s.settle_frame.bcp
@[simp] theorem State.settle_held : s.settle.held = s.held := s.settle_frame.held
@[simp] theorem State.settle_link : s.settle.link = s.link := s.settle_frame.link
@[simp] theorem State.settle_pending : s.settle.pending = s.pending := s.settle_frame.pending
@[simp] theorem State.settle_enabled : s.settle.ntu.enabled = s.ntu.enabled := s.settle_frame.enabled
@[simp] theorem State.settle_master : s.settle.ntu.master = s.ntu.master := s.settle_frame.master
@[simp] theorem State.settle_number : s.settle.ntu.number = s.ntu.number := s.settle_frame.number
@[simp] theorem State.settle_licences : s.settle.shc.licences = s.shc.licences := s.settle_frame.licences
@[simp] theorem State.settle_log : s.settle.shc.log = s.shc.log := s.settle_frame.log
@[simp] theorem State.settle_nextSeq : s.settle.shc.nextSeq = s.shc.nextSeq := s.settle_frame.nextSeq
@[simp] theorem State.settle_mode : s.settle.shc.mode = s.shc.mode := s.settle_frame.mode
@[simp] theorem State.settle_capacity : s.settle.stc.capacity = s.stc.capacity := s.settle_frame.capacity
@[simp] theorem State.settle_status : s.settle.stc.status = s.stc.status := s.settle_frame.status
@[simp] theorem State.settle_draining : s.settle.stc.draining = s.stc.draining := s.settle_frame.draining
@[simp] theorem State.settle_faults : s.settle.stc.faults = s.stc.faults := s.settle_frame.faults
@[simp] theorem State.settle_load : s.settle.stc.load = s.stc.load := s.settle_frame.load
@[simp] theorem State.settle_tickets : s.settle.pka.tickets = s.pka.tickets := s.settle_frame.tickets
@[simp] theorem State.settle_outstanding : s.settle.pka.outstanding = s.pka.outstanding := s.settle_frame.outstanding
@[simp] theorem State.settle_setting : s.settle.pka.setting = s.pka.setting := s.settle_frame.setting
@[simp] theorem State.settle_discards : s.settle.pka.discards = s.pka.discards := s.settle_frame.discards

variable (l : LaneId)

@[simp] theorem State.settle_ftm : (s.settle.lane l).ftm = (s.lane l).ftm := s.settle_frame.ftm l
@[simp] theorem State.settle_sne : (s.settle.lane l).sne = (s.lane l).sne := s.settle_frame.sne l
@[simp] theorem State.settle_screen : (s.settle.lane l).pl.screen = (s.lane l).pl.screen :=
  s.settle_frame.screen l
@[simp] theorem State.settle_confirmed : (s.settle.lane l).pl.confirmed = (s.lane l).pl.confirmed :=
  s.settle_frame.confirmed l
@[simp] theorem State.settle_set : (s.settle.lane l).pl.set = (s.lane l).pl.set :=
  s.settle_frame.set l
@[simp] theorem State.settle_rate : (s.settle.lane l).pl.rate = (s.lane l).pl.rate :=
  s.settle_frame.rate l
@[simp] theorem State.settle_next : (s.settle.lane l).pl.next = (s.lane l).pl.next :=
  s.settle_frame.next l
@[simp] theorem State.settle_position : (s.settle.lane l).pl.position = (s.lane l).pl.position :=
  s.settle_frame.position l
@[simp] theorem State.settle_shown : (s.settle.lane l).pl.shown = (s.lane l).pl.shown :=
  s.settle_frame.shown l
@[simp] theorem State.settle_inGap : (s.settle.lane l).pl.inGap = (s.lane l).pl.inGap :=
  s.settle_frame.inGap l
@[simp] theorem State.settle_pause : (s.settle.lane l).pl.pause = (s.lane l).pl.pause :=
  s.settle_frame.pause l
@[simp] theorem State.settle_fault : (s.settle.lane l).pl.fault = (s.lane l).pl.fault :=
  s.settle_frame.fault l
@[simp] theorem State.settle_uids : (s.settle.lane l).pl.uids = (s.lane l).pl.uids :=
  s.settle_frame.uids l

@[simp] theorem State.settle_kinds : (s.settle.lane l).pl.queue.map Item.kind = (s.lane l).pl.queue.map Item.kind :=
  s.settle_frame.kinds l

theorem State.settle_state_cases : (s.settle.lane l).pl.state = (s.lane l).pl.state
    ∨ (s.lane l).pl.state = .cueing ∧ (s.settle.lane l).pl.state = .cued :=
  (s.settle_frame.pl l).state

theorem State.settle_state_eq {l : LaneId} (h : (s.lane l).pl.state ≠ .cueing) :
    (s.settle.lane l).pl.state = (s.lane l).pl.state :=
  (s.settle_state_cases l).resolve_right fun hc => h hc.1

end settled

theorem State.settle_lanes (s : State) : s.settle.lanes = (s.decisions 9).lanes := by
  unfold State.settle
  exact State.modStc_lanes _ _

/-- With the load running, the port full or nothing waiting, settling is the fetchers' moves and the guard count. -/
theorem State.settle_lanes_of_rest {s : State}
    (h : s.stc.load ≠ .idle ∨ 8 ≤ s.stc.flight.length ∨ s.fetchers.decide = none) :
    s.settle.lanes = s.fetchers.lanes := by
  have hframe := s.settles_fetchers.frame
  have hload := hframe.load
  have hflight := hframe.stc.flight.length_le
  obtain ⟨_, hrest⟩ | ⟨g, hidle, hroom, hgrant, _⟩ := s.decisions_succ 8
  · rw [State.settle_lanes, hrest]
  · rcases h with h | h | h
    · exact absurd (hload.symm.trans hidle) h
    · omega
    · cases h.symm.trans hgrant

/-! ### One move of a fetcher -/

section moves

variable {s : State} {l : LaneId}

theorem State.fetchOnce_rests (h : (s.lane l).pl.fetch.state = .stopped ∨ (s.lane l).pl.fetch.state = .stalled
    ∨ (s.lane l).pl.fetch.work ≠ .nothing) : s.fetchOnce l = (s, false) := by
  unfold State.fetchOnce
  exact if_pos h

/-- A fetcher that may move, at the place behind an item. -/
theorem State.fetchOnce_afterItem {uid : Nat} (hstop : (s.lane l).pl.fetch.state ≠ .stopped)
    (hstall : (s.lane l).pl.fetch.state ≠ .stalled) (hwork : (s.lane l).pl.fetch.work = .nothing)
    (hc : (s.lane l).pl.fetch.cursor = some (.afterItem uid)) :
    s.fetchOnce l = match (s.lane l).pl.itemAfter uid with
      | none => (s.fetchState l .done, false)
      | some i => s.takeUp l i := by
  simp [State.fetchOnce, hstop, hstall, hwork, hc] <;> rfl

/-- A fetcher that may move, at a frame of an item. -/
theorem State.fetchOnce_frameOf {uid : Nat} {pos : Pos} {taken : Bool} {i : Item}
    (hstop : (s.lane l).pl.fetch.state ≠ .stopped)
    (hstall : (s.lane l).pl.fetch.state ≠ .stalled) (hwork : (s.lane l).pl.fetch.work = .nothing)
    (hc : (s.lane l).pl.fetch.cursor = some (.frameOf uid pos taken)) (hi : (s.lane l).pl.item uid = some i) :
    s.fetchOnce l = s.fetchAtFrame l i pos taken := by
  simp [State.fetchOnce, hstop, hstall, hwork, hc, hi]

theorem State.takeUp_of_blocked {i : Item} (h : i.blocked ≠ none) : s.takeUp l i = (s.fetchState l .blocked, false) := by
  simp [State.takeUp, Option.isSome_iff_ne_none, h]

theorem State.takeUp_of_promoted {i : Item} (hb : i.blocked = none) (hp : i.promoted = true) :
    s.takeUp l i = (s.fetchAt l i.startCursor, true) := by
  simp [State.takeUp, hb, hp]

theorem State.takeUp_of_unlicensed {i : Item} (hb : i.blocked = none) (hp : i.promoted = false)
    (hlic : i.licence = none) : s.takeUp l i = (s.promoted l i, true) := by
  simp [State.takeUp, hb, hp, hlic]

theorem State.takeUp_of_licensed {i : Item} {lic pid : Nat} (hb : i.blocked = none) (hp : i.promoted = false)
    (hlic : i.licence = some lic) (hpid : i.package = some pid) :
    s.takeUp l i = match promotionFailure s lic pid with
      | some why => (s.block l i why, false)
      | none => ((s.reserve l lic pid i.total).promoted l i, true) := by
  simp [State.takeUp, hb, hp, hlic, hpid] <;> rfl

/-- Successive changes of one lane's record are one change. -/
theorem State.modPl_modPl (s : State) (l : LaneId) (f g : Playout → Playout) :
    (s.modPl l f).modPl l g = s.modPl l (fun p => g (f p)) := by
  have h : ∀ (v : Quad Lane) (a b : Lane), (v.set l a).set l b = v.set l b := by
    intro v a b
    refine Quad.ext_get _ _ fun k => ?_
    by_cases hk : k = l
    · rw [hk, Quad.get_set_same, Quad.get_set_same]
    · rw [Quad.get_set_ne _ _ hk, Quad.get_set_ne _ _ hk, Quad.get_set_ne _ _ hk]
  simp [State.modPl, State.modLane, h]

end moves

end Sys2Proof.Machine
end

section
/-! PROOF. What settling leaves alone, and a fetcher's one move (R45, R46, R86 to R94). -/

namespace Sys2Proof.Machine

open Sys2Proof

/-! ### The lowest free slot (R88) -/

/-- A buffer of fewer than 48 frames leaves a slot number free. -/
theorem Playout.exists_free {p : Playout} (h : p.buffer.length < 48) :
    ∃ n, n < 48 ∧ p.buffer.any (fun b => b.num == n) = false := by
  by_contra hall
  push Not at hall
  have hsub : List.range 48 ⊆ p.buffer.map BufSlot.num := by
    intro n hn
    have hused := hall n (List.mem_range.mp hn)
    simp only [ne_eq, Bool.not_eq_false, List.any_eq_true, beq_iff_eq] at hused
    exact List.mem_map.mpr hused
  have hle := (List.nodup_range.subperm hsub).length_le
  simp only [List.length_range, List.length_map] at hle
  omega

/-- A frame fetched takes the lowest free slot. -/
theorem Playout.takesSlot_newSlot {p : Playout} (i : Item) (pos : Pos) (h : p.buffer.length < 48) :
    p.TakesSlot (newSlot p.freeSlot i pos) i pos := by
  obtain ⟨m, hm, hfree⟩ := p.exists_free h
  have hsome : (List.range 48).find? (fun n => !(p.buffer.any (fun b => b.num == n))) = some p.freeSlot := by
    unfold Playout.freeSlot
    cases hfind : (List.range 48).find? (fun n => !(p.buffer.any (fun b => b.num == n))) with
    | some n => rfl
    | none =>
      have := List.find?_eq_none.mp hfind m (List.mem_range.mpr hm)
      simp [hfree] at this
  obtain ⟨hunused, as, bs, hsplit, hbefore⟩ := List.find?_eq_some_iff_append.mp hsome
  have hlt : p.freeSlot < 48 := List.mem_range.mp (List.mem_of_find?_eq_some hsome)
  refine ⟨fun x hx hnum => ?_, fun n hn => ?_, hlt, rfl⟩
  · have : p.buffer.any (fun b => b.num == p.freeSlot) = true := List.any_eq_true.mpr ⟨x, hx, by simpa [newSlot] using hnum⟩
    simp [this] at hunused
  · by_contra hless
    have hless : n < p.freeSlot := Nat.lt_of_not_le hless
    have hmem : n ∈ as := by
      have hlen : as.length = p.freeSlot := by
        have hget := congrArg (fun l => l[as.length]?) hsplit
        simp only [List.getElem?_append_right (Nat.le_refl _), Nat.sub_self, List.getElem?_cons_zero] at hget
        obtain ⟨_, hget⟩ := List.getElem?_eq_some_iff.mp hget
        simpa using hget
      have hget := congrArg (fun l => l[n]?) hsplit
      simp only [List.getElem?_append_left (hlen ▸ hless)] at hget
      rw [List.getElem?_range (by omega)] at hget
      exact List.mem_of_getElem? hget.symm
    have hused := hbefore n hmem
    simp only [Bool.not_not, List.any_eq_true, beq_iff_eq] at hused
    obtain ⟨x, hx, hxn⟩ := hused
    exact hn x hx hxn

/-! ### A fetcher at a frame -/

section moves

variable {s : State} {l : LaneId} {i : Item} {pos : Pos} {pid : Nat}

theorem State.fetchAtFrame_black_full (taken : Bool) (hpid : i.package = none)
    (hfull : 48 ≤ (s.lane l).pl.buffer.length) : s.fetchAtFrame l i pos taken = (s.fetchState l .full, false) := by
  simp [State.fetchAtFrame, hpid, hfull]

theorem State.fetchAtFrame_black (taken : Bool) (hpid : i.package = none)
    (hroom : (s.lane l).pl.buffer.length < 48) : s.fetchAtFrame l i pos taken = (s.fetchBlack l i pos, true) := by
  simp [State.fetchAtFrame, hpid, Nat.not_le.mpr hroom]

theorem State.fetchAtFrame_newReel (hpid : i.package = some pid) :
    s.fetchAtFrame l i pos false = if (s.lane l).pl.fetch.inHand.length < 2 then (s.reelInHand l i pid pos, true)
      else (s.fetchState l .reelWait, false) := by
  simp [State.fetchAtFrame, hpid]

theorem State.fetchAtFrame_taken (hpid : i.package = some pid) :
    s.fetchAtFrame l i pos true = if 48 ≤ (s.lane l).pl.buffer.length then (s.fetchState l .full, false)
      else match frameReady s pid pos.reel pos.reelFrame with
        | .missing tracks => (s.stall l pid pos.reel tracks, false)
        | .ready => (s.fetchFrame l i pos, true) := by
  simp [State.fetchAtFrame, hpid] <;> rfl

/-- A BLACK frame fetched is one change of the lane's record. -/
theorem State.fetchBlack_eq : s.fetchBlack l i pos = s.modPl l (fun p => { p with
    buffer := p.buffer ++ [newSlot p.freeSlot i pos],
    fetch := { p.fetch with state := .running, cursor := some (i.cursorAfter pos) } }) := by
  unfold State.fetchBlack State.fetchAt State.modFetch
  rw [State.modPl_modPl]

theorem State.promoted_eq : s.promoted l i = s.modPl l (fun p => { p with
    queue := p.queue.map (fun y => if y.uid = i.uid then { y with promoted := true } else y),
    fetch := { p.fetch with state := .running, cursor := some i.startCursor } }) := by
  unfold State.promoted State.fetchAt State.modFetch State.modItem
  rw [State.modPl_modPl]

theorem State.block_eq (why : Reason) : s.block l i why = s.modPl l (fun p => { p with
    queue := p.queue.map (fun y => if y.uid = i.uid then { y with blocked := some why } else y),
    stats := { p.stats with refused := satInc top32 p.stats.refused },
    fetch := { p.fetch with state := .blocked } }) := by
  unfold State.block State.fetchState State.modFetch State.modStats State.modItem
  rw [State.modPl_modPl, State.modPl_modPl]

end moves

/-! ### Stalls registered (R46) -/

/-- A lane registered on the tracks of a reel that an answer named. -/
def PackageRecord.stalledOn (r : PackageRecord) (l : LaneId) (reel : Nat) (tracks : List TrackKind) : PackageRecord :=
  tracks.foldl (fun r k => r.modTrack reel k (fun t =>
    if t.stalled.contains l then t else { t with stalled := t.stalled ++ [l] })) r

/-- A registered track has its units as they were, and the lane among those stalled. -/
theorem PackageRecord.track_stalledOn {l : LaneId} {reel : Nat} {k : TrackKind} {t : Track} (tracks : List TrackKind)
    (r : PackageRecord) (h : r.track reel k = some t) :
    ∃ t', (r.stalledOn l reel tracks).track reel k = some t' ∧ t'.received = t.received ∧ t'.inFlight = t.inFlight
      ∧ (l ∈ t.stalled ∨ k ∈ tracks → l ∈ t'.stalled) ∧ ∀ m, m ≠ l → (m ∈ t'.stalled ↔ m ∈ t.stalled) := by
  induction tracks generalizing r t with
  | nil => exact ⟨t, h, rfl, rfl, fun hm => hm.resolve_right (by simp), fun _ _ => Iff.rfl⟩
  | cons j rest ih =>
    have hstep := r.track_modTrack reel j k (fun t =>
      if t.stalled.contains l then t else { t with stalled := t.stalled ++ [l] })
    rw [h] at hstep
    by_cases hk : k = j
    · rw [if_pos hk, Option.map_some] at hstep
      obtain ⟨t', ht, hrec, hfl, hin, hother⟩ := ih _ hstep
      refine ⟨t', ht, ?_, ?_, fun _ => hin (.inl ?_), fun m hm => (hother m hm).trans ?_⟩
      · rw [hrec]
        split <;> rfl
      · rw [hfl]
        split <;> rfl
      · split
        · exact List.contains_iff_mem.mp ‹_›
        · simp
      · split
        · exact Iff.rfl
        · simp [hm]
    · rw [if_neg hk] at hstep
      obtain ⟨t', ht, hrec, hfl, hin, hother⟩ := ih _ hstep
      refine ⟨t', ht, hrec, hfl, fun hm => hin ?_, hother⟩
      rcases hm with hm | hm
      · exact .inl hm
      · exact .inr ((List.mem_cons.mp hm).resolve_left hk)

theorem State.stall_lane (s : State) (l : LaneId) (pid reel : Nat) (tracks : List TrackKind) :
    ((s.stall l pid reel tracks).lane l).pl = { (s.lane l).pl with
      stats := { (s.lane l).pl.stats with stalls := satInc top32 (s.lane l).pl.stats.stalls },
      fetch := { (s.lane l).pl.fetch with state := .stalled } } := by
  unfold State.stall State.fetchState State.modFetch State.modStats
  rw [State.modPl_modPl, State.lane_modPl_same]
  rfl

theorem State.stall_lane_ne (s : State) {l k : LaneId} (pid reel : Nat) (tracks : List TrackKind) (h : k ≠ l) :
    (s.stall l pid reel tracks).lane k = s.lane k := by
  unfold State.stall State.fetchState State.modFetch State.modStats
  rw [State.lane_modPl_ne _ _ h, State.lane_modPl_ne _ _ h]
  rfl

theorem State.stall_stc (s : State) (l : LaneId) (pid reel : Nat) (tracks : List TrackKind) :
    (s.stall l pid reel tracks).stc = s.stc.modRecord pid (fun r => r.stalledOn l reel tracks) := rfl

/-- A MISSING answer leaves its lane registered on each track it named (R46). -/
theorem State.stall_registers {s : State} {l : LaneId} {pid reel n : Nat} {tracks : List TrackKind} {e : TableEntry}
    {k : TrackKind} {t : Track} (hfind : s.stc.find pid = some (n, e)) (hk : k ∈ tracks)
    (ht : e.record.track reel k = some t) :
    ∃ e' t', (s.stall l pid reel tracks).stc.find pid = some (n, e') ∧ e'.window = e.window
      ∧ e'.record.track reel k = some t' ∧ t'.received = t.received ∧ t'.inFlight = t.inFlight
      ∧ ∀ m, m ∈ t'.stalled ↔ m = l ∨ m ∈ t.stalled := by
  obtain ⟨t', ht', hrec, hfl, hin, hother⟩ := PackageRecord.track_stalledOn (l := l) tracks e.record ht
  refine ⟨{ e with record := e.record.stalledOn l reel tracks }, t', ?_, rfl, ht', hrec, hfl, fun m => ?_⟩
  · rw [State.stall_stc, Storage.find_modRecord, hfind]
    rfl
  · by_cases hm : m = l
    · exact ⟨fun _ => .inl hm, fun _ => hm ▸ hin (.inr hk)⟩
    · exact (hother m hm).trans ⟨.inr, fun h => h.resolve_left hm⟩

/-! ### Readiness (R45) -/

theorem frameReady_of_reel {s : State} {pid n reel f : Nat} {e : TableEntry} {y : ReelTracks}
    (hfind : s.stc.find pid = some (n, e)) (hy : e.record.reels[reel]? = some y) :
    frameReady s pid reel f = (fun absent : List TrackKind => if absent.isEmpty then .ready else .missing absent)
      ((if y.picture.present f then [] else [TrackKind.picture])
        ++ (match y.sound with
          | none => []
          | some t => if t.present f then [] else [TrackKind.sound])) := by
  simp [frameReady, hfind, hy] <;> rfl

theorem State.testCued_eq (s : State) (l : LaneId) :
    s.testCued l = if (s.lane l).pl.state = .cueing ∧ (s.lane l).pl.atCuePoint = true
      then (s.modPl l (fun p => { p with state := .cued })).raiseLane l srcLaneReady else s := rfl

theorem Playout.atCuePoint_iff (p : Playout) : p.atCuePoint = true ↔ p.set.lowMark ≤ p.buffered
    ∨ p.fetch.state = .done ∨ p.fetch.state = .reelWait ∨ p.fetch.state = .blocked := by
  simp [Playout.atCuePoint, or_assoc]

theorem State.fetchAll_succ (s : State) (l : LaneId) (n : Nat) : s.fetchAll l (n + 1)
    = if (s.fetchOnce l).2 = true then (s.fetchOnce l).1.fetchAll l n else (s.fetchOnce l).1 := by
  conv => lhs; unfold State.fetchAll
  obtain ⟨u, b⟩ := s.fetchOnce l
  cases b <;> rfl

/-! ### The obligation -/

/-- Settles O10: the frame of settling, the fetchers' order and the cue point, one move of a fetcher in each case,
and PKA's answers. -/
theorem settlingLeavesAlone : Obligations.SettlingLeavesAlone := by
  refine ⟨fun s => ?_, fun s => ⟨State.settle_lanes_of_rest, rfl, fun l n => ⟨rfl, s.fetchAll_succ l n⟩, ?_⟩, ?_, ?_⟩
  · simp [State.settle_state_cases]
  · rintro l p rfl
    refine ⟨fun hcueing hpoint => ?_, fun hnot => ?_, List.countP_eq_length_filter.symm⟩
    · rw [State.testCued_eq, if_pos ⟨hcueing, (Playout.atCuePoint_iff _).mpr hpoint⟩]
    · rw [State.testCued_eq, if_neg]
      rintro ⟨hcueing, hpoint⟩
      rw [Playout.atCuePoint_iff] at hpoint
      rcases hnot with hnot | ⟨hlow, hdone, hwait, hblocked⟩
      · exact hnot hcueing
      · rcases hpoint with h | h | h | h
        · omega
        · exact hdone h
        · exact hwait h
        · exact hblocked h
  · rintro s l p at_ rfl rfl
    refine ⟨State.fetchOnce_rests, fun hstop hstall hwork => ⟨fun uid hc => ?_, ?_⟩⟩
    · have hmove := State.fetchOnce_afterItem hstop hstall hwork hc
      refine ⟨fun hnone => by rw [hmove, hnone]; rfl, ?_⟩
      rintro i taken hi rfl
      rw [hi] at hmove
      refine ⟨fun hb => ?_, fun hb hp => ?_, fun hb hp hlic => ?_, fun lic pid hb hp hlic hpid => ⟨fun hpass => ?_,
        fun why hfail => ?_⟩⟩
      · exact hmove.trans (State.takeUp_of_blocked hb)
      · exact hmove.trans (State.takeUp_of_promoted hb hp)
      · exact hmove.trans ((State.takeUp_of_unlicensed hb hp hlic).trans (by rw [State.promoted_eq]; rfl))
      · refine hmove.trans ((State.takeUp_of_licensed hb hp hlic hpid).trans ?_)
        rw [hpass, State.promoted_eq]
        rfl
      · refine hmove.trans ((State.takeUp_of_licensed hb hp hlic hpid).trans ?_)
        rw [hfail]
        exact congrArg (·, false) (State.block_eq why)
    · rintro uid i pos taken next hc hi rfl
      have hmove := State.fetchOnce_frameOf hstop hstall hwork hc hi
      refine ⟨fun hpid hfull => ?_, fun hpid hroom => ?_, fun pid hpid htaken => ?_, fun pid hpid htaken => ?_⟩
      · exact hmove.trans (State.fetchAtFrame_black_full taken hpid hfull)
      · refine ⟨_, Playout.takesSlot_newSlot i pos hroom, hmove.trans ?_⟩
        rw [State.fetchAtFrame_black taken hpid hroom, State.fetchBlack_eq]
        rfl
      · subst htaken
        rw [State.fetchAtFrame_newReel hpid] at hmove
        exact ⟨fun hroom => by rw [hmove, if_pos hroom]; rfl,
          fun hfull => by rw [hmove, if_neg (Nat.not_lt.mpr hfull)]; rfl⟩
      · subst htaken
        rw [State.fetchAtFrame_taken hpid] at hmove
        refine ⟨fun hfull => by rw [hmove, if_pos hfull]; rfl, fun hroom hready => ?_,
          fun tracks hroom hmissing => ?_⟩
        · refine ⟨_, Playout.takesSlot_newSlot i pos hroom, hmove.trans ?_⟩
          rw [if_neg (Nat.not_le.mpr hroom), hready]
          rfl
        · rw [if_neg (Nat.not_le.mpr hroom), hmissing] at hmove
          exact ⟨_, hmove, s.stall_lane l pid pos.reel tracks, fun k hk => s.stall_lane_ne pid pos.reel tracks hk,
            rfl, rfl, rfl, fun n e k t => State.stall_registers⟩
  · intro s pid n reel f e y hfind hy
    rw [frameReady_of_reel hfind hy]
    cases hs : y.sound with
    | none => cases hp : y.picture.present f <;> simp_all
    | some t => cases hp : y.picture.present f <;> cases ht : t.present f <;> simp_all

end Sys2Proof.Machine
end

section
/-! PROOF. What keeps the invariants of every step: for each kind of update of the state, what has to be known of it. -/

namespace Sys2Proof.Machine

open Sys2Proof

/-! ### The invariants, kept from one state to another -/

/-- One state's change into another keeps the invariants of stores, licences, log, ports and queues, and the samples
in their range. -/
structure State.Keeps (s u : State) : Prop where
  windows : s.WindowsApart → u.WindowsApart := by exact fun h => h
  stores : s.StoresBounded → u.StoresBounded := by exact fun h => h
  licences : s.LicencesConserved → u.LicencesConserved := by exact fun h => h
  log : s.LogBounded → u.LogBounded := by exact fun h => h
  ports : s.PortsBounded → u.PortsBounded := by exact fun h => h
  lanes : s.LanesBounded → u.LanesBounded := by exact fun h => h
  samples : s.SamplesInRange → u.SamplesInRange := by exact fun h => h

/-- It keeps those of the tick, of lane states, holds and gates besides. -/
structure State.KeepsAll (s u : State) : Prop extends s.Keeps u where
  tick : s.TickBuilt → u.TickBuilt := by exact fun h => h
  holds : s.HoldsSilence → u.HoldsSilence := by exact fun h => h
  gates : s.GatesSpaced → u.GatesSpaced := by exact fun h => h

/-- It keeps the first, and leaves every lane's state, binding and monitor, the holds and the clock as they are. -/
structure State.Steady (s u : State) : Prop extends s.Keeps u where
  state : ∀ l, (u.lane l).pl.state = (s.lane l).pl.state := by exact fun _ => rfl
  screen : ∀ l, (u.lane l).pl.screen = (s.lane l).pl.screen := by exact fun _ => rfl
  ftm : ∀ l, (u.lane l).ftm = (s.lane l).ftm := by exact fun _ => rfl
  held : u.held = s.held := by exact rfl
  clock : u.clock = s.clock := by exact rfl

/-- It keeps what the tick that runs has built besides. -/
structure State.Calm (s u : State) : Prop extends s.Steady u where
  tick : s.TickBuilt → u.TickBuilt := by exact fun h => h

theorem mem_fours (l : Fin 4) : l ∈ fours := by
  revert l
  decide

/-- A lane's screen is in HOLD when its flag is set; a lane without one counts as held (R75). -/
theorem State.laneHeld_eq (s : State) (l : LaneId) :
    s.laneHeld l = (match (s.lane l).pl.screen with
      | none => true
      | some c => s.held.get c) := by
  cases hscreen : (s.lane l).pl.screen with
  | none => simp [State.laneHeld, hscreen]
  | some c =>
    have hbound : fours.any (fun k => (s.lane k).pl.screen == some c) = true :=
      List.any_eq_true.mpr ⟨l, mem_fours l, by simp [hscreen]⟩
    simp [State.laneHeld, State.screenHeld, hbound, hscreen]

theorem State.laneHeld_congr {s u : State} {l : LaneId} (hheld : u.held = s.held)
    (hscreen : (u.lane l).pl.screen = (s.lane l).pl.screen) : u.laneHeld l = s.laneHeld l := by
  rw [State.laneHeld_eq, State.laneHeld_eq, hheld, hscreen]

theorem State.Steady.laneHeld {s u : State} (h : s.Steady u) (l : LaneId) : u.laneHeld l = s.laneHeld l :=
  State.laneHeld_congr h.held (h.screen l)

theorem State.Steady.holds {s u : State} (h : s.Steady u) : s.HoldsSilence → u.HoldsSilence := by
  rintro ⟨hone, hidle, hcheck⟩
  refine ⟨fun l k c => ?_, fun l => ?_, fun l => ?_⟩
  · rw [h.screen, h.screen]
    exact hone l k c
  · rw [h.laneHeld, h.state]
    exact hidle l
  · rw [h.ftm, h.state]
    exact hcheck l

theorem State.Steady.gates {s u : State} (h : s.Steady u) : s.GatesSpaced → u.GatesSpaced := fun hg l => by
  rw [h.ftm]
  exact hg l

theorem State.Calm.keepsAll {s u : State} (h : s.Calm u) : s.KeepsAll u :=
  { h.toKeeps with tick := h.tick, holds := h.holds, gates := h.gates }

namespace State

variable {s u v : State}

theorem Keeps.refl (s : State) : s.Keeps s := {}

theorem Keeps.trans (h : s.Keeps u) (k : u.Keeps v) : s.Keeps v :=
  ⟨k.windows ∘ h.windows, k.stores ∘ h.stores, k.licences ∘ h.licences, k.log ∘ h.log, k.ports ∘ h.ports,
    k.lanes ∘ h.lanes, k.samples ∘ h.samples⟩

theorem KeepsAll.refl (s : State) : s.KeepsAll s := {}

theorem KeepsAll.trans (h : s.KeepsAll u) (k : u.KeepsAll v) : s.KeepsAll v :=
  ⟨h.toKeeps.trans k.toKeeps, k.tick ∘ h.tick, k.holds ∘ h.holds, k.gates ∘ h.gates⟩

theorem Steady.refl (s : State) : s.Steady s := {}

theorem Steady.trans (h : s.Steady u) (k : u.Steady v) : s.Steady v where
  toKeeps := h.toKeeps.trans k.toKeeps
  state l := (k.state l).trans (h.state l)
  screen l := (k.screen l).trans (h.screen l)
  ftm l := (k.ftm l).trans (h.ftm l)
  held := k.held.trans h.held
  clock := k.clock.trans h.clock

theorem Calm.refl (s : State) : s.Calm s := {}

theorem Calm.trans (h : s.Calm u) (k : u.Calm v) : s.Calm v :=
  ⟨h.toSteady.trans k.toSteady, k.tick ∘ h.tick⟩

/-! ### Lanes -/

/-- Every lane after an update of one lane's record. -/
theorem lane_modPl (s : State) (l k : LaneId) (f : Playout → Playout) :
    ((s.modPl l f).lane k).pl = if k = l then f (s.lane l).pl else (s.lane k).pl := by
  split
  · rename_i hk
    rw [hk, State.lane_modPl_same]
  · rename_i hk
    rw [State.lane_modPl_ne s f hk]

theorem lane_modFtm (s : State) (l k : LaneId) (f : Monitor → Monitor) :
    ((s.modFtm l f).lane k).ftm = if k = l then f (s.lane l).ftm else (s.lane k).ftm := by
  split
  · rename_i hk
    rw [hk, State.lane_modFtm_same]
  · rename_i hk
    rw [State.lane_modFtm_ne s f hk]

theorem lane_modSne (s : State) (l k : LaneId) (f : Sound → Sound) :
    ((s.modSne l f).lane k).sne = if k = l then f (s.lane l).sne else (s.lane k).sne := by
  split
  · rename_i hk
    rw [hk, State.lane_modSne_same]
  · rename_i hk
    rw [State.lane_modSne_ne s f hk]

end State

/-! ### Updates of one lane -/

/-- What of the invariants one lane's record holds (R81, R87, R91). -/
def Playout.Bounded (p : Playout) : Prop :=
  p.queue.length ≤ 16 ∧ p.buffer.length ≤ 48 ∧ p.fetch.inHand.length ≤ 2

/-- What of the invariants one lane's monitor holds (R111, R119, R137). -/
def Monitor.Spaced (m : Monitor) : Prop :=
  (m.gate.result = some .valid → 4000 ≤ m.gate.count)
    ∧ (m.gate.state = .opened → (m.gate.opened = false → m.gate.pulses = 0)
      ∧ (m.gate.opened = true → (∃ last ∈ m.lastAccepted, m.gate.openTick ≤ last)
        ∧ (0 < m.gate.pulses → 4000 ≤ m.gate.count)))

/-- What of the invariants one lane's sound holds at a count of base ticks and wall samples (R136, R162, R171). -/
structure Sound.Built (u : Sound) (ticks samples : Nat) : Prop where
  count : u.built.length + 48 * ticks = samples
  width : ∀ v ∈ u.built, v.length = u.latched.length
  pointer : u.state = .running → u.pointer ≠ none

/-- A lane's values so far in the tick are 24-bit values. -/
def Sound.InRange (u : Sound) : Prop := ∀ v ∈ u.built, ∀ x ∈ v, inSampleRange x

/-- A lane may go to a state: not among those that STOP takes while its screen is in HOLD, and not away from
STARTING under an open check gate (R75, R114, R123). -/
def State.MayEnter (s : State) (l : LaneId) (x : LaneState) : Prop :=
  (x.stoppable = true → s.laneHeld l = false)
    ∧ ((s.lane l).ftm.gate.state = .opened → (s.lane l).ftm.gate.owner = .check →
      (s.lane l).pl.state = .starting → x = .starting)

theorem LaneState.stoppable_eq_false (x : LaneState) : x.stoppable = false ↔ x = .idle ∨ x = .resetting := by
  cases x <;> simp [LaneState.stoppable]

theorem State.HoldsSilence.laneHeld {s : State} {l : LaneId} (h : s.HoldsSilence)
    (hs : (s.lane l).pl.state.stoppable = true) : s.laneHeld l = false := by
  by_contra hheld
  have hidle := h.2.1 l (Bool.eq_true_of_not_eq_false hheld)
  rw [← LaneState.stoppable_eq_false, hs] at hidle
  cases hidle

theorem State.tickBuilt_iff (s : State) : s.TickBuilt ↔
    (s.clock.now ≤ s.nextBase ∧ 48 * s.clock.ticks ≤ s.clock.samples ∧ s.clock.samples ≤ 48 * (s.clock.ticks + 1))
      ∧ ∀ l, (s.lane l).sne.Built s.clock.ticks s.clock.samples :=
  ⟨fun ⟨hnow, hlo, hhi, h⟩ => ⟨⟨hnow, hlo, hhi⟩, fun l => ⟨(h l).1, (h l).2.1, (h l).2.2⟩⟩,
    fun ⟨⟨hnow, hlo, hhi⟩, h⟩ => ⟨hnow, hlo, hhi, fun l => ⟨(h l).count, (h l).width, (h l).pointer⟩⟩⟩

namespace State

variable {s u v : State} {l : LaneId}

/-- Lane updates that leave sound alone keep what is said of sound. -/
theorem SamplesInRange.congr (hs : s.SamplesInRange) (hsne : ∀ l, (u.lane l).sne = (s.lane l).sne)
    (hlink : u.link.queue = s.link.queue) : u.SamplesInRange :=
  ⟨fun l => by rw [hsne]; exact hs.1 l, by rw [hlink]; exact hs.2⟩

theorem TickBuilt.congr (ht : s.TickBuilt) (hsne : ∀ l, (u.lane l).sne = (s.lane l).sne)
    (hclock : u.clock = s.clock) : u.TickBuilt := by
  unfold State.TickBuilt State.nextBase at *
  simpa only [hsne, hclock] using ht

theorem LanesBounded.congr (h : s.LanesBounded) (hpl : ∀ l, (u.lane l).pl = (s.lane l).pl) : u.LanesBounded :=
  fun l => by rw [hpl]; exact h l

theorem Keeps.modPl {f : Playout → Playout} (hb : (s.lane l).pl.Bounded → (f (s.lane l).pl).Bounded) :
    s.Keeps (s.modPl l f) where
  lanes h k := by
    rw [lane_modPl]
    split
    · exact hb (h l)
    · exact h k
  samples h := h.congr (fun k => modPl_lane_sne s l k f) rfl

/-- A change of a lane's record that leaves its state and its binding. -/
theorem Calm.modPl {f : Playout → Playout} (hstate : (f (s.lane l).pl).state = (s.lane l).pl.state)
    (hscreen : (f (s.lane l).pl).screen = (s.lane l).pl.screen)
    (hb : (s.lane l).pl.Bounded → (f (s.lane l).pl).Bounded) : s.Calm (s.modPl l f) where
  toKeeps := .modPl hb
  state k := by
    rw [lane_modPl]
    split
    · rename_i hk
      rw [hstate, hk]
    · rfl
  screen k := by
    rw [lane_modPl]
    split
    · rename_i hk
      rw [hscreen, hk]
    · rfl
  ftm k := modPl_lane_ftm s l k f
  tick h := h.congr (fun k => modPl_lane_sne s l k f) rfl

/-- A change of a lane's state that it may make, its binding unchanged. -/
theorem HoldsSilence.modPl {f : Playout → Playout} (hs : s.HoldsSilence)
    (hstate : s.MayEnter l (f (s.lane l).pl).state) (hscreen : (f (s.lane l).pl).screen = (s.lane l).pl.screen) :
    (s.modPl l f).HoldsSilence := by
  obtain ⟨hfree, hcheck⟩ := hstate
  obtain ⟨hone, hidle, hgate⟩ := hs
  have hscr : ∀ k, ((s.modPl l f).lane k).pl.screen = (s.lane k).pl.screen := by
    intro k
    rw [lane_modPl]
    split
    · rename_i hk
      rw [hscreen, hk]
    · rfl
  refine ⟨fun a b c => ?_, fun k => ?_, fun k => ?_⟩
  · rw [hscr, hscr]
    exact hone a b c
  · rw [laneHeld_congr (s := s) (u := s.modPl l f) rfl (hscr k), lane_modPl]
    split
    · rename_i hk
      subst hk
      rw [← LaneState.stoppable_eq_false]
      intro hheld
      by_contra hstop
      rw [hfree (Bool.eq_true_of_not_eq_false hstop)] at hheld
      cases hheld
    · exact hidle k
  · rw [modPl_lane_ftm, lane_modPl]
    intro hopen howner
    split
    · rename_i hk
      subst hk
      exact hcheck hopen howner (hgate k hopen howner)
    · exact hgate k hopen howner

theorem GatesSpaced.congr (hg : s.GatesSpaced) (hftm : ∀ l, (u.lane l).ftm = (s.lane l).ftm) : u.GatesSpaced :=
  fun l => by rw [hftm]; exact hg l

theorem KeepsAll.modPl (h : s.KeepsAll u) {f : Playout → Playout}
    (hstate : s.HoldsSilence → u.MayEnter l (f (u.lane l).pl).state)
    (hscreen : (f (u.lane l).pl).screen = (u.lane l).pl.screen)
    (hb : (u.lane l).pl.Bounded → (f (u.lane l).pl).Bounded) : s.KeepsAll (u.modPl l f) where
  toKeeps := h.toKeeps.trans (.modPl hb)
  tick ht := (h.tick ht).congr (fun k => modPl_lane_sne u l k f) rfl
  holds hs := (h.holds hs).modPl (hstate hs) hscreen
  gates hg := (h.gates hg).congr fun k => modPl_lane_ftm u l k f

theorem Keeps.modFtm (f : Monitor → Monitor) : s.Keeps (s.modFtm l f) where
  lanes h := h.congr fun k => modFtm_lane_pl s l k f
  samples h := h.congr (fun k => modFtm_lane_sne s l k f) rfl

/-- A change of a lane's monitor: an open check gate it leaves stands on a STARTING lane. -/
theorem HoldsSilence.modFtm {f : Monitor → Monitor} (hs : s.HoldsSilence)
    (hcheck : (f (s.lane l).ftm).gate.state = .opened → (f (s.lane l).ftm).gate.owner = .check →
      (s.lane l).pl.state = .starting) : (s.modFtm l f).HoldsSilence := by
  refine ⟨fun a b c => ?_, fun k => ?_, fun k => ?_⟩
  · rw [modFtm_lane_pl, modFtm_lane_pl]
    exact hs.1 a b c
  · rw [laneHeld_congr (s := s) (u := s.modFtm l f) rfl (by rw [modFtm_lane_pl]), modFtm_lane_pl]
    exact hs.2.1 k
  · rw [modFtm_lane_pl, lane_modFtm]
    split
    · rename_i hk
      rw [hk]
      exact hcheck
    · exact hs.2.2 k

theorem GatesSpaced.spaced (h : s.GatesSpaced) (l : LaneId) : (s.lane l).ftm.Spaced := h l

theorem KeepsAll.modFtm (h : s.KeepsAll u) {f : Monitor → Monitor}
    (hcheck : s.HoldsSilence → (f (u.lane l).ftm).gate.state = .opened → (f (u.lane l).ftm).gate.owner = .check →
      (u.lane l).pl.state = .starting)
    (hspaced : s.GatesSpaced → (f (u.lane l).ftm).Spaced) : s.KeepsAll (u.modFtm l f) where
  toKeeps := h.toKeeps.trans (.modFtm f)
  tick ht := (h.tick ht).congr (fun k => modFtm_lane_sne u l k f) rfl
  holds hs := (h.holds hs).modFtm (hcheck hs)
  gates hg k := by
    rw [lane_modFtm]
    split
    · exact hspaced hg
    · exact h.gates hg k

/-- A change of a lane's monitor that leaves its gate, and accepts no pulse. -/
theorem KeepsAll.modFtm_sameGate (h : s.KeepsAll u) {f : Monitor → Monitor}
    (hgate : (f (u.lane l).ftm).gate = (u.lane l).ftm.gate)
    (hlast : (f (u.lane l).ftm).lastAccepted = (u.lane l).ftm.lastAccepted) : s.KeepsAll (u.modFtm l f) :=
  h.modFtm (fun hs => by rw [hgate]; exact (h.holds hs).2.2 l) (fun hg => by
    unfold Monitor.Spaced
    rw [hgate, hlast]
    exact h.gates hg l)

theorem KeepsAll.calm (h : s.KeepsAll u) (k : u.Calm v) : s.KeepsAll v := h.trans k.keepsAll

theorem Calm.modSce (f : CueEngine → CueEngine) : s.Calm (s.modSce l f) where
  lanes h := h.congr fun k => modSce_lane_pl s l k f
  samples h := h.congr (fun k => modSce_lane_sne s l k f) rfl
  tick h := h.congr (fun k => modSce_lane_sne s l k f) rfl
  state k := by rw [modSce_lane_pl]
  screen k := by rw [modSce_lane_pl]
  ftm k := modSce_lane_ftm s l k f

/-- A change of a lane's sound that keeps what of the invariants it holds. -/
theorem Calm.modSne {f : Sound → Sound} (hrange : (s.lane l).sne.InRange → (f (s.lane l).sne).InRange)
    (hbuilt : (s.lane l).sne.Built s.clock.ticks s.clock.samples →
      (f (s.lane l).sne).Built s.clock.ticks s.clock.samples) : s.Calm (s.modSne l f) where
  lanes h := h.congr fun k => modSne_lane_pl s l k f
  samples h := by
    refine ⟨fun k => ?_, h.2⟩
    rw [lane_modSne]
    split
    · exact hrange (h.1 l)
    · exact h.1 k
  tick h := by
    rw [tickBuilt_iff] at h ⊢
    refine ⟨h.1, fun k => ?_⟩
    rw [lane_modSne]
    split
    · exact hbuilt (h.2 l)
    · exact h.2 k
  state k := by rw [modSne_lane_pl]
  screen k := by rw [modSne_lane_pl]
  ftm k := modSne_lane_ftm s l k f

/-! ### Updates of the other blocks -/

theorem Calm.emit (o : Output) : s.Calm (s.emit o) := {}

theorem Calm.raise (n : Nat) : s.Calm (s.raise n) := {}

theorem Calm.raiseLane (k : LaneId) (n : Nat) : s.Calm (s.raiseLane k n) := {}

theorem Calm.withNtu (n : Notices) : s.Calm { s with ntu := n } := {}

theorem Calm.modStc {f : Storage → Storage} (hwindows : s.WindowsApart → (s.modStc f).WindowsApart)
    (hstores : s.StoresBounded → (s.modStc f).StoresBounded) : s.Calm (s.modStc f) :=
  { windows := hwindows, stores := hstores }

theorem Calm.modPka {f : Assembler → Assembler} (hstaging : (f s.pka).staging.length = s.pka.staging.length)
    (htickets : s.pka.tickets.length ≤ 8 → (f s.pka).tickets.length ≤ 8) : s.Calm (s.modPka f) :=
  { stores := fun ⟨h1, h2, h3, h4, h5⟩ => ⟨h1, h2, hstaging.trans h3, htickets h4, h5⟩ }

theorem Calm.withShc {h : Showings} (hlicences : s.LicencesConserved → ({ s with shc := h } : State).LicencesConserved)
    (hlog : s.LogBounded → ({ s with shc := h } : State).LogBounded) : s.Calm { s with shc := h } :=
  { licences := hlicences, log := hlog }

theorem Calm.modBcp {f : ControlPort → ControlPort} (hpart : (f s.bcp).part = s.bcp.part)
    (hcmds : s.bcp.cmds.length ≤ 4 → (f s.bcp).cmds.length ≤ 4)
    (htags : s.bcp.overrunTags.length ≤ 4 → (f s.bcp).overrunTags.length ≤ 4) : s.Calm (s.modBcp f) :=
  { windows := fun ⟨h1, h2, h3, h4⟩ => ⟨h1, h2, fun hl => hpart.trans (h3 hl), h4⟩
    ports := fun ⟨h1, h2, h3⟩ => ⟨hcmds h1, htags h2, h3⟩ }

theorem Calm.reply (r : Reply) : s.Calm (s.reply r) :=
  .modBcp rfl (fun h => by rw [answerFirst_length]; exact h) id

/-- A run of calm updates over a list. -/
theorem Calm.foldl {α : Type} {f : State → α → State} (hf : ∀ (s : State) a, s.Calm (f s a)) (as : List α) (s : State) :
    s.Calm (as.foldl f s) := by
  induction as generalizing s with
  | nil => exact .refl s
  | cons a rest ih => exact (hf s a).trans (ih _)

theorem KeepsAll.ite {c : Prop} [Decidable c] (h : c → s.KeepsAll u) (k : ¬ c → s.KeepsAll v) :
    s.KeepsAll (if c then u else v) := by
  split
  · exact h ‹_›
  · exact k ‹_›

theorem Calm.ite {c : Prop} [Decidable c] (h : c → s.Calm u) (k : ¬ c → s.Calm v) :
    s.Calm (if c then u else v) := by
  split
  · exact h ‹_›
  · exact k ‹_›

/-- The screen's commands leave all but the outputs. -/
theorem Calm.toScreen (l : LaneId) (c : ScreenCommand) : s.Calm (s.toScreen l c) := by
  obtain ⟨more, h⟩ := s.toScreen_out l c
  rw [h]
  exact {}

theorem Calm.toScreenAll (l : LaneId) (cs : List ScreenCommand) : s.Calm (s.toScreenAll l cs) := by
  obtain ⟨more, h⟩ := s.toScreenAll_out l cs
  rw [h]
  exact {}

theorem Calm.cueStep (l : LaneId) (f : CueEngine → CueOut) : s.Calm (s.cueStep l f) :=
  (Calm.modSce _).trans (.toScreenAll l _)

end State

/-! ### The table -/

/-- A window's owner and place, all that R2 speaks of. -/
def Window.place (w : Window) : Nat × Nat × Nat := (w.packageId, w.base, w.limit)

/-- The owners and places of the windows in the table. -/
def Storage.places (c : Storage) : List (Nat × Nat × Nat) := c.windows.map Window.place

/-- What of the bounds the storage controller holds (R2, R11, R16). -/
def Storage.Bounded (c : Storage) : Prop :=
  c.table.length = 32 ∧ c.flight.length ≤ 8 ∧ (c.queue.map SlotRequest.slot).Nodup

/-- Two places share no block, and their owners differ. -/
def placesApart (a b : Nat × Nat × Nat) : Prop := (a.2.2 < b.2.1 ∨ b.2.2 < a.2.1) ∧ a.1 ≠ b.1

theorem pairwise_places (ws : List Window) :
    ws.Pairwise (fun a b => (a.limit < b.base ∨ b.limit < a.base) ∧ a.packageId ≠ b.packageId)
      ↔ (ws.map Window.place).Pairwise placesApart := by
  rw [List.pairwise_map]
  rfl

/-- Windows that are among those there were lie within the array and apart as those did. -/
theorem State.WindowsApart.of_places {s u : State} (h : s.WindowsApart) (hcap : u.stc.capacity = s.stc.capacity)
    (hload : u.stc.load = s.stc.load) (hpart : u.bcp.part = s.bcp.part)
    (hsub : u.stc.places.Sublist s.stc.places) : u.WindowsApart := by
  obtain ⟨hin, hpair, hpartial, hempty⟩ := h
  refine ⟨fun w hw => ?_, ?_, fun hl => ?_, fun hl => ?_⟩
  · obtain ⟨w', hw', heq⟩ := List.mem_map.mp (hsub.subset (List.mem_map_of_mem hw))
    obtain ⟨hpid, hbase, hlimit⟩ : w'.packageId = w.packageId ∧ w'.base = w.base ∧ w'.limit = w.limit := by
      simpa [Window.place] using heq
    have := hin w' hw'
    rw [hcap]
    omega
  · exact (pairwise_places _).mpr (((pairwise_places _).mp hpair).sublist hsub)
  · rw [hpart]
    exact hpartial (hload ▸ hl)
  · have hnil := hempty (hload ▸ hl)
    unfold Storage.places at hsub
    rw [hnil] at hsub
    simpa using hsub

/-- A change of the storage controller that adds no window, moves none, and leaves capacity and load. -/
theorem State.Calm.modStc_places {s : State} {f : Storage → Storage} (hcap : (f s.stc).capacity = s.stc.capacity)
    (hload : (f s.stc).load = s.stc.load) (hsub : (f s.stc).places.Sublist s.stc.places)
    (hb : s.stc.Bounded → (f s.stc).Bounded) : s.Calm (s.modStc f) :=
  .modStc (fun h => h.of_places hcap hload rfl hsub) fun ⟨h1, h2, h3, h4, h5⟩ =>
    let ⟨k1, k2, k3⟩ := hb ⟨h1, h2, h5⟩
    ⟨k1, k2, h3, h4, k3⟩

theorem filterMap_place_map (g : Option TableEntry → Option TableEntry)
    (hg : ∀ e, (g e).map (fun e => e.window.place) = e.map (fun e => e.window.place)) (t : List (Option TableEntry)) :
    ((t.map g).filterMap (fun e => e.map TableEntry.window)).map Window.place
      = (t.filterMap (fun e => e.map TableEntry.window)).map Window.place := by
  simp only [List.map_filterMap, List.filterMap_map]
  refine List.filterMap_congr fun e _ => ?_
  simpa [Function.comp_def] using hg e

theorem Storage.places_modEntry (c : Storage) (pid : Nat) {f : TableEntry → TableEntry}
    (hf : ∀ e, (f e).window.place = e.window.place) : (c.modEntry pid f).places = c.places := by
  refine filterMap_place_map _ (fun e => ?_) c.table
  split
  · cases e <;> simp [hf]
  · rfl

theorem Storage.places_modAt (c : Storage) (block : Nat) {f : Window → Window} (hf : ∀ w, (f w).place = w.place) :
    (c.modAt block f).places = c.places := by
  refine filterMap_place_map _ (fun e => ?_) c.table
  cases e with
  | none => rfl
  | some e =>
    simp only [Option.map_some, Option.some.injEq]
    split
    · exact hf _
    · rfl

theorem Storage.places_removeEntry (c : Storage) (i : Nat) :
    ({ c with table := modifyAt (fun _ => none) i c.table } : Storage).places.Sublist c.places := by
  have h : ∀ (i : Nat) (t : List (Option TableEntry)),
      ((modifyAt (fun _ => none) i t).filterMap (fun e => e.map TableEntry.window)).Sublist
        (t.filterMap (fun e => e.map TableEntry.window)) := by
    intro i t
    induction t generalizing i with
    | nil => cases i <;> exact .refl _
    | cons a rest ih =>
      cases i with
      | zero => cases a <;> simp [modifyAt]
      | succ i => cases a <;> simp [modifyAt, ih]
  exact (h i c.table).map _

theorem Storage.Serves.places {c d : Storage} (h : c.Serves d) : d.places = c.places := by
  have hrest : ∀ t : List (Option TableEntry), (t.filterMap (fun e => e.map TableEntry.window)).map Window.place
      = (t.map (Option.map TableEntry.atRest)).filterMap (fun e => e.map (fun e => e.window.place)) := by
    intro t
    rw [List.map_filterMap, List.filterMap_map]
    refine List.filterMap_congr fun e _ => ?_
    cases e <;> rfl
  unfold Storage.places Storage.windows
  rw [hrest, hrest, h.table]

theorem Storage.Serves.bounded {c d : Storage} (h : c.Serves d) (hb : c.Bounded) : d.Bounded := by
  obtain ⟨htable, hflight, hqueue⟩ := hb
  refine ⟨?_, h.bound hflight, hqueue.sublist (h.queue.map _)⟩
  have hlen := congrArg List.length h.table
  simpa [htable] using hlen

/-! ### Settling -/

theorem State.Settles.keepsAll {s u : State} (hreserve : ∀ (u : State) (l : LaneId) (lic pid total : Nat),
    promotionFailure u lic pid = none → u.Calm (u.reserve l lic pid total)) (h : s.Settles u) : s.KeepsAll u := by
  induction h with
  | refl => exact .refl s
  | @playout u l f _ hf ih =>
    refine ih.modPl (fun hs => ?_) (by rw [hf.frame]) fun ⟨hq, hbuf, hhand⟩ => ⟨?_, hf.full hbuf, hf.hands hhand⟩
    · rcases hf.state with heq | ⟨hcueing, hcued⟩
      · rw [heq]
        exact ⟨(ih.holds hs).laneHeld, fun _ _ h => h⟩
      · refine ⟨fun _ => (ih.holds hs).laneHeld (by rw [hcueing]; rfl), fun _ _ h => ?_⟩
        cases h.symm.trans hcueing
    · have hlen := congrArg List.length hf.marks
      simp only [List.length_map] at hlen
      omega
  | cues l f _ ih => exact ih.trans (Calm.modSce f).keepsAll
  | @storage u f _ hf ih =>
    refine ih.trans (Calm.modStc_places ?_ ?_ (hf.places ▸ List.Sublist.refl _) hf.bounded).keepsAll
    · rw [hf.frame]
    · rw [hf.frame]
  | @assembler u f _ hf ih =>
    refine ih.trans (Calm.modPka hf.staging fun h => ?_).keepsAll
    rw [hf.frame]
    exact h
  | sent o _ _ ih => exact ih.trans (Calm.emit o).keepsAll
  | raised n _ ih => exact ih.trans (Calm.raise n).keepsAll
  | reserved l lic pid total _ hpass ih => exact ih.trans (hreserve _ l lic pid total hpass).keepsAll

end Sys2Proof.Machine
end

section
/-! PROOF. The licences and the log under the showing counter's operations: held and counted showings, log occupancy
and record numbers (R51, R57 to R70). -/

namespace Sys2Proof.Machine

open Sys2Proof

/-! ### Counting over the reservations of all lanes -/

/-- The reservations of all lanes that satisfy a test, with one lane's list changed. -/
theorem countP_reservations_set (v : Quad (List Reservation)) (l : LaneId) (rs : List Reservation)
    (p : Reservation → Bool) :
    (v.set l rs).toList.flatten.countP p + (v.get l).countP p = v.toList.flatten.countP p + rs.countP p := by
  match l with
  | 0 | 1 | 2 | 3 =>
    simp only [Quad.toList, Quad.set, Quad.get, List.flatten_cons, List.flatten_nil, List.append_nil,
      List.countP_append]
    omega

theorem mem_reservations_set {v : Quad (List Reservation)} {l : LaneId} {rs : List Reservation} {r : Reservation}
    (h : r ∈ (v.set l rs).toList.flatten) : r ∈ rs ∨ r ∈ v.toList.flatten := by
  match l with
  | 0 | 1 | 2 | 3 =>
    simp only [Quad.toList, Quad.set, List.flatten_cons, List.flatten_nil, List.append_nil, List.mem_append] at h ⊢
    tauto

theorem mem_reservations_get {v : Quad (List Reservation)} {l : LaneId} {r : Reservation} (h : r ∈ v.get l) :
    r ∈ v.toList.flatten := by
  match l with
  | 0 | 1 | 2 | 3 =>
    simp only [Quad.toList, Quad.get, List.flatten_cons, List.flatten_nil, List.append_nil, List.mem_append] at h ⊢
    tauto

/-- Whether a reservation counts in a licence's held number. -/
def Reservation.heldFor (id : Nat) (r : Reservation) : Bool := r.licenceId == id && r.stage.holds

theorem Showings.heldOf_eq (h : Showings) (id : Nat) : h.heldOf id = h.allReservations.countP (Reservation.heldFor id) :=
  List.countP_eq_length_filter.symm

theorem Showings.heldSlots_eq (h : Showings) : h.heldSlots = h.allReservations.countP (fun r => r.stage == .promoted) :=
  List.countP_eq_length_filter.symm

theorem Showings.heldOf_withReservations (h : Showings) (l : LaneId) (rs : List Reservation) (id : Nat) :
    (h.withReservations l rs).heldOf id + (h.reservations.get l).countP (Reservation.heldFor id)
      = h.heldOf id + rs.countP (Reservation.heldFor id) := by
  rw [Showings.heldOf_eq, Showings.heldOf_eq]
  exact countP_reservations_set h.reservations l rs _

theorem Showings.heldSlots_withReservations (h : Showings) (l : LaneId) (rs : List Reservation) :
    (h.withReservations l rs).heldSlots + (h.reservations.get l).countP (fun r => r.stage == .promoted)
      = h.heldSlots + rs.countP (fun r => r.stage == .promoted) := by
  rw [Showings.heldSlots_eq, Showings.heldSlots_eq]
  exact countP_reservations_set h.reservations l rs _

/-! ### The two invariants of the showing counter -/

/-- The licences and reservations of R51 and R57. -/
def Showings.Conserved (h : Showings) : Prop :=
  (h.licences.map Licence.id).Nodup ∧ (∀ r ∈ h.allReservations, ∃ c ∈ h.licences, c.id = r.licenceId)
    ∧ (∀ c ∈ h.licences, c.maxShowings ≠ 0 → c.count + h.heldOf c.id ≤ c.maxShowings)

/-- The log of R60 and R67. -/
def Showings.Logged (h : Showings) : Prop := h.occupancy ≤ 256 ∧ ∀ x ∈ h.log, x.seq < h.nextSeq

theorem State.Calm.of_shc {s : State} {h : Showings} (hlicences : s.shc.Conserved → h.Conserved)
    (hlog : s.shc.Logged → h.Logged) : s.Calm { s with shc := h } :=
  .withShc hlicences hlog

theorem Showings.Conserved.of_reservations {h : Showings} {l : LaneId} {rs : List Reservation} (hc : h.Conserved)
    (hids : ∀ r ∈ rs, ∃ c ∈ h.licences, c.id = r.licenceId)
    (hheld : ∀ id, rs.countP (Reservation.heldFor id) ≤ (h.reservations.get l).countP (Reservation.heldFor id)) :
    (h.withReservations l rs).Conserved := by
  obtain ⟨hnodup, hall, hmax⟩ := hc
  refine ⟨hnodup, fun r hr => ?_, fun c hcm hlim => ?_⟩
  · rcases mem_reservations_set hr with hr | hr
    · exact hids r hr
    · exact hall r hr
  · have hle := hmax c hcm hlim
    have hcount := h.heldOf_withReservations l rs c.id
    have hfewer := hheld c.id
    omega

theorem Showings.Logged.of_reservations {h : Showings} {l : LaneId} {rs : List Reservation} (hl : h.Logged)
    (hslots : rs.countP (fun r => r.stage == .promoted)
      ≤ (h.reservations.get l).countP (fun r => r.stage == .promoted)) :
    (h.withReservations l rs).Logged := by
  obtain ⟨hocc, hseq⟩ := hl
  refine ⟨?_, hseq⟩
  have hcount := h.heldSlots_withReservations l rs
  have hlog : (h.withReservations l rs).log = h.log := rfl
  unfold Showings.occupancy at hocc ⊢
  rw [hlog]
  omega

/-- A lane's reservations fewer by some. -/
theorem State.Calm.dropReservations (s : State) (l : LaneId) {f : List Reservation → List Reservation}
    (hf : (f (s.shc.reservations.get l)).Sublist (s.shc.reservations.get l)) : s.Calm (s.modReservations l f) := by
  refine .of_shc (fun hc => hc.of_reservations (l := l) (fun r hr => ?_) fun id => hf.countP_le)
    fun hl => hl.of_reservations (l := l) hf.countP_le
  exact hc.2.1 r (mem_reservations_get (hf.subset hr))

/-- Changes of records that keep their numbers. -/
theorem Showings.Logged.modRecord {h : Showings} (hl : h.Logged) (seq : Nat) {f : ShowRecord → ShowRecord}
    (hf : ∀ x, (f x).seq = x.seq) : (h.modRecord seq f).Logged := by
  obtain ⟨hocc, hseq⟩ := hl
  refine ⟨?_, fun x hx => ?_⟩
  · simpa [Showings.occupancy, Showings.modRecord, Showings.heldSlots, Showings.allReservations] using hocc
  · obtain ⟨y, hy, rfl⟩ := List.mem_map.mp hx
    have hyseq := hseq y hy
    split
    · rw [hf]
      exact hyseq
    · exact hyseq

theorem State.Calm.modShowRecord (s : State) (seq : Nat) {f : ShowRecord → ShowRecord}
    (hf : ∀ x, (f x).seq = x.seq) : s.Calm { s with shc := s.shc.modRecord seq f } :=
  .of_shc id fun hl => hl.modRecord seq hf

/-- Changes of licences that keep ids, counts and maxima. -/
theorem Showings.Conserved.modLicence {h : Showings} (hc : h.Conserved) (id : Nat) {f : Licence → Licence}
    (hid : ∀ c, (f c).id = c.id)
    (hf : ∀ c ∈ h.licences, c.id = id → (f c).maxShowings ≠ 0 → (f c).count + h.heldOf id ≤ (f c).maxShowings) :
    (h.modLicence id f).Conserved := by
  obtain ⟨hnodup, hall, hmax⟩ := hc
  have hids : (h.modLicence id f).licences.map Licence.id = h.licences.map Licence.id := by
    rw [Showings.modLicence, List.map_map]
    refine List.map_congr_left fun c _ => ?_
    simp only [Function.comp_apply]
    split
    · exact hid c
    · rfl
  refine ⟨hids ▸ hnodup, fun r hr => ?_, fun c hcm hlim => ?_⟩
  · obtain ⟨c, hcm, hcid⟩ := hall r hr
    have hmem : c.id ∈ (h.modLicence id f).licences.map Licence.id := hids ▸ List.mem_map_of_mem hcm
    obtain ⟨d, hd, hdid⟩ := List.mem_map.mp hmem
    exact ⟨d, hd, hdid.trans hcid⟩
  · obtain ⟨d, hd, rfl⟩ := List.mem_map.mp hcm
    split at hlim
    · rename_i hdid
      rw [if_pos hdid, hid, hdid]
      exact hf d hd hdid hlim
    · rename_i hdid
      rw [if_neg hdid]
      exact hmax d hd hlim

/-! ### Promotion -/

/-- What a passed promotion has found (R58). -/
theorem promotionFailure_eq_none {s : State} {lic pid : Nat} (h : promotionFailure s lic pid = none) :
    ∃ now c, s.clock.booth = some now ∧ s.shc.find lic = some c ∧ c.packageId = pid
      ∧ c.state (some now) ≠ .revoked ∧ c.state (some now) ≠ .expired ∧ c.notBefore ≤ now
      ∧ (c.maxShowings = 0 ∨ c.count + s.shc.heldOf lic < c.maxShowings)
      ∧ s.shc.occupancy < 256 ∧ s.shc.nextSeq ≤ top32 := by
  unfold promotionFailure at h
  split at h
  · cases h
  · rename_i now hnow
    split at h
    · cases h
    · rename_i c hfind
      refine ⟨now, c, hnow, hfind, ?_⟩
      split at h
      · cases h
      · split at h
        · cases h
        · split at h
          · cases h
          · split at h
            · cases h
            · split at h
              · cases h
              · split at h
                · cases h
                · refine ⟨Decidable.not_not.mp ‹_›, ‹_›, ‹_›, ?_, ?_, ?_, ?_⟩ <;> omega

theorem Showings.find_eq_some {h : Showings} {id : Nat} {c : Licence} (hfind : h.find id = some c) :
    c ∈ h.licences ∧ c.id = id :=
  ⟨List.mem_of_find?_eq_some hfind, by simpa using List.find?_some hfind⟩

/-- With ids standing once, the licence found is the only one of its id. -/
theorem Showings.Conserved.eq_of_find {h : Showings} (hc : h.Conserved) {c d : Licence} {id : Nat}
    (hfind : h.find id = some c) (hd : d ∈ h.licences) (hid : d.id = id) : d = c := by
  obtain ⟨hcm, hcid⟩ := Showings.find_eq_some hfind
  exact List.inj_on_of_nodup_map hc.1 hd hcm (hid.trans hcid.symm)

/-- A reservation made on a passed promotion. -/
theorem State.Calm.reserve (s : State) (l : LaneId) (lic pid total : Nat) (hpass : promotionFailure s lic pid = none) :
    s.Calm (s.reserve l lic pid total) := by
  obtain ⟨now, c, -, hfind, -, -, -, -, hroom, hocc, -⟩ := promotionFailure_eq_none hpass
  obtain ⟨hcm, hcid⟩ := Showings.find_eq_some hfind
  rw [State.reserve_of_find l pid total hfind]
  let rs := s.shc.reservations.get l ++ [s.newReservation l lic pid total c]
  have hcalm : s.Calm { s with shc := s.shc.withReservations l rs } := by
    refine .of_shc (fun hc => ⟨hc.1, fun r hr => ?_, fun d hd hlim => ?_⟩) fun ⟨_, hseq⟩ => ⟨?_, hseq⟩
    · rcases mem_reservations_set hr with hr | hr
      · rcases List.mem_append.mp hr with hr | hr
        · exact hc.2.1 r (mem_reservations_get hr)
        · rw [List.mem_singleton.mp hr]
          exact ⟨c, hcm, hcid⟩
      · exact hc.2.1 r hr
    · have hle := hc.2.2 d hd hlim
      have hcount := s.shc.heldOf_withReservations l rs d.id
      rw [List.countP_append, List.countP_singleton] at hcount
      by_cases hdid : d.id = lic
      · obtain rfl := hc.eq_of_find hfind hd hdid
        rw [hdid] at hcount hle ⊢
        split at hcount <;> omega
      · have hother : Reservation.heldFor d.id (s.newReservation l lic pid total c) = false := by
          simp [Reservation.heldFor, State.newReservation, Ne.symm hdid]
        rw [hother] at hcount
        simp only [Bool.false_eq_true, if_false] at hcount
        omega
    · have hcount := s.shc.heldSlots_withReservations l rs
      rw [List.countP_append, List.countP_singleton] at hcount
      simp only [State.newReservation, beq_self_eq_true, if_true] at hcount
      have hlog : (s.shc.withReservations l rs).log = s.shc.log := rfl
      unfold Showings.occupancy at hocc ⊢
      rw [hlog]
      omega
  dsimp only
  split
  · exact hcalm.trans (.raise _)
  · exact hcalm

/-- Settling keeps every invariant. -/
theorem State.KeepsAll.settle (s : State) : s.KeepsAll s.settle :=
  s.settles_settle.keepsAll State.Calm.reserve

/-! ### Records and ends -/

/-- The head of a lane's reservations in another stage. -/
theorem Showings.Conserved.restage {h : Showings} {l : LaneId} {r : Reservation} {rest : List Reservation}
    (hc : h.Conserved) (hget : h.reservations.get l = r :: rest) {x : Stage}
    (hx : x.holds = true → r.stage.holds = true) :
    (h.withReservations l ({ r with stage := x } :: rest)).Conserved := by
  refine hc.of_reservations (fun r' hr' => ?_) fun id => ?_
  · rcases List.mem_cons.mp hr' with rfl | hr'
    · exact hc.2.1 r (mem_reservations_get (l := l) (hget ▸ List.mem_cons_self))
    · exact hc.2.1 r' (mem_reservations_get (l := l) (hget ▸ List.mem_cons_of_mem _ hr'))
  · rw [hget, List.countP_cons, List.countP_cons]
    have : Reservation.heldFor id { r with stage := x } = true → Reservation.heldFor id r = true := by
      simp only [Reservation.heldFor, Bool.and_eq_true]
      exact fun ⟨h1, h2⟩ => ⟨h1, hx h2⟩
    split <;> simp_all

theorem State.Calm.testQualify (s : State) (l : LaneId) : s.Calm (s.testQualify l) := by
  unfold State.testQualify
  split
  · rename_i r rest hget
    split
    · rename_i seq hstage
      split
      · exact .refl s
      · split
        · have hlogged : s.shc.Logged → (s.shc.modRecord seq (fun x => { x with qualify := s.clock.booth })).Logged :=
            fun hl => hl.modRecord seq fun _ => rfl
          have hslots : ∀ h : Showings, h.reservations = s.shc.reservations → h.Logged →
              (h.withReservations l ({ r with stage := .qualified seq } :: rest)).Logged := by
            intro h hres hl
            refine hl.of_reservations ?_
            rw [hres, hget, List.countP_cons, List.countP_cons, hstage]
            simp
          refine State.Calm.trans (.of_shc (fun hc => ?_) fun hl => ?_) (.raiseLane l _)
          · split
            · -- in LIVE the count rises by one as the held number falls by one
              have hrestage : (s.shc.withReservations l ({ r with stage := .qualified seq } :: rest)).Conserved :=
                hc.restage hget (by simp [Stage.holds])
              refine hrestage.modLicence r.licenceId (fun _ => rfl) fun c hcm hcid hlim => ?_
              have hle := hc.2.2 c hcm hlim
              have hcount := s.shc.heldOf_withReservations l ({ r with stage := .qualified seq } :: rest) r.licenceId
              rw [hget, List.countP_cons, List.countP_cons] at hcount
              simp only [Reservation.heldFor, hstage, Stage.holds, beq_self_eq_true, Bool.and_true, Bool.and_false,
                Bool.false_eq_true, if_true, if_false] at hcount
              rw [hcid] at hle
              have hinc : satInc top16 c.count ≤ c.count + 1 := by
                unfold satInc
                split <;> omega
              dsimp only
              omega
            · exact hc.restage hget (by simp [Stage.holds])
          · split
            · exact hslots _ rfl (hlogged hl)
            · exact hslots _ rfl (hlogged hl)
        · exact .refl s
    · exact .refl s
    · exact .refl s
  · exact .refl s

theorem State.Calm.showReal (s : State) (l : LaneId) : s.Calm (s.showReal l) := by
  unfold State.showReal
  split
  · rename_i r rest hget
    split
    · rename_i hstage
      dsimp only
      refine State.Calm.trans (.of_shc (fun hc => ?_) fun ⟨hocc, hseq⟩ => ⟨?_, fun x hx => ?_⟩) (.testQualify _ l)
      · exact hc.restage hget (by simp [hstage, Stage.holds])
      · have hcount := s.shc.heldSlots_withReservations l ({ r with stage := .showing s.shc.nextSeq } :: rest)
        rw [hget, List.countP_cons, List.countP_cons, hstage] at hcount
        simp only [beq_self_eq_true, if_true, reduceCtorEq, beq_iff_eq, if_false] at hcount
        change (s.shc.withReservations l ({ r with stage := .showing s.shc.nextSeq } :: rest)).heldSlots
          + (s.shc.log ++ [_]).length ≤ 256
        unfold Showings.occupancy at hocc
        rw [List.length_append, List.length_singleton]
        omega
      · rcases List.mem_append.mp hx with hx | hx
        · exact Nat.lt_succ_of_lt (hseq x hx)
        · rw [List.mem_singleton.mp hx]
          exact Nat.lt_succ_self _
    · exact (State.Calm.modShowRecord s _ (by exact fun _ => rfl)).trans (.testQualify _ l)
    · exact (State.Calm.modShowRecord s _ (by exact fun _ => rfl)).trans (.testQualify _ l)
  · exact .refl s

theorem State.Calm.showFill (s : State) (l : LaneId) : s.Calm (s.showFill l) := by
  unfold State.showFill
  split
  · split
    · exact .refl s
    · exact .modShowRecord s _ (by exact fun _ => rfl)
    · exact .modShowRecord s _ (by exact fun _ => rfl)
  · exact .refl s

theorem State.Calm.closeRecord (s : State) (r : Reservation) (cause : EndCause) : s.Calm (s.closeRecord r cause) := by
  unfold State.closeRecord
  split
  · exact .refl s
  · exact .modShowRecord s _ (by exact fun _ => rfl)
  · exact .modShowRecord s _ (by exact fun _ => rfl)

theorem State.Calm.showItemEnd (s : State) (l : LaneId) : s.Calm (s.showItemEnd l) := by
  unfold State.showItemEnd
  split
  · exact (State.Calm.closeRecord s _ _).trans (.dropReservations _ l (List.tail_sublist _))
  · exact .refl s

theorem State.Calm.showStop (s : State) (l : LaneId) (cause : EndCause) : s.Calm (s.showStop l cause) :=
  (State.Calm.foldl (fun u r => .closeRecord u r cause) _ s).trans (.dropReservations _ l (List.nil_sublist _))

/-! ### Commands of the showing counter -/

theorem State.Calm.setRevoked (s : State) (id : Nat) : s.Calm (s.setRevoked id) := by
  refine .of_shc (fun hc => hc.modLicence id (fun _ => rfl) fun c hcm hcid hlim => ?_) fun hl => hl
  rw [← hcid]
  exact hc.2.2 c hcm hlim

theorem State.Calm.collected (s : State) (n : Nat) : s.Calm { s with shc := s.shc.collected n } := by
  refine .of_shc (fun hc => hc) fun ⟨hocc, hseq⟩ => ⟨?_, fun x hx => hseq x (List.mem_of_mem_filter hx)⟩
  have hle := List.length_filter_le (fun r => r.isOpen || Decidable.decide (n < r.seq)) s.shc.log
  unfold Showings.occupancy Showings.heldSlots Showings.allReservations Showings.collected at *
  dsimp only at *
  omega

/-- A licence loaded while none of its showings is held (R53). -/
theorem State.Calm.putLicence (s : State) (c : Licence) (hheld : (s.shc.find c.id).isSome → s.shc.heldOf c.id = 0)
    (hcount : c.maxShowings ≠ 0 → c.count ≤ c.maxShowings) : s.Calm { s with shc := s.shc.putLicence c } := by
  unfold Showings.putLicence
  split
  · rename_i hknown
    refine .of_shc (fun hc => ?_) fun hl => hl
    have hids : (s.shc.modLicence c.id (fun _ => c)).licences.map Licence.id = s.shc.licences.map Licence.id := by
      rw [Showings.modLicence, List.map_map]
      refine List.map_congr_left fun d _ => ?_
      simp only [Function.comp_apply]
      split
      · exact Eq.symm ‹_›
      · rfl
    refine ⟨hids ▸ hc.1, fun r hr => ?_, fun d hd hlim => ?_⟩
    · obtain ⟨d, hd, hdid⟩ := hc.2.1 r hr
      have hmem : d.id ∈ (s.shc.modLicence c.id (fun _ => c)).licences.map Licence.id :=
        hids ▸ List.mem_map_of_mem hd
      obtain ⟨e, he, heid⟩ := List.mem_map.mp hmem
      exact ⟨e, he, heid.trans hdid⟩
    · obtain ⟨e, he, rfl⟩ := List.mem_map.mp hd
      dsimp only at hlim ⊢
      split at hlim
      · rename_i heid
        rw [if_pos heid]
        have := hheld hknown
        have hsame : (s.shc.modLicence c.id (fun _ => c)).heldOf c.id = s.shc.heldOf c.id := rfl
        have := hcount hlim
        omega
      · rename_i heid
        rw [if_neg heid]
        exact hc.2.2 e he hlim
  · rename_i hunknown
    refine .of_shc (fun hc => ?_) fun hl => hl
    have hnone : ∀ d ∈ s.shc.licences, d.id ≠ c.id := by
      simpa [Showings.find, List.find?_isSome] using hunknown
    refine ⟨?_, fun r hr => ?_, fun d hd hlim => ?_⟩
    · rw [List.map_append, List.nodup_append]
      refine ⟨hc.1, List.nodup_singleton _, fun a ha b hb => ?_⟩
      obtain ⟨d, hd, rfl⟩ := List.mem_map.mp ha
      rw [List.map_singleton, List.mem_singleton] at hb
      rw [hb]
      exact hnone d hd
    · obtain ⟨d, hd, hdid⟩ := hc.2.1 r hr
      exact ⟨d, List.mem_append_left _ hd, hdid⟩
    · rcases List.mem_append.mp hd with hd | hd
      · exact hc.2.2 d hd hlim
      · obtain rfl := List.mem_singleton.mp hd
        have hfree : s.shc.heldOf d.id = 0 := by
          rw [Showings.heldOf_eq, List.countP_eq_zero]
          intro r hr hheldr
          obtain ⟨e, he, heid⟩ := hc.2.1 r hr
          simp only [Reservation.heldFor, Bool.and_eq_true, beq_iff_eq] at hheldr
          exact hnone e he (heid.trans hheldr.1)
        change d.count + s.shc.heldOf d.id ≤ d.maxShowings
        rw [hfree]
        exact hcount hlim

end Sys2Proof.Machine
end

section
/-! PROOF. The window table, the catalogue queue, staging and tickets under the operations of storage and ingest
(R2, R8, R16, R27 to R46). -/

namespace Sys2Proof.Machine

open Sys2Proof

/-! ### Staging slots and tickets -/

@[simp] theorem Assembler.passOn_staging_length (p : Assembler) (slot : Nat) :
    (p.passOn slot).staging.length = p.staging.length := by
  unfold Assembler.passOn
  split <;> simp

@[simp] theorem Assembler.passOn_tickets_length (p : Assembler) (slot : Nat) :
    (p.passOn slot).tickets.length = p.tickets.length := by
  unfold Assembler.passOn
  split <;> simp

theorem Assembler.passOnAll_lengths (p : Assembler) (slots : List Nat) :
    (p.passOnAll slots).staging.length = p.staging.length ∧ (p.passOnAll slots).tickets.length = p.tickets.length := by
  unfold Assembler.passOnAll
  induction sortBy (fun a b => decide (a ≤ b)) slots generalizing p with
  | nil => exact ⟨rfl, rfl⟩
  | cons slot rest ih =>
    obtain ⟨hstaging, htickets⟩ := ih (p.passOn slot)
    exact ⟨hstaging.trans (by simp), htickets.trans (by simp)⟩

@[simp] theorem Assembler.passOnAll_staging_length (p : Assembler) (slots : List Nat) :
    (p.passOnAll slots).staging.length = p.staging.length := (p.passOnAll_lengths slots).1

@[simp] theorem Assembler.passOnAll_tickets_length (p : Assembler) (slots : List Nat) :
    (p.passOnAll slots).tickets.length = p.tickets.length := (p.passOnAll_lengths slots).2

/-! ### The storage controller's updates -/

theorem Storage.request_queue_nodup {c : Storage} (slot : Nat) (h : (c.queue.map SlotRequest.slot).Nodup) :
    ((c.request slot).queue.map SlotRequest.slot).Nodup := by
  unfold Storage.request
  split
  · exact h
  · split
    · exact h
    · rename_i hnew
      rw [List.map_append, List.nodup_append]
      refine ⟨h, List.nodup_singleton _, fun a ha b hb => ?_⟩
      rw [List.map_singleton, List.mem_singleton] at hb
      rintro rfl
      obtain ⟨q, hq, hslot⟩ := List.mem_map.mp ha
      exact hnew (List.any_eq_true.mpr ⟨q, hq, by simp [hslot, hb]⟩)

theorem Storage.requeue_queue_nodup {c : Storage} (slot : Nat) (h : (c.queue.map SlotRequest.slot).Nodup) :
    ((c.requeue slot).queue.map SlotRequest.slot).Nodup := by
  unfold Storage.requeue
  split
  · have hsame : (c.queue.map (fun q => if q.slot = slot then { q with retry := true } else q)).map SlotRequest.slot
        = c.queue.map SlotRequest.slot := by
      rw [List.map_map]
      refine List.map_congr_left fun q _ => ?_
      simp only [Function.comp_apply]
      split <;> rfl
    rwa [hsame]
  · rename_i hnew
    rw [List.map_append, List.nodup_append]
    refine ⟨h, List.nodup_singleton _, fun a ha b hb => ?_⟩
    rw [List.map_singleton, List.mem_singleton] at hb
    rintro rfl
    obtain ⟨q, hq, hslot⟩ := List.mem_map.mp ha
    exact hnew (List.any_eq_true.mpr ⟨q, hq, by simp [hslot, hb]⟩)

/-- A request or a return to the queue changes the queue alone. -/
theorem Storage.request_eq (c : Storage) (slot : Nat) : c.request slot = { c with queue := (c.request slot).queue } := by
  unfold Storage.request
  split
  · rfl
  · split <;> rfl

theorem Storage.requeue_eq (c : Storage) (slot : Nat) : c.requeue slot = { c with queue := (c.requeue slot).queue } := by
  unfold Storage.requeue
  split <;> rfl

/-- A storage controller with the same table, capacity and load, and its bounds kept. -/
theorem State.Calm.modStc_table {s : State} {f : Storage → Storage} (hcap : (f s.stc).capacity = s.stc.capacity)
    (hload : (f s.stc).load = s.stc.load) (htable : (f s.stc).table = s.stc.table)
    (hflight : (f s.stc).flight.length ≤ s.stc.flight.length)
    (hqueue : (s.stc.queue.map SlotRequest.slot).Nodup → ((f s.stc).queue.map SlotRequest.slot).Nodup) :
    s.Calm (s.modStc f) :=
  .modStc_places hcap hload (by unfold Storage.places Storage.windows; rw [htable])
    fun ⟨h1, h2, h3⟩ => ⟨htable ▸ h1, hflight.trans h2, hqueue h3⟩

theorem State.Calm.request (s : State) (slot : Nat) : s.Calm (s.modStc fun c => c.request slot) := by
  have h := s.stc.request_eq slot
  refine .modStc_table ?_ ?_ ?_ ?_ (Storage.request_queue_nodup slot) <;> rw [h]

theorem State.Calm.requeue (s : State) (slot : Nat) : s.Calm (s.modStc fun c => c.requeue slot) := by
  have h := s.stc.requeue_eq slot
  refine .modStc_table ?_ ?_ ?_ ?_ (Storage.requeue_queue_nodup slot) <;> rw [h]

theorem State.Calm.modEntry (s : State) (pid : Nat) {f : TableEntry → TableEntry}
    (hf : ∀ e, (f e).window.place = e.window.place) : s.Calm (s.modStc fun c => c.modEntry pid f) :=
  .modStc_places rfl rfl (s.stc.places_modEntry pid hf ▸ List.Sublist.refl _)
    fun ⟨h1, h2, h3⟩ => ⟨by simpa [Storage.modEntry] using h1, h2, h3⟩

theorem State.Calm.modRecord (s : State) (pid : Nat) (f : PackageRecord → PackageRecord) :
    s.Calm (s.modStc fun c => c.modRecord pid f) :=
  .modEntry s pid fun _ => rfl

theorem State.Calm.modWindow (s : State) (pid : Nat) {f : Window → Window} (hf : ∀ w, (f w).place = w.place) :
    s.Calm (s.modStc fun c => c.modWindow pid f) :=
  .modEntry s pid fun _ => hf _

theorem State.Calm.modAt (s : State) (block : Nat) {f : Window → Window} (hf : ∀ w, (f w).place = w.place) :
    s.Calm (s.modStc fun c => c.modAt block f) :=
  .modStc_places rfl rfl (s.stc.places_modAt block hf ▸ List.Sublist.refl _)
    fun ⟨h1, h2, h3⟩ => ⟨by simpa [Storage.modAt] using h1, h2, h3⟩

theorem State.Calm.countFault (s : State) : s.Calm (s.modStc Storage.countFault) :=
  .modStc_table rfl rfl rfl (Nat.le_refl _) id

theorem State.Calm.catalogueFault (s : State) : s.Calm s.catalogueFault :=
  (State.Calm.countFault s).trans (.raise _)

theorem State.Calm.countFaultAt (s : State) (first : Nat) (faulted : Bool) : s.Calm (s.countFault first faulted) := by
  unfold State.countFault
  exact .ite (fun _ => (State.Calm.countFault s).trans (.modAt _ first fun _ => rfl)) fun _ => .refl s

theorem State.Calm.slotWriteFault (s : State) (slot : Nat) (retry : Bool) : s.Calm (s.slotWriteFault slot retry) := by
  unfold State.slotWriteFault
  dsimp only
  exact .ite (fun _ => .catalogueFault s) fun _ => (State.Calm.catalogueFault s).trans (.requeue _ slot)

/-- An operation returned leaves the port; windows stay in their places. -/
theorem State.Calm.returned (s : State) (index : Nat) (o : Operation) :
    s.Calm (s.modStc fun c => c.returned index o) := by
  have hflight := removeAt_length_le index s.stc.flight
  cases hkind : o.kind
  case slotWrite slot retry =>
    refine .modStc_table ?_ ?_ ?_ ?_ ?_ <;> simp [Storage.returned, hkind, hflight]
  all_goals
    refine .modStc_places ?_ ?_ ?_ ?_
    · simp [Storage.returned, hkind, Storage.modAt]
    · simp [Storage.returned, hkind, Storage.modAt]
    · simp only [Storage.returned, hkind]
      exact (Storage.places_modAt ({ s.stc with flight := removeAt index s.stc.flight } : Storage) o.first
        (f := fun w => { w with ops := w.ops - 1 }) fun _ => rfl) ▸ List.Sublist.refl _
    · rintro ⟨h1, h2, h3⟩
      simp only [Storage.returned, hkind, Storage.modAt, Storage.Bounded, List.length_map]
      exact ⟨h1, hflight.trans h2, h3⟩

/-! ### Ingest -/

theorem State.Calm.settleOffer (s : State) (c : ChunkId) (v : Verdict) : s.Calm (s.settleOffer c v) :=
  (State.Calm.emit _).trans (.modPka rfl id)

theorem State.Calm.expireTickets (s : State) : s.Calm s.expireTickets := by
  unfold State.expireTickets
  dsimp only
  refine .ite (fun _ => .refl s) fun _ => State.Calm.trans ?_ (.raise _)
  refine State.Calm.modPka (f := fun p => Assembler.passOnAll _ _) ?_ fun h => ?_
  · rw [Assembler.passOnAll_staging_length]
  · rw [Assembler.passOnAll_tickets_length]
    exact (List.length_filter_le _ _).trans h

theorem State.Calm.dropPackage (s : State) (pid : Nat) : s.Calm (s.dropPackage pid) := by
  unfold State.dropPackage
  dsimp only
  refine .trans (.trans (.modPka (by simp) fun h => (List.length_filter_le _ _).trans h) (.foldl ?_ _ _))
    (.modPka (by simp) (by simp))
  exact fun u h => .settleOffer u h.1 _

theorem State.Calm.release (s : State) (pid : Nat) : s.Calm (s.release pid) := by
  unfold State.release
  split
  · exact .refl s
  · rename_i i e _
    refine State.Calm.trans (.trans ?_ (.request _ i)) (.dropPackage _ pid)
    refine .modStc_places rfl rfl ?_ fun ⟨h1, h2, h3⟩ => ⟨by simpa using h1, h2, h3⟩
    exact s.stc.places_removeEntry i

theorem State.Calm.addReference (s : State) (pid : Nat) : s.Calm (s.addReference pid) :=
  .modWindow s pid fun _ => rfl

theorem State.Calm.dropReference (s : State) (pid : Nat) : s.Calm (s.dropReference pid) := by
  unfold State.dropReference
  dsimp only
  have hdrop := State.Calm.modWindow s pid (f := fun w => { w with refs := w.refs - 1 }) fun _ => rfl
  split
  · exact .ite (fun _ => hdrop.trans (.release _ pid)) fun _ => hdrop
  · exact hdrop

theorem State.Calm.stage (s : State) (c : Chunk) (slot : Nat) : s.Calm (s.stage c slot) := by
  unfold State.stage
  dsimp only
  split
  · exact .modPka (modifyAt_length _ _ _) id
  · exact State.Calm.trans (.modPka (modifyAt_length _ _ _) id) (.modRecord _ _ _)

theorem State.Calm.countRefusal (s : State) (c : ChunkId) (why : OfferRefusal) : s.Calm (s.countRefusal c why) :=
  .ite (fun _ => .modRecord s _ _) fun _ => .refl s

theorem State.Calm.handBack (s : State) (slot : Option Nat) : s.Calm (s.handBack slot) :=
  .modPka (by simp) (by simp)

theorem State.Calm.freshOffer (s : State) (c : Chunk) : s.Calm (s.freshOffer c) := by
  unfold State.freshOffer
  split
  · exact (State.Calm.countRefusal s _ _).trans (.emit _)
  · exact .emit _
  · refine .ite (fun hroom => .trans (.modPka rfl fun _ => ?_) (.emit _)) fun _ => .emit _
    rw [List.length_append]
    exact hroom
  · split
    · exact .refl s
    · exact .stage s c _

theorem State.Calm.reOffer (s : State) (c : Chunk) (place : Nat) (t : Ticket) : s.Calm (s.reOffer c place t) := by
  have hconsumed : s.Calm (s.modPka fun p => { p with tickets := removeAt place p.tickets }) :=
    .modPka rfl fun h => (removeAt_length_le _ _).trans h
  unfold State.reOffer
  dsimp only
  split
  · exact ((hconsumed.trans (.countRefusal _ _ _)).trans (.handBack _ _)).trans (.emit _)
  · exact (hconsumed.trans (.handBack _ _)).trans (.emit _)
  · refine (State.Calm.trans (.modPka rfl fun h => ?_) (.handBack _ _)).trans (.emit _)
    rw [modifyAt_length]
    exact h
  · split
    · exact hconsumed.trans (.stage _ c _)
    · split
      · exact hconsumed
      · exact hconsumed.trans (.stage _ c _)

theorem State.Calm.offer (s : State) (c : Chunk) : s.Calm (s.offer c) := by
  unfold State.offer
  refine .ite (fun _ => .emit _) fun _ => ?_
  split
  · exact .reOffer s c _ _
  · exact .freshOffer s c

/-- A fetcher's change that leaves its reels in hand. -/
theorem State.Calm.modFetch {s : State} {l : LaneId} {f : Fetcher → Fetcher}
    (hf : (s.lane l).pl.fetch.inHand.length ≤ 2 → (f (s.lane l).pl.fetch).inHand.length ≤ 2) :
    s.Calm (s.modFetch l f) :=
  .modPl rfl rfl fun ⟨hq, hb, hh⟩ => ⟨hq, hb, hf hh⟩

theorem State.Calm.modStats {s : State} {l : LaneId} (f : LaneStats → LaneStats) : s.Calm (s.modStats l f) :=
  .modPl rfl rfl id

theorem State.Calm.wake (s : State) (pid reel : Nat) (lanes : List LaneId) : s.Calm (s.wake pid reel lanes) := by
  unfold State.wake
  refine .trans (.modRecord s _ _) (.foldl (fun u l => .modFetch fun h => ?_) _ _)
  split <;> exact h

theorem State.Calm.dropStalls (s : State) (l : LaneId) : s.Calm (s.dropStalls l) := by
  refine .modStc_places rfl rfl ?_ fun ⟨h1, h2, h3⟩ => ⟨by simpa using h1, h2, h3⟩
  unfold Storage.places Storage.windows
  dsimp only
  rw [filterMap_place_map _ fun e => by cases e <;> rfl]

theorem State.Calm.testComplete (s : State) (pid : Nat) : s.Calm (s.testComplete pid) := by
  unfold State.testComplete
  split
  · exact .refl s
  · refine .ite (fun _ => .trans (State.Calm.trans (.modWindow s pid ?_) (.request _ _)) (.raise _)) fun _ => .refl s
    exact fun _ => rfl

theorem State.Calm.checkpoint (s : State) (pid : Nat) : s.Calm (s.checkpoint pid) := by
  unfold State.checkpoint
  split
  · exact .refl s
  · exact .ite (fun _ => State.Calm.trans (.modRecord s pid _) (.request _ _)) fun _ => .modRecord s pid _

theorem State.Calm.chunkTaken (s : State) (c : ChunkId) (k : TrackKind) : s.Calm (s.chunkTaken c k) :=
  .trans (.trans (.trans (.trans (.modRecord s _ _) (.settleOffer _ c _)) (.wake _ _ _ _)) (.checkpoint _ _))
    (.testComplete _ _)

theorem State.Calm.chunkFaulted (s : State) (c : ChunkId) (k : TrackKind) : s.Calm (s.chunkFaulted c k) :=
  .trans (.trans (.modRecord s _ _) (.settleOffer _ c _)) (.raise _)

theorem State.Calm.orphanReturn (s : State) (c : ChunkId) (ok : Bool) : s.Calm (s.orphanReturn c ok) := by
  unfold State.orphanReturn
  dsimp only
  exact .ite (fun _ => .settleOffer s c _) fun _ => (State.Calm.settleOffer s c _).trans (.raise _)

theorem State.Calm.passOn (s : State) (slot : Nat) : s.Calm (s.modPka fun p => p.passOn slot) :=
  .modPka (by simp) (by simp)

theorem State.Calm.chunkReturn (s : State) (slot : Nat) (ok : Bool) : s.Calm (s.chunkReturn slot ok) := by
  unfold State.chunkReturn
  split
  · dsimp only
    refine State.Calm.trans ?_ (.passOn _ slot)
    split
    · exact .ite (fun _ => .chunkTaken s _ _) fun _ => .chunkFaulted s _ _
    · exact .orphanReturn s _ ok
  · exact .refl s

end Sys2Proof.Machine
end

section
/-! PROOF. The samples of the tick that runs and the sound link under the sound engine's operations (R130 to R136,
R162 to R175). -/

namespace Sys2Proof.Machine

open Sys2Proof

/-! ### A lane changed as a whole -/

theorem State.lane_modLane (s : State) (l k : LaneId) (f : Lane → Lane) :
    (s.modLane l f).lane k = if k = l then f (s.lane l) else s.lane k := by
  split
  · rename_i hk
    rw [hk, State.lane_modLane_same]
  · rename_i hk
    rw [State.lane_modLane_ne s f hk]

/-- A change of a lane that leaves its state, its binding and its monitor. -/
theorem State.Steady.modLane {s : State} {l : LaneId} {f : Lane → Lane}
    (hstate : (f (s.lane l)).pl.state = (s.lane l).pl.state)
    (hscreen : (f (s.lane l)).pl.screen = (s.lane l).pl.screen) (hftm : (f (s.lane l)).ftm = (s.lane l).ftm)
    (hb : (s.lane l).pl.Bounded → (f (s.lane l)).pl.Bounded)
    (hrange : (s.lane l).sne.InRange → (f (s.lane l)).sne.InRange) : s.Steady (s.modLane l f) where
  lanes h k := by
    rw [State.lane_modLane]
    split
    · exact hb (h l)
    · exact h k
  samples h := by
    refine ⟨fun k => ?_, h.2⟩
    rw [State.lane_modLane]
    split
    · exact hrange (h.1 l)
    · exact h.1 k
  state k := by
    rw [State.lane_modLane]
    split
    · rename_i hk
      rw [hstate, hk]
    · rfl
  screen k := by
    rw [State.lane_modLane]
    split
    · rename_i hk
      rw [hscreen, hk]
    · rfl
  ftm k := by
    rw [State.lane_modLane]
    split
    · rename_i hk
      rw [hftm, hk]
    · rfl

theorem State.TickBuilt.modLane {s : State} {l : LaneId} {f : Lane → Lane} (h : s.TickBuilt)
    (hbuilt : (s.lane l).sne.Built s.clock.ticks s.clock.samples →
      (f (s.lane l)).sne.Built s.clock.ticks s.clock.samples) : (s.modLane l f).TickBuilt := by
  rw [State.tickBuilt_iff] at h ⊢
  refine ⟨h.1, fun k => ?_⟩
  rw [State.lane_modLane]
  split
  · exact hbuilt (h.2 l)
  · exact h.2 k

/-- A lane's sound so far in the tick, with the same values and channels. -/
theorem Sound.Built.congr {u v : Sound} {ticks samples : Nat} (h : u.Built ticks samples) (hbuilt : v.built = u.built)
    (hlatched : v.latched = u.latched) (hpointer : v.state = .running → v.pointer ≠ none) : v.Built ticks samples where
  count := hbuilt ▸ h.count
  width := by
    rw [hbuilt, hlatched]
    exact h.width
  pointer := hpointer

theorem Sound.InRange.congr {u v : Sound} (h : u.InRange) (hbuilt : v.built = u.built) : v.InRange := by
  unfold Sound.InRange
  rw [hbuilt]
  exact h

/-! ### Wall samples -/

@[simp] theorem Sound.carry_length (u : Sound) (r : Nat) (content : Nat → Int) :
    (u.carry r content).length = u.latched.length := by simp [Sound.carry]

theorem Sound.carry_inRange (u : Sound) (r : Nat) (content : Nat → Int) : ∀ x ∈ u.carry r content, inSampleRange x := by
  intro x hx
  obtain ⟨e, _, rfl⟩ := List.mem_map.mp hx
  split
  · exact ⟨by decide, by decide⟩
  · exact emitSample_inRange _ _ _ _

/-- A RUNNING lane's values are those of a carry. -/
theorem Lane.runningValues_carry (n : Lane) (w : Nat) (idx : Int) :
    ∃ r content, n.runningValues w idx = n.sne.carry r content := by
  unfold Lane.runningValues
  dsimp only
  split
  · exact ⟨_, _, rfl⟩
  · exact ⟨_, _, rfl⟩
  · exact ⟨_, _, rfl⟩
  · split <;> exact ⟨_, _, rfl⟩

theorem Sound.fallen_built (u : Sound) : u.fallen.built = u.built := by
  unfold Sound.fallen
  split <;> rfl

theorem Sound.fallen_latched (u : Sound) : u.fallen.latched = u.latched := by
  unfold Sound.fallen
  split <;> rfl

theorem Sound.fallen_state (u : Sound) : u.fallen.state ≠ .running := by
  unfold Sound.fallen
  split <;> exact nofun

/-- What a wall sample adds to a lane's sound: one value a channel, unless the lane is RUNNING without a pointer. -/
theorem Lane.sample_built (n : Lane) (w : Nat) (h : n.sne.state = .running → n.sne.pointer ≠ none) :
    (∃ r content, (n.sample w).sne.built = n.sne.carry r content :: n.sne.built)
      ∧ (n.sample w).sne.latched = n.sne.latched
      ∧ ((n.sample w).sne.state = .running → (n.sample w).sne.pointer ≠ none) := by
  unfold Lane.sample
  split
  · rename_i hs
    exact ⟨⟨_, _, rfl⟩, rfl, h⟩
  · exact ⟨⟨_, _, rfl⟩, rfl, h⟩
  · rename_i hrun
    unfold Lane.runningSample
    dsimp only
    split
    · rename_i hnone
      exact absurd hnone (h hrun)
    · obtain ⟨r, content, hvalues⟩ := n.runningValues_carry w
        (sampleMove _ (n.sne.corrections.find? (fun k => k.sample == w))).1
      exact ⟨⟨r, content, by rw [hvalues]⟩, rfl, fun _ => nofun⟩
  · rename_i hfall
    unfold Sound.fallingSample
    dsimp only
    split
    · refine ⟨⟨_, _, rfl⟩, rfl, fun hrun => ?_⟩
      cases hrun.symm.trans hfall
    · exact ⟨⟨_, _, Sound.fallen_built _⟩, Sound.fallen_latched _, fun hrun => absurd hrun (Sound.fallen_state _)⟩

theorem Lane.sample_inRange (n : Lane) (w : Nat) (h : n.sne.InRange) : (n.sample w).sne.InRange := by
  by_cases hstuck : n.sne.state = .running ∧ n.sne.pointer = none
  · have hsame : n.sample w = n := by simp [Lane.sample, Lane.runningSample, hstuck.1, hstuck.2]
    rwa [hsame]
  · obtain ⟨⟨r, content, hbuilt⟩, -, -⟩ := n.sample_built w fun hrun hnone => hstuck ⟨hrun, hnone⟩
    intro v hv
    rw [hbuilt] at hv
    rcases List.mem_cons.mp hv with rfl | hv
    · exact Sound.carry_inRange _ _ _
    · exact h v hv

theorem Lane.samples_inRange (n : Lane) (w k : Nat) (h : n.sne.InRange) : (n.samples w k).sne.InRange := by
  induction k generalizing n w with
  | zero => exact h
  | succ k ih => exact ih _ _ (n.sample_inRange w h)

theorem Lane.sample_keepsBuilt (n : Lane) (w : Nat) {ticks samples : Nat} (h : n.sne.Built ticks samples) :
    (n.sample w).sne.Built ticks (samples + 1) := by
  obtain ⟨⟨r, content, hbuilt⟩, hlatched, hpointer⟩ := n.sample_built w h.pointer
  refine ⟨?_, fun v hv => ?_, hpointer⟩
  · have := h.count
    rw [hbuilt, List.length_cons]
    omega
  · rw [hbuilt] at hv
    rw [hlatched]
    rcases List.mem_cons.mp hv with rfl | hv
    · exact Sound.carry_length _ _ _
    · exact h.width v hv

theorem Lane.samples_keepsBuilt (n : Lane) (w k : Nat) {ticks samples : Nat} (h : n.sne.Built ticks samples) :
    (n.samples w k).sne.Built ticks (samples + k) := by
  induction k generalizing n w samples with
  | zero => exact h
  | succ k ih =>
    have := ih _ (w + 1) (n.sample_keepsBuilt w h)
    rwa [Nat.add_right_comm samples 1 k] at this

/-! ### The clock -/

theorem State.lane_produceTo (s : State) (n : Nat) (l : LaneId) :
    (s.produceTo n).lane l = (s.lane l).samples s.clock.samples (n - s.clock.samples) := Quad.get_ofFn _ _

theorem State.Keeps.produceTo (s : State) (n : Nat) : s.Keeps (s.produceTo n) where
  lanes h := h.congr fun l => by rw [State.lane_produceTo, Lane.samples_pl]
  samples h := ⟨fun l => by
    rw [State.lane_produceTo]
    exact Lane.samples_inRange _ _ _ (h.1 l), h.2⟩

/-- The values built once every wall sample below a number of the tick is produced. -/
theorem State.TickBuilt.produced {s : State} (h : s.TickBuilt) (n : Nat) (l : LaneId) :
    ((s.produceTo n).lane l).sne.Built s.clock.ticks (max s.clock.samples n) := by
  rw [State.tickBuilt_iff] at h
  rw [State.lane_produceTo]
  have hk := (s.lane l).samples_keepsBuilt s.clock.samples (n - s.clock.samples) (h.2 l)
  have hsum : s.clock.samples + (n - s.clock.samples) = max s.clock.samples n := by omega
  rwa [hsum] at hk

theorem sampleFrom_le {t : Instant} {ticks : Nat} (h : t ≤ (ticks + 1) * baseUnits) :
    sampleFrom t ≤ 48 * (ticks + 1) := by
  unfold sampleFrom sampleUnits baseUnits Instant at *
  omega

/-- The clock moved to an instant of the tick that runs. -/
theorem State.KeepsAll.clockTo {s : State} {t : Instant} (ht : s.TickBuilt → t ≤ s.nextBase) :
    s.KeepsAll (s.clockTo t) := by
  have hpl : ∀ l, ((s.clockTo t).lane l).pl = (s.lane l).pl := fun l => State.clockTo_lane_pl s t l
  have hftm : ∀ l, ((s.clockTo t).lane l).ftm = (s.lane l).ftm := fun l => State.clockTo_lane_ftm s t l
  have hheld : ∀ l, (s.clockTo t).laneHeld l = s.laneHeld l := fun l => State.laneHeld_congr rfl (by rw [hpl])
  refine { toKeeps := ?_, tick := fun h => ?_, holds := fun ⟨h1, h2, h3⟩ => ?_, gates := fun h l => ?_ }
  · have hk := State.Keeps.produceTo s (sampleFrom t)
    exact ⟨hk.windows, hk.stores, hk.licences, hk.log, hk.ports, hk.lanes, hk.samples⟩
  · have hlt := ht h
    have hbuilt := h.produced (sampleFrom t)
    rw [State.tickBuilt_iff] at h ⊢
    obtain ⟨⟨-, hlo, hhi⟩, -⟩ := h
    have hs := sampleFrom_le (ticks := s.clock.ticks) hlt
    refine ⟨⟨hlt, ?_, ?_⟩, hbuilt⟩
    · exact hlo.trans (Nat.le_max_left _ _)
    · exact Nat.max_le.mpr ⟨hhi, hs⟩
  · refine ⟨fun l k c => ?_, fun l => ?_, fun l => ?_⟩
    · rw [hpl, hpl]
      exact h1 l k c
    · rw [hheld, hpl]
      exact h2 l
    · rw [hftm, hpl]
      exact h3 l
  · rw [hftm]
    exact h l

/-! ### Ramp-downs and ends -/

theorem Lane.rampDown_eq (n : Lane) (w : Nat) (toOff : Bool) :
    n.rampDown w toOff = { n with sne := (n.rampDown w toOff).sne } := by
  unfold Lane.rampDown
  dsimp only
  split
  · rfl
  · rfl
  · rfl
  · split <;> rfl

/-- A ramp-down leaves the tick's values and channels; a lane that was not RUNNING is not RUNNING after it. -/
theorem Lane.rampDown_sne (n : Lane) (w : Nat) (toOff : Bool) : (n.rampDown w toOff).sne.built = n.sne.built
    ∧ (n.rampDown w toOff).sne.latched = n.sne.latched ∧ (n.rampDown w toOff).sne.state ≠ .running := by
  unfold Lane.rampDown
  dsimp only
  split
  · rename_i h
    exact ⟨rfl, rfl, by rw [h]; exact nofun⟩
  · exact ⟨rfl, rfl, nofun⟩
  · rename_i h
    refine ⟨rfl, rfl, ?_⟩
    dsimp only
    rw [h]
    exact nofun
  · rename_i h
    split
    · exact ⟨rfl, rfl, nofun⟩
    · exact ⟨rfl, rfl, by rw [h]; exact nofun⟩

theorem State.Calm.rampDown (s : State) (l : LaneId) (toOff : Bool) : s.Calm (s.rampDown l toOff) := by
  obtain ⟨hbuilt, hlatched, hstate⟩ := (s.lane l).rampDown_sne s.clock.samples toOff
  have heq := (s.lane l).rampDown_eq s.clock.samples toOff
  exact
    { State.Steady.modLane (f := fun n => n.rampDown s.clock.samples toOff) (by rw [heq]) (by rw [heq])
        (by rw [heq]) (by rw [heq]; exact id) (fun h => h.congr hbuilt) with
      tick := fun h => h.modLane fun hb => hb.congr hbuilt hlatched fun hrun => absurd hrun hstate }

theorem State.Calm.soundEnded (s : State) (l : LaneId) : s.Calm (s.modSne l Sound.ended) := by
  refine .modSne (fun _ v hv => ?_) fun h => ⟨?_, fun v hv => ?_, nofun⟩
  · obtain ⟨_, _, rfl⟩ := List.mem_map.mp hv
    exact Sound.carry_inRange _ _ _
  · simpa [Sound.ended] using h.count
  · obtain ⟨_, _, rfl⟩ := List.mem_map.mp hv
    exact Sound.carry_length _ _ _

/-- A change of a lane's sound beside the values and channels of the tick, its state and its pointer. -/
theorem State.Calm.modSne_aside {s : State} {l : LaneId} {f : Sound → Sound} (hbuilt : ∀ u, (f u).built = u.built)
    (hlatched : ∀ u, (f u).latched = u.latched) (hstate : ∀ u, (f u).state = u.state)
    (hpointer : ∀ u, (f u).pointer = u.pointer) : s.Calm (s.modSne l f) :=
  .modSne (fun h => h.congr (hbuilt _)) fun h => h.congr (hbuilt _) (hlatched _) fun hrun => by
    rw [hpointer]
    exact h.pointer ((hstate _).symm.trans hrun)

/-! ### Presented frames -/

theorem Lane.reported_eq (n : Lane) : n.reported = { n with pl := { n.pl with buffer := n.reported.pl.buffer } } := by
  unfold Lane.reported
  split <;> rfl

theorem Lane.reported_buffer_length (n : Lane) : n.reported.pl.buffer.length ≤ n.pl.buffer.length := by
  unfold Lane.reported
  split
  · exact Nat.le_refl _
  · exact List.length_filter_le _ _

theorem Lane.reported_bounded (n : Lane) (h : n.pl.Bounded) : n.reported.pl.Bounded := by
  have hlen := n.reported_buffer_length
  obtain ⟨hq, hb, hh⟩ := h
  rw [Lane.reported_eq]
  exact ⟨hq, hlen.trans hb, hh⟩

/-- A frame handed to the engine changes the sound alone, and leaves the lane with a pointer. -/
theorem Lane.soundFrame_cases (n : Lane) (h : Handed) (w : Nat) :
    ∃ u c, n.soundFrame h w = { n with sne := u } ∧ u.built = n.sne.built ∧ u.latched = n.sne.latched
      ∧ u.pointer = some c := by
  unfold Lane.soundFrame
  dsimp only
  split
  · exact ⟨_, _, rfl, rfl, rfl, rfl⟩
  · split
    · exact ⟨_, _, rfl, rfl, rfl, rfl⟩
    · split <;> exact ⟨_, _, rfl, rfl, rfl, rfl⟩

theorem Lane.silentFrame_cases (n : Lane) (h : Handed) (w : Nat) (real : Bool) :
    ∃ u c, n.silentFrame h w real = { n with sne := u } ∧ u.built = n.sne.built ∧ u.latched = n.sne.latched
      ∧ u.pointer = some c := by
  unfold Lane.silentFrame
  dsimp only
  split <;> exact ⟨_, _, rfl, rfl, rfl, rfl⟩

/-- A change of a lane's sound that leaves it a pointer, and the report behind it. -/
theorem State.Calm.handed {s : State} {l : LaneId} {f : Lane → Lane}
    (hf : ∃ u c, f (s.lane l) = { s.lane l with sne := u } ∧ u.built = (s.lane l).sne.built
      ∧ u.latched = (s.lane l).sne.latched ∧ u.pointer = some c) :
    s.Calm (s.modLane l (fun n => (f n).reported)) := by
  obtain ⟨u, c, heq, hbuilt, hlatched, hpointer⟩ := hf
  have hrep := Lane.reported_eq (f (s.lane l))
  have hsne : (f (s.lane l)).reported.sne = u := by rw [hrep, heq]
  refine { State.Steady.modLane (f := fun n => (f n).reported) ?_ ?_ ?_ ?_ ?_ with tick := fun h => h.modLane ?_ }
  · rw [hrep, heq]
  · rw [hrep, heq]
  · rw [hrep, heq]
  · exact fun hb => Lane.reported_bounded _ (by rw [heq]; exact hb)
  · exact fun hr => Sound.InRange.congr hr (by rw [hsne, hbuilt])
  · exact fun hb => hb.congr (by rw [hsne, hbuilt]) (by rw [hsne, hlatched]) fun _ => by
      rw [hsne, hpointer]
      exact nofun

theorem State.Calm.soundPresented (s : State) (l : LaneId) (h : Handed) (real : Bool) :
    s.Calm (s.soundPresented l h real) := by
  unfold State.soundPresented
  dsimp only
  have hframe : s.Calm (s.modLane l (fun n => (n.soundFrame h s.clock.samples).reported)) :=
    .handed (f := fun n => n.soundFrame h s.clock.samples) (Lane.soundFrame_cases _ h _)
  split
  · exact .ite (fun _ => hframe.trans (.raiseLane l _)) fun _ => hframe
  · exact .handed (f := fun n => n.silentFrame h s.clock.samples real) (Lane.silentFrame_cases _ h _ real)

/-! ### The tick's end -/

theorem Sound.blocks_inRange {u : Sound} (h : u.InRange) (l : LaneId) :
    ∀ b ∈ u.blocks l, ∀ x ∈ b.samples, inSampleRange x := by
  intro b hb x hx
  obtain ⟨e, _, rfl⟩ := List.mem_map.mp hb
  obtain ⟨v, hv, rfl⟩ := List.mem_map.mp hx
  rw [List.getD_eq_getElem?_getD]
  cases hget : v[e.2]? with
  | none => exact ⟨by decide, by decide⟩
  | some x => exact h v (List.mem_reverse.mp hv) x (List.mem_of_getElem? hget)

theorem State.Calm.withLink {s : State} {k : SoundLink}
    (hlen : s.link.queue.length ≤ 1024 → k.queue.length ≤ 1024)
    (hrange : s.SamplesInRange → ∀ b ∈ k.queue, ∀ x ∈ b.samples, inSampleRange x) : s.Calm { s with link := k } :=
  { ports := fun ⟨h1, h2, h3⟩ => ⟨h1, h2, hlen h3⟩
    samples := fun h => ⟨h.1, hrange h⟩ }

theorem State.Calm.answerReady (s : State) : s.Calm s.answerReady := by
  unfold State.answerReady
  split
  · exact .refl s
  · rename_i b rest hq
    refine State.Calm.trans (.emit _) (.withLink (fun h => ?_) fun h x hx => ?_)
    · rw [State.emit_link, hq, List.length_cons] at h
      exact Nat.le_of_succ_le h
    · refine h.2 x ?_
      rw [State.emit_link, hq]
      exact List.mem_cons_of_mem _ hx

/-- A tick's blocks admitted: counted, and at the tail of the queue (R172). -/
def State.admitBlocks (s : State) (l : LaneId) (blocks : List SoundBlock) : State :=
  { s.modSne l (fun u => { u with counts := { u.counts with
      offered := satInc top32 u.counts.offered, admitted := satInc top32 u.counts.admitted,
      blocks := min top32 (u.counts.blocks + blocks.length) } }) with
    link := { s.link with queue := s.link.queue ++ blocks } }

/-- A tick dropped: counted at the lane and at the link, and SOUND_DROP raised (R173). -/
def State.dropBlocks (s : State) (l : LaneId) : State :=
  ({ s.modSne l (fun u => { u with counts := { u.counts with
      offered := satInc top32 u.counts.offered, dropped := satInc top32 u.counts.dropped } }) with
    link := { s.link with dropped := satInc top32 s.link.dropped } } : State).raise srcSoundDrop

theorem State.offerBlocks_eq (s : State) (l : LaneId) (blocks : List SoundBlock) :
    s.offerBlocks l blocks = if s.link.queue.length + blocks.length ≤ 1024 then
      (if s.link.ready then (s.admitBlocks l blocks).answerReady else s.admitBlocks l blocks)
      else s.dropBlocks l := rfl

theorem State.Calm.countSound (s : State) (l : LaneId) (f : SoundCounts → SoundCounts) :
    s.Calm (s.modSne l fun u => { u with counts := f u.counts }) :=
  .modSne_aside (fun _ => rfl) (fun _ => rfl) (fun _ => rfl) fun _ => rfl

theorem State.Calm.admitBlocks {s : State} {l : LaneId} {blocks : List SoundBlock}
    (hroom : s.link.queue.length + blocks.length ≤ 1024)
    (hrange : s.SamplesInRange → ∀ b ∈ blocks, ∀ x ∈ b.samples, inSampleRange x) : s.Calm (s.admitBlocks l blocks) := by
  have hjoined : s.Calm { s with link := { s.link with queue := s.link.queue ++ blocks } } := by
    refine .withLink (fun _ => ?_) fun h b hb => ?_
    · rw [List.length_append]
      exact hroom
    · exact (List.mem_append.mp hb).elim (h.2 b) (hrange h b)
  exact hjoined.trans (.countSound _ l fun k => { k with
    offered := satInc top32 k.offered, admitted := satInc top32 k.admitted,
    blocks := min top32 (k.blocks + blocks.length) })

theorem State.Calm.dropBlocks (s : State) (l : LaneId) : s.Calm (s.dropBlocks l) := by
  have hcounted : s.Calm { s with link := { s.link with dropped := satInc top32 s.link.dropped } } :=
    .withLink id fun h => h.2
  exact (hcounted.trans (.countSound _ l fun k => { k with
    offered := satInc top32 k.offered, dropped := satInc top32 k.dropped })).trans (.raise _)

theorem State.Calm.offerBlocks (s : State) (l : LaneId) (blocks : List SoundBlock)
    (hrange : s.SamplesInRange → ∀ b ∈ blocks, ∀ x ∈ b.samples, inSampleRange x) : s.Calm (s.offerBlocks l blocks) := by
  rw [State.offerBlocks_eq]
  refine .ite (fun hroom => ?_) fun _ => .dropBlocks s l
  exact .ite (fun _ => (State.Calm.admitBlocks hroom hrange).trans (.answerReady _)) fun _ => .admitBlocks hroom hrange

/-- The next tick begun: steady, but of the tick that ends nothing is left. -/
theorem State.Steady.nextTick (s : State) (l : LaneId) : s.Steady (s.modSne l Sound.nextTick) where
  lanes h := h.congr fun k => State.modSne_lane_pl s l k _
  samples h := by
    refine ⟨fun k => ?_, h.2⟩
    rw [State.lane_modSne]
    split
    · exact fun v hv => nomatch hv
    · exact h.1 k
  state k := by rw [State.modSne_lane_pl]
  screen k := by rw [State.modSne_lane_pl]
  ftm k := State.modSne_lane_ftm s l k _

theorem State.Steady.closeTick (s : State) (l : LaneId) : s.Steady (s.closeTick l) := by
  unfold State.closeTick
  dsimp only
  refine State.Steady.trans ?_ (.nextTick _ l)
  split
  · exact (State.Calm.offerBlocks s l _ fun h => Sound.blocks_inRange (h.1 l) l).toSteady
  · exact .refl s

theorem State.Steady.reported (s : State) (l : LaneId) : s.Steady (s.modLane l Lane.reported) := by
  have heq := Lane.reported_eq (s.lane l)
  exact .modLane (by rw [heq]) (by rw [heq]) (by rw [heq]) (Lane.reported_bounded _) (by rw [heq]; exact id)

theorem State.Steady.closeTicks (s : State) : s.Steady s.closeTicks := by
  have hfold : ∀ (ls : List LaneId) (u : State),
      u.Steady (ls.foldl (fun s l => (s.closeTick l).modLane l Lane.reported) u) := by
    intro ls
    induction ls with
    | nil => exact .refl
    | cons l rest ih => exact fun u => ((State.Steady.closeTick u l).trans (.reported _ l)).trans (ih _)
  exact hfold fours s

end Sys2Proof.Machine
end

section
/-! PROOF. The invariants under the operations of the frame monitor and its gate counter (R110 to R128). -/

namespace Sys2Proof.Machine

open Sys2Proof

/-! ### What gate operations leave -/

@[simp] theorem State.modGate_lane_pl (s : State) (l k : LaneId) (f : Gate → Gate) :
    ((s.modGate l f).lane k).pl = (s.lane k).pl := State.modFtm_lane_pl s l k _

@[simp] theorem State.modGate_lane_gate_same (s : State) (l : LaneId) (f : Gate → Gate) :
    ((s.modGate l f).lane l).ftm.gate = f (s.lane l).ftm.gate := by
  unfold State.modGate
  rw [State.lane_modFtm_same]

@[simp] theorem State.modGate_lane_lastAccepted (s : State) (l : LaneId) (f : Gate → Gate) :
    ((s.modGate l f).lane l).ftm.lastAccepted = (s.lane l).ftm.lastAccepted := by
  unfold State.modGate
  rw [State.lane_modFtm_same]

theorem State.Calm.raiseGate (s : State) (l : LaneId) (owner : GateOwner) : s.Calm (s.raiseGate l owner) :=
  .ite (fun _ => .raiseLane l _) fun _ => .refl s

@[simp] theorem State.raiseGate_lane (s : State) (l k : LaneId) (owner : GateOwner) :
    (s.raiseGate l owner).lane k = s.lane k := by
  unfold State.raiseGate
  split <;> rfl

@[simp] theorem State.raiseGate_clock (s : State) (l : LaneId) (owner : GateOwner) :
    (s.raiseGate l owner).clock = s.clock := by
  unfold State.raiseGate
  split <;> rfl

@[simp] theorem State.abortGate_lane_pl (s : State) (l k : LaneId) (r : GateResult) :
    ((s.abortGate l r).lane k).pl = (s.lane k).pl := by
  unfold State.abortGate
  dsimp only
  split
  · rw [State.raiseGate_lane, State.modGate_lane_pl]
  · rfl

/-- An aborted gate is open no longer. -/
theorem State.abortGate_not_opened (s : State) (l : LaneId) (r : GateResult) :
    ((s.abortGate l r).lane l).ftm.gate.state ≠ .opened := by
  unfold State.abortGate
  dsimp only
  split
  · rw [State.raiseGate_lane, State.modGate_lane_gate_same]
    exact nofun
  · assumption

@[simp] theorem State.endWatch_lane_pl (s : State) (l k : LaneId) (r : GateResult) :
    ((s.endWatch l r).lane k).pl = (s.lane k).pl := by
  unfold State.endWatch
  dsimp only
  rw [State.modFtm_lane_pl]
  split
  · exact s.abortGate_lane_pl l k r
  · rfl

/-- The end of the watch opens no gate. -/
theorem State.endWatch_not_opened (s : State) (l : LaneId) (r : GateResult)
    (h : (s.lane l).ftm.gate.state ≠ .opened) : ((s.endWatch l r).lane l).ftm.gate.state ≠ .opened := by
  unfold State.endWatch
  dsimp only
  rw [State.lane_modFtm_same]
  dsimp only
  split
  · exact s.abortGate_not_opened l r
  · exact h

/-- A verdict moves the monitor's count and RATE_OUT, and no other thing of a lane (R127). -/
theorem State.verdictOf_lane (s : State) (l k : LaneId) (rateOut : Bool) : (s.verdictOf l rateOut).lane k
    = (s.modFtm l fun m => { m with watchGates := satInc top32 m.watchGates, rateOut := rateOut }).lane k := by
  unfold State.verdictOf
  dsimp only
  split <;> rfl

@[simp] theorem State.verdictOf_lane_pl (s : State) (l k : LaneId) (rateOut : Bool) :
    ((s.verdictOf l rateOut).lane k).pl = (s.lane k).pl := by
  rw [State.verdictOf_lane, State.modFtm_lane_pl]

/-! ### The gate counter and the invariants -/

/-- A gate that is not open and did not end VALID holds nothing of the invariant. -/
theorem Monitor.Spaced.of_closed {m : Monitor} (hstate : m.gate.state ≠ .opened) (hresult : m.gate.result ≠ some .valid) :
    m.Spaced :=
  ⟨fun h => absurd h hresult, fun h => absurd h hstate⟩

/-- A gate that waits for its opening pulse. -/
theorem Monitor.Spaced.of_started {m : Monitor} (owner : GateOwner) (length : Option Nat)
    (h : m.gate = Gate.start owner length) : m.Spaced := by
  rw [Monitor.Spaced, h]
  exact ⟨nofun, fun _ => ⟨fun _ => rfl, nofun⟩⟩

/-- A gate just opened by the last accepted pulse. -/
theorem Monitor.Spaced.of_openedNow {m : Monitor} {owner : GateOwner} {length : Option Nat} {now : Instant}
    (h : m.gate = (Gate.start owner length).openAt now) (hlast : m.lastAccepted = some (tickAt now)) : m.Spaced := by
  rw [Monitor.Spaced, h, hlast]
  exact ⟨nofun, fun _ => ⟨nofun, fun _ => ⟨⟨_, rfl, Nat.le_refl _⟩, nofun⟩⟩⟩

/-- A lane state that STOP takes and that a check gate does not hold. -/
def LaneState.Moves (x : LaneState) : Prop := x.stoppable = true ∧ x ≠ .starting

theorem LaneState.moves_playing : LaneState.playing.Moves := ⟨rfl, nofun⟩
theorem LaneState.moves_cued : LaneState.cued.Moves := ⟨rfl, nofun⟩
theorem LaneState.moves_cueing : LaneState.cueing.Moves := ⟨rfl, nofun⟩
theorem LaneState.moves_paused : LaneState.paused.Moves := ⟨rfl, nofun⟩

namespace State

variable {s u : State} {l : LaneId}

/-- A lane in a state that STOP takes may go to any, but under an open check gate. -/
theorem HoldsSilence.mayEnter (h : s.HoldsSilence) (hs : (s.lane l).pl.state.stoppable = true)
    (hgate : (s.lane l).ftm.gate.state ≠ .opened) (x : LaneState) : s.MayEnter l x :=
  ⟨fun _ => h.laneHeld hs, fun hopen => absurd hopen hgate⟩

theorem HoldsSilence.mayEnter_of_moves (h : s.HoldsSilence) (hs : (s.lane l).pl.state.Moves) (x : LaneState) :
    s.MayEnter l x :=
  ⟨fun _ => h.laneHeld hs.1, fun _ _ hstart => absurd hstart hs.2⟩

/-- A lane whose state moves freely, its state and record changed. -/
theorem KeepsAll.moveTo (h : s.KeepsAll u) (hm : (u.lane l).pl.state.Moves) {f : Playout → Playout}
    (hscreen : (f (u.lane l).pl).screen = (u.lane l).pl.screen)
    (hb : (u.lane l).pl.Bounded → (f (u.lane l).pl).Bounded) : s.KeepsAll (u.modPl l f) :=
  h.modPl (fun hs => (h.holds hs).mayEnter_of_moves hm _) hscreen hb

/-- A gate ended otherwise than VALID. -/
theorem KeepsAll.closeGate (h : s.KeepsAll u) {f : Gate → Gate} (hstate : (f (u.lane l).ftm.gate).state ≠ .opened)
    (hresult : (f (u.lane l).ftm.gate).result ≠ some .valid) : s.KeepsAll (u.modGate l f) :=
  h.modFtm (fun _ hopen => absurd hopen hstate) fun _ => .of_closed hstate hresult

theorem KeepsAll.abortGate (h : s.KeepsAll u) {r : GateResult} (hr : r ≠ .valid) : s.KeepsAll (u.abortGate l r) := by
  refine .ite (fun _ => (h.closeGate (f := fun g => g.abort r u.clock.now) nofun ?_).calm (.raiseGate _ l _)) fun _ => h
  simpa [Gate.abort] using hr

theorem KeepsAll.beginWatch (h : s.KeepsAll u) : s.KeepsAll (u.beginWatch l) :=
  (h.abortGate (r := .aborted) nofun).modFtm (fun _ _ => nofun) fun _ => .of_started .watch (some 32) rfl

theorem KeepsAll.endWatch (h : s.KeepsAll u) {r : GateResult} (hr : r ≠ .valid) : s.KeepsAll (u.endWatch l r) := by
  unfold State.endWatch
  dsimp only
  exact (KeepsAll.ite (fun _ => h.abortGate hr) fun _ => h).modFtm_sameGate rfl rfl

theorem KeepsAll.verdictOf (h : s.KeepsAll u) (rateOut : Bool) : s.KeepsAll (u.verdictOf l rateOut) := by
  have hcounted := h.modFtm_sameGate (l := l) (f := fun m =>
    { m with watchGates := satInc top32 m.watchGates, rateOut := rateOut }) rfl rfl
  exact .ite (fun _ => hcounted) fun _ => hcounted.calm (.raiseLane l _)

theorem Calm.laneFault (s : State) (l : LaneId) (f : LaneFault) : s.Calm (s.laneFault l f) :=
  (Calm.modPl (f := fun p => { p with fault := some f }) rfl rfl id).trans (.raiseLane l _)

/-- Entry to PLAYING from a state that moves freely. -/
theorem KeepsAll.enterPlaying (h : s.KeepsAll u) (hm : (u.lane l).pl.state.Moves) : s.KeepsAll (u.enterPlaying l) := by
  have hplays := h.moveTo hm (f := fun p => { p with state := .playing }) rfl id
  exact .ite (fun _ => hplays.beginWatch) fun _ => hplays

/-- A check gate that has ended leaves its lane, which was STARTING, free to move. -/
theorem KeepsAll.failCheck (h : s.KeepsAll u) (f : LaneFault) (hgate : (u.lane l).ftm.gate.state ≠ .opened)
    (hs : s.HoldsSilence → (u.lane l).pl.state.stoppable = true) : s.KeepsAll (u.failCheck l f) :=
  (h.modPl (f := fun p => { p with state := .cued }) (fun hh => (h.holds hh).mayEnter (hs hh) hgate _) rfl id).calm
    (.laneFault _ l f)

theorem passCheck_eq (s : State) (l : LaneId) : s.passCheck l = (s.modPl l fun p => { p with state := .playing }).modFtm l
    fun m => { m with watch := (s.lane l).pl.set.rateWatch } := by
  have hset : ∀ a b : Lane, (s.lanes.set l a).set l b = s.lanes.set l b := fun a b =>
    Quad.ext_get _ _ fun i => by
      by_cases hi : i = l
      · rw [hi, Quad.get_set_same, Quad.get_set_same]
      · rw [Quad.get_set_ne _ _ hi, Quad.get_set_ne _ _ hi, Quad.get_set_ne _ _ hi]
  unfold State.passCheck State.modFtm State.modPl State.modLane
  simp [hset, State.lane]

theorem KeepsAll.passCheck (h : s.KeepsAll u) (hgate : (u.lane l).ftm.gate.state ≠ .opened)
    (hs : s.HoldsSilence → (u.lane l).pl.state.stoppable = true) : s.KeepsAll (u.passCheck l) := by
  rw [passCheck_eq]
  exact (h.modPl (f := fun p => { p with state := .playing }) (fun hh => (h.holds hh).mayEnter (hs hh) hgate _)
    rfl id).modFtm_sameGate rfl rfl

theorem KeepsAll.judgeCheck (h : s.KeepsAll u) (d : Option Int) (hgate : (u.lane l).ftm.gate.state ≠ .opened)
    (hs : s.HoldsSilence → (u.lane l).pl.state.stoppable = true) : s.KeepsAll (u.judgeCheck l d) :=
  .ite (fun _ => h.passCheck hgate hs) fun _ => h.failCheck _ hgate hs

/-- A gate that waits for its opening pulse put in a lane's record. -/
theorem KeepsAll.startGate (h : s.KeepsAll u) (owner : GateOwner) (length : Option Nat)
    (hcheck : owner = .check → (u.lane l).pl.state = .starting) :
    s.KeepsAll (u.modGate l fun _ => Gate.start owner length) :=
  h.modFtm (fun _ _ howner => hcheck howner) fun _ => .of_started _ _ rfl

/-- A watch gate opened by the pulse just accepted. -/
theorem KeepsAll.openWatchGate (h : s.KeepsAll u) {now : Instant}
    (hlast : (u.lane l).ftm.lastAccepted = some (tickAt now)) :
    s.KeepsAll (u.modGate l fun _ => (Gate.start .watch (some 32)).openAt now) :=
  h.modFtm (fun _ _ => nofun) fun _ => .of_openedNow rfl hlast

theorem verdictOf_lastAccepted (s : State) (l : LaneId) (rateOut : Bool) :
    ((s.verdictOf l rateOut).lane l).ftm.lastAccepted = (s.lane l).ftm.lastAccepted := by
  rw [State.verdictOf_lane, State.lane_modFtm_same]

theorem KeepsAll.ownerValid (h : s.KeepsAll u) (owner : GateOwner) (d : Option Int)
    (hgate : (u.lane l).ftm.gate.state ≠ .opened)
    (hcheck : s.HoldsSilence → owner = .check → (u.lane l).pl.state = .starting)
    (hlast : (u.lane l).ftm.lastAccepted = some (tickAt u.clock.now)) : s.KeepsAll (u.ownerValid l owner d) := by
  cases owner with
  | host => exact h.calm (.raiseGate u l .host)
  | check => exact h.judgeCheck d hgate fun hs => by rw [hcheck hs rfl]; rfl
  | watch => exact (h.verdictOf _).openWatchGate ((verdictOf_lastAccepted u l _).trans hlast)

/-- A gate ended with a count of 4,000 ticks or more. -/
theorem KeepsAll.endGate (h : s.KeepsAll u) {v : Gate} (hstate : v.state ≠ .opened)
    (hcount : s.GatesSpaced → 4000 ≤ v.count) : s.KeepsAll (u.modGate l fun _ => v) :=
  h.modFtm (fun _ hopen => absurd hopen hstate) fun hs => ⟨fun _ => hcount hs, fun hopen => absurd hopen hstate⟩

/-- A counted pulse at the gate counter, at the instant of the last accepted one, which is 4,000 ticks or more behind
the opening pulse of a gate that counts (R111). -/
theorem KeepsAll.gatePulse (h : s.KeepsAll u) (hlast : (u.lane l).ftm.lastAccepted = some (tickAt u.clock.now))
    (hgap : s.GatesSpaced → (u.lane l).ftm.gate.state = .opened → (u.lane l).ftm.gate.opened = true →
      (u.lane l).ftm.gate.openTick + 4000 ≤ tickAt u.clock.now) : s.KeepsAll (u.gatePulse l) := by
  unfold State.gatePulse
  dsimp only
  generalize hg : (u.lane l).ftm.gate = g at hgap
  have hspaced : s.GatesSpaced → _ := fun hs => (h.gates hs).spaced l
  have hstart : s.HoldsSilence → _ := fun hs => (h.holds hs).2.2 l
  unfold Monitor.Spaced at hspaced
  rw [hg] at hspaced hstart
  by_cases hopen : g.state = .opened
  · rw [if_neg (not_not_intro hopen)]
    by_cases hcounts : g.opened = true
    · rw [if_neg (by simp [hcounts])]
      have hticks : s.GatesSpaced → 4000 ≤ g.ticks u.clock.now := fun hs => by
        have := hgap hs hopen hcounts
        unfold Gate.ticks gateTop
        rw [if_pos hcounts]
        omega
      refine .ite (fun _ => ?_) fun _ => ?_
      · refine (h.endGate (by exact nofun) hticks).ownerValid _ _ ?_ ?_ ?_
        · rw [modGate_lane_gate_same]
          exact nofun
        · intro hs howner
          rw [modGate_lane_pl]
          exact hstart hs hopen howner
        · rw [modGate_lane_lastAccepted]
          exact hlast
      · refine h.modFtm hstart fun hs => ⟨fun _ => hticks hs, fun _ => ⟨fun hno => ?_, fun _ => ⟨?_, fun _ => hticks hs⟩⟩⟩
        · cases hcounts.symm.trans hno
        · exact (((hspaced hs).2 hopen).2 hcounts).1
    · rw [if_pos (Bool.eq_false_of_not_eq_true hcounts)]
      refine h.modFtm (by rw [hg]; exact hstart) fun hs => ?_
      have hzero := ((hspaced hs).2 hopen).1 (Bool.eq_false_of_not_eq_true hcounts)
      unfold Monitor.Spaced
      dsimp only
      rw [hg]
      refine ⟨(hspaced hs).1, fun _ => ⟨nofun, fun _ => ⟨⟨_, hlast, Nat.le_refl _⟩, fun hpos => ?_⟩⟩⟩
      exact absurd hzero (Nat.ne_of_gt hpos)
  · rw [if_pos hopen]
    exact .ite (fun _ => h.openWatchGate hlast) fun _ => h

theorem KeepsAll.gateOverflow (h : s.KeepsAll u) (hopen : (u.lane l).ftm.gate.state = .opened) :
    s.KeepsAll (u.gateOverflow l) := by
  have hended := h.closeGate (l := l) (f := fun g => g.doneWith .overflow gateTop) (fun h => nomatch h) (fun h => nomatch h)
  unfold State.gateOverflow
  dsimp only
  split
  · exact hended.calm (.raiseGate _ l _)
  · rename_i howner
    refine hended.failCheck _ (by rw [modGate_lane_gate_same]; exact nofun) fun hs => ?_
    rw [modGate_lane_pl, (h.holds hs).2.2 l hopen howner]
    rfl
  · exact (hended.verdictOf true).startGate _ _ nofun

/-- The gate at GATE_STOP: VALID only with the ticks of its last counted pulse (R122). -/
theorem KeepsAll.stopGate (h : s.KeepsAll u) (rate : Option Nat) (now : Instant)
    (hopen : (u.lane l).ftm.gate.state = .opened) : s.KeepsAll (u.modGate l fun g => g.stopped rate now) := by
  generalize hg : (u.lane l).ftm.gate = g at hopen
  have hclosed : (g.stopped rate now).state ≠ .opened := by
    unfold Gate.stopped
    split
    · exact nofun
    · split <;> exact nofun
  refine h.modFtm (fun _ hstill => absurd (hg ▸ hstill) hclosed) fun hs => ⟨fun hvalid => ?_, fun hstill => ?_⟩
  · have hspaced := (h.gates hs).spaced l
    unfold Monitor.Spaced at hspaced
    dsimp only at hvalid ⊢
    rw [hg] at hspaced hvalid ⊢
    unfold Gate.stopped at hvalid ⊢
    split at hvalid
    · cases hvalid
    · split at hvalid
      · rename_i _ hcounts
        rw [if_pos hcounts]
        exact ((hspaced.2 hopen).2 hcounts.1).2 hcounts.2
      · cases hvalid
  · exact absurd (hg ▸ hstill) hclosed

theorem abortGate_state_of_gate (h : s.KeepsAll u) (hs : s.HoldsSilence) (hopen : (u.lane l).ftm.gate.state = .opened)
    (howner : (u.lane l).ftm.gate.owner = .check) : (u.lane l).pl.state.stoppable = true := by
  rw [(h.holds hs).2.2 l hopen howner]
  rfl

theorem KeepsAll.setDivider (h : s.KeepsAll u) : s.KeepsAll (u.setDivider l) := by
  have hset := (h.abortGate (l := l) (r := .aborted) nofun).modFtm_sameGate (l := l)
    (f := fun m => { m with phase := 0 }) rfl rfl
  unfold State.setDivider
  dsimp only
  refine .ite (fun hopen => ?_) fun _ => hset
  split
  · exact hset
  · rename_i howner
    refine hset.failCheck _ ?_ fun hs => ?_
    · rw [lane_modFtm_same]
      exact u.abortGate_not_opened l _
    · rw [modFtm_lane_pl, abortGate_lane_pl, (h.holds hs).2.2 l hopen howner]
      rfl
  · exact hset.startGate _ _ nofun

theorem KeepsAll.setWatch (h : s.KeepsAll u) (on : Bool) : s.KeepsAll (u.setWatch l on) := by
  have hended := h.endWatch (l := l) (r := .aborted) nofun
  refine .ite (fun _ => .ite (fun _ => h.beginWatch) fun _ => h) fun _ => .ite (fun _ => ?_) fun _ => hended
  exact (hended.modFtm_sameGate (f := fun m => { m with rateOut := false }) rfl rfl).calm (.raiseLane l _)

theorem KeepsAll.endInjection (h : s.KeepsAll u) : s.KeepsAll (u.endInjection l) := h.modFtm_sameGate rfl rfl

end State

end Sys2Proof.Machine
end

section
/-! PROOF. The invariants under the operations of a playout lane: entries, ends, presentation, the stop, the lane reset
(R75, R97 to R105). -/

namespace Sys2Proof.Machine

open Sys2Proof

/-- The lane's own record at a stop (R102). -/
def Playout.stopped (p : Playout) : Playout :=
  { p with state := .idle, rate := none, next := none, position := none, pause := none,
           inGap := false, queue := p.queue.map Item.unmarked }

namespace State

variable {s u : State} {l : LaneId}

/-! ### Leaving items and the fetcher stopped -/

theorem Calm.dropItems (s : State) (items : List Item) : s.Calm (s.dropItems items) :=
  Calm.foldl (fun s i => by
    split
    · exact .refl s
    · exact .dropReference s _) items s

theorem Calm.removeItems (s : State) (l : LaneId) (leaves : Item → Bool) : s.Calm (s.removeItems l leaves) :=
  (Calm.modPl (f := fun p => { p with queue := p.queue.filter (fun i => !(leaves i)) }) rfl rfl
    fun ⟨hq, hb, hh⟩ => ⟨(List.length_filter_le _ _).trans hq, hb, hh⟩).trans (.dropItems _ _)

theorem Calm.dropHead (s : State) (l : LaneId) : s.Calm (s.dropHead l) := by
  unfold State.dropHead
  split
  · exact .refl s
  · rename_i i rest hq
    refine (Calm.modPl rfl rfl ?_).trans (.dropItems _ _)
    rintro ⟨hlen, hb, hh⟩
    rw [hq, List.length_cons] at hlen
    exact ⟨by dsimp only; omega, hb, hh⟩

theorem Calm.leaveReel (s : State) (l : LaneId) (item reel : Nat) : s.Calm (s.leaveReel l item reel) :=
  (Calm.modFetch fun h => (List.length_filter_le _ _).trans h).trans (.cueStep l _)

theorem Calm.stopFetch (s : State) (l : LaneId) (advance : Bool) : s.Calm (s.stopFetch l advance) :=
  (Calm.modPl (f := fun p => { p with fetch := p.fetch.stop advance, buffer := [] }) rfl rfl
    fun ⟨hq, _, _⟩ => ⟨hq, Nat.zero_le _, Nat.zero_le _⟩).trans (.dropStalls _ l)

theorem Calm.relieved (s : State) (l : LaneId) : s.Calm (s.relieved l) := by
  refine .modPl rfl rfl fun ⟨hq, hb, hh⟩ => ⟨hq, ?_, hh⟩
  unfold relieve
  dsimp only
  split
  · rw [List.length_tail]
    exact (Nat.sub_le _ _).trans hb
  · exact hb

/-! ### Entries to PAUSED and IDLE -/

/-- Entry to PAUSED from a state that moves freely (R100). -/
theorem KeepsAll.enterPaused (h : s.KeepsAll u) (hm : (u.lane l).pl.state.Moves) (cause : PauseCause) :
    s.KeepsAll (u.enterPaused l cause) := by
  have hpaused := h.moveTo hm (f := fun p => { p with state := .paused, pause := some cause }) rfl id
  have hwatch := hpaused.endWatch (l := l) (r := cause.gateResult) (by cases cause <;> exact nofun)
  exact (hwatch.calm (.rampDown _ l false)).calm (.cueStep l fun e => e.paused cause)

/-- Entry to IDLE from a state that moves freely (R99, R101). -/
theorem KeepsAll.enterIdle (h : s.KeepsAll u) (hm : (u.lane l).pl.state.Moves) : s.KeepsAll (u.enterIdle l) := by
  have hdown := h.calm (.rampDown u l true)
  have hwatch := (hdown.endWatch (l := l) (r := .aborted) nofun).endInjection (l := l)
  have hstopped := hwatch.calm (.stopFetch _ l false)
  refine hstopped.moveTo (l := l) (f := fun p =>
    { p with state := .idle, rate := none, next := none, pause := none,
             queue := p.queue.map Item.unblocked }) ?_ rfl fun ⟨hq, hb, hh⟩ => ⟨by simpa using hq, hb, hh⟩
  have hstate : (((((u.rampDown l true).endWatch l .aborted).endInjection l).stopFetch l false).lane l).pl.state
      = (u.lane l).pl.state := by
    rw [(Calm.stopFetch _ l false).state, State.endInjection, modFtm_lane_pl, endWatch_lane_pl,
      (Calm.rampDown u l true).state]
  rw [hstate]
  exact hm

theorem KeepsAll.examineHead (h : s.KeepsAll u) (hm : (u.lane l).pl.state.Moves) (target : Option Pos) :
    s.KeepsAll (u.examineHead l target) := by
  unfold State.examineHead
  split
  · exact h.enterIdle hm
  · split
    · have hleft := (Calm.dropHead u l).trans (.raiseLane l srcItemDone)
      exact (h.calm hleft).enterPaused (by rw [hleft.state]; exact hm) _
    · split
      · exact (h.enterIdle hm).calm (.laneFault _ l _)
      · exact h.calm (.modPl rfl rfl id)

theorem KeepsAll.itemEnd (h : s.KeepsAll u) (hm : (u.lane l).pl.state.Moves) (i : Item) :
    s.KeepsAll (u.itemEnd l i) := by
  have hdone : u.Calm _ := (Calm.raiseLane (s := u) l srcItemDone).trans (.modStats (l := l) fun k =>
    { k with itemsDone := satInc top32 k.itemsDone })
  have hshown := hdone.trans (Calm.ite (c := i.licence.isSome = true) (fun _ => .showItemEnd _ l) fun _ => .refl _)
  have hleft := hshown.trans (.dropHead _ l)
  exact (h.calm hleft).examineHead (by rw [hleft.state]; exact hm) none

theorem KeepsAll.passFrame (h : s.KeepsAll u) (hm : (u.lane l).pl.state.Moves) (i : Item) (pos : Pos) :
    s.KeepsAll (u.passFrame l i pos) := by
  have hleft : u.Calm (if (i.isComposition && i.endsReel pos) = true then u.leaveReel l i.uid pos.reel else u) :=
    .ite (fun _ => .leaveReel u l _ _) fun _ => .refl u
  exact .ite (fun _ => (h.calm hleft).itemEnd (by rw [hleft.state]; exact hm) i) fun _ => h.calm hleft

/-! ### Presentation and fills -/

theorem presentSlot_length (b : BufSlot) (buffer : List BufSlot) : (presentSlot b buffer).length ≤ buffer.length := by
  unfold presentSlot
  split
  · rw [List.length_map]
  · exact List.length_filter_le _ _

theorem Calm.presented (s : State) (l : LaneId) (i : Item) (b : BufSlot) :
    s.Calm (s.modPl l fun p => p.presented i b) :=
  .modPl rfl rfl fun ⟨hq, hb, hh⟩ =>
    ⟨by simpa [Playout.presented] using hq, (presentSlot_length b _).trans hb, hh⟩

theorem Calm.consumed (s : State) (l : LaneId) (i : Item) (b : BufSlot) :
    s.Calm (s.modPl l fun p => p.consumed i b) :=
  .modPl rfl rfl fun ⟨hq, hb, hh⟩ =>
    ⟨by simpa [Playout.consumed] using hq, (List.length_filter_le _ _).trans hb, hh⟩

/-- The frame of a presentation up to the end of its reel and item, as each block takes it (R97). -/
def framePresented (s : State) (l : LaneId) (i : Item) (b : BufSlot) : State :=
  let h := handedFrame (s.lane l).pl i b.pos
  let s := s.toScreen l (if i.isComposition then .frame b.frameBytes else .black)
  let s := s.modPl l (fun p => p.presented i b)
  let s := if i.licence.isSome then s.showReal l else s
  let s := if i.isComposition then s.cueStep l (fun e => e.presented i.uid b.pos.reel b.pos.reelFrame) else s
  s.soundPresented l h i.isComposition

theorem presentFrame_eq (s : State) (l : LaneId) (i : Item) (b : BufSlot) :
    s.presentFrame l i b = ((s.framePresented l i b).passFrame l i b.pos).relieved l := rfl

theorem Calm.framePresented (s : State) (l : LaneId) (i : Item) (b : BufSlot) : s.Calm (s.framePresented l i b) := by
  have hsent := (Calm.toScreen (s := s) l (if i.isComposition then .frame b.frameBytes else .black)).trans
    (.presented _ l i b)
  have hshown := hsent.trans (Calm.ite (c := i.licence.isSome = true) (fun _ => .showReal _ l) fun _ => .refl _)
  have hcues := hshown.trans (Calm.ite (c := i.isComposition = true)
    (fun _ => .cueStep l fun e => e.presented i.uid b.pos.reel b.pos.reelFrame) fun _ => .refl _)
  exact hcues.trans (.soundPresented _ l _ _)

theorem KeepsAll.presentFrame (h : s.KeepsAll u) (hm : (u.lane l).pl.state.Moves) (i : Item) (b : BufSlot) :
    s.KeepsAll (u.presentFrame l i b) := by
  have hframe := Calm.framePresented u l i b
  rw [presentFrame_eq]
  exact ((h.calm hframe).passFrame (by rw [hframe.state]; exact hm) i b.pos).calm (.relieved _ l)

theorem Calm.fill (s : State) (l : LaneId) (i : Item) : s.Calm (s.fill l i) := by
  have hshown := (Calm.toScreen (s := s) l (fillCommand (s.lane l).pl)).trans
    (Calm.ite (c := i.licence.isSome = true) (fun _ => .showFill _ l) fun _ => .refl _)
  have hcounted := (hshown.trans (.modPl (l := l) (f := fun p =>
    { p with shown := true, inGap := true,
             stats := { p.stats with fill := satInc top32 p.stats.fill,
                                     gaps := if !((s.toScreen l (fillCommand (s.lane l).pl)).lane l).pl.inGap
                                       then satInc top32 p.stats.gaps else p.stats.gaps } }) rfl rfl id)).trans
    (.raiseLane l srcGap)
  exact .ite (fun _ => hcounted.trans (.rampDown _ l false)) fun _ => hcounted

theorem KeepsAll.gapPause (h : s.KeepsAll u) (hm : (u.lane l).pl.state.Moves) : s.KeepsAll (u.gapPause l) :=
  (h.enterPaused hm .gap).calm (.laneFault _ l _)

theorem KeepsAll.missingHead (h : s.KeepsAll u) (hm : (u.lane l).pl.state.Moves) (i : Item) :
    s.KeepsAll (u.missingHead l i) :=
  .ite (fun _ => h.gapPause hm) fun _ => h.calm (.fill u l i)

theorem KeepsAll.faultedHead (h : s.KeepsAll u) (hm : (u.lane l).pl.state.Moves) (i : Item) (b : BufSlot) :
    s.KeepsAll (u.faultedHead l i b) := by
  unfold State.faultedHead
  refine .ite (fun _ => ?_) fun _ => ?_
  · have hconsumed := Calm.consumed u l i b
    have hpassed := (h.calm hconsumed).passFrame (l := l) (by rw [hconsumed.state]; exact hm) i b.pos
    exact .ite (fun hplays => hpassed.gapPause (by rw [hplays]; exact LaneState.moves_playing)) fun _ => hpassed
  · have hconsumed := (Calm.fill u l i).trans (.consumed _ l i b)
    exact (h.calm hconsumed).passFrame (by rw [hconsumed.state]; exact hm) i b.pos

theorem KeepsAll.presentPulse (h : s.KeepsAll u) (hm : (u.lane l).pl.state.Moves) : s.KeepsAll (u.presentPulse l) := by
  unfold State.presentPulse
  dsimp only
  split
  · split
    · exact h.missingHead hm _
    · exact .ite (fun _ => h.missingHead hm _) fun _ => .ite (fun _ => h.faultedHead hm _ _) fun _ => h.presentFrame hm _ _
  · exact h

/-! ### Pulses and loss -/

theorem KeepsAll.countedPulse (h : s.KeepsAll u) (hlast : (u.lane l).ftm.lastAccepted = some (tickAt u.clock.now))
    (hgap : s.GatesSpaced → (u.lane l).ftm.gate.state = .opened → (u.lane l).ftm.gate.opened = true →
      (u.lane l).ftm.gate.openTick + 4000 ≤ tickAt u.clock.now) : s.KeepsAll (u.countedPulse l) := by
  have hgate := h.gatePulse hlast hgap
  refine .ite (fun hplays => hgate.presentPulse ?_) fun _ => hgate
  rw [hplays.2]
  exact LaneState.moves_playing

theorem Monitor.divide_gate (m : Monitor) (divider : Nat) :
    (m.divide divider).gate = m.gate ∧ (m.divide divider).lastAccepted = m.lastAccepted := by
  unfold Monitor.divide
  dsimp only
  split <;> exact ⟨rfl, rfl⟩

/-- A pulse accepted is no earlier than the one before it, and an opened gate's opening pulse was accepted. -/
theorem KeepsAll.acceptPulse (h : s.KeepsAll u) (divider : Nat) (atNextBase : Bool)
    (haccepts : (u.lane l).ftm.accepts (tickAt u.clock.now) = true) : s.KeepsAll (u.modFtm l fun m =>
      (m.accept (tickAt u.clock.now) atNextBase).divide divider) := by
  obtain ⟨hgate, hlast⟩ := Monitor.divide_gate ((u.lane l).ftm.accept (tickAt u.clock.now) atNextBase) divider
  refine h.modFtm (fun hs => ?_) fun hs => ?_
  · rw [hgate]
    exact (h.holds hs).2.2 l
  · obtain ⟨hvalid, hopened⟩ := (h.gates hs).spaced l
    rw [Monitor.Spaced, hgate, hlast]
    refine ⟨hvalid, fun hopen => ⟨(hopened hopen).1, fun hcounts => ?_⟩⟩
    obtain ⟨⟨last, hmem, hle⟩, hcount⟩ := (hopened hopen).2 hcounts
    refine ⟨⟨_, rfl, ?_⟩, hcount⟩
    unfold Monitor.accepts at haccepts
    rw [Option.mem_def.mp hmem] at haccepts
    have : last + 4000 ≤ tickAt u.clock.now := of_decide_eq_true haccepts
    change (u.lane l).ftm.gate.openTick ≤ tickAt u.clock.now
    omega

theorem KeepsAll.pulse (h : s.KeepsAll u) : s.KeepsAll (u.pulse l) := by
  unfold State.pulse
  dsimp only
  refine .ite (fun haccepts => ?_) fun _ => h.modFtm_sameGate rfl rfl
  have haccepted := h.acceptPulse (u.lane l).pl.set.divider u.atNextBase haccepts
  obtain ⟨hgate, hlast⟩ := Monitor.divide_gate ((u.lane l).ftm.accept (tickAt u.clock.now) u.atNextBase)
    (u.lane l).pl.set.divider
  refine .ite (fun _ => haccepted.countedPulse ?_ fun hs => ?_) fun _ => haccepted
  · rw [lane_modFtm_same]
    exact hlast
  · rw [lane_modFtm_same]
    dsimp only
    rw [hgate]
    intro hopen hcounts
    obtain ⟨⟨last, hmem, hle⟩, _⟩ := (((h.gates hs).spaced l).2 hopen).2 hcounts
    unfold Monitor.accepts at haccepts
    rw [Option.mem_def.mp hmem] at haccepts
    have : last + 4000 ≤ tickAt u.clock.now := of_decide_eq_true haccepts
    change (u.lane l).ftm.gate.openTick + 4000 ≤ tickAt u.clock.now
    omega

theorem KeepsAll.lossExpiry (h : s.KeepsAll u) : s.KeepsAll (u.lossExpiry l) := by
  have haborted := (h.modFtm_sameGate (l := l) (f := fun m =>
    { m with lossTimer := none, lossFresh := false, absent := true,
             lossExpiries := satInc top16 m.lossExpiries }) rfl rfl).abortGate (l := l) (r := .noPulses) nofun
  unfold State.lossExpiry
  dsimp only
  split
  · rename_i hstarting
    exact haborted.failCheck _ (abortGate_not_opened _ l _) fun _ => by rw [hstarting]; rfl
  · rename_i hplaying
    exact (haborted.enterPaused (by rw [hplaying]; exact LaneState.moves_playing) _).calm (.laneFault _ l _)
  all_goals exact haborted

theorem KeepsAll.injectedPulse (h : s.KeepsAll u) : s.KeepsAll (u.injectedPulse l) := by
  unfold State.injectedPulse
  split
  · exact h
  · rename_i j _
    have hpulse := (h.modFtm_sameGate (l := l) (f := fun m =>
      { m with injection := some { j with remaining := j.remaining - 1, nextTick := j.nextTick + j.q + 1 } })
      rfl rfl).pulse (l := l)
    exact .ite (fun _ => hpulse.endInjection) fun _ => hpulse

/-! ### The stop and the lane reset -/

theorem KeepsAll.stopMonitor (h : s.KeepsAll u) : s.KeepsAll (u.stopMonitor l) :=
  ((KeepsAll.ite (fun _ => h.abortGate (r := .aborted) nofun) fun _ => h).endWatch (r := .aborted) nofun).endInjection

theorem stopMonitor_lane_pl (s : State) (l k : LaneId) : ((s.stopMonitor l).lane k).pl = (s.lane k).pl := by
  unfold State.stopMonitor State.endInjection
  dsimp only
  rw [modFtm_lane_pl, endWatch_lane_pl]
  split
  · rw [abortGate_lane_pl]
  · rfl

/-- Behind its monitor's part a stop finds no check gate open on a STARTING lane. -/
theorem stopMonitor_not_opened (s : State) (l : LaneId) (h : (s.lane l).pl.state = .starting) :
    ((s.stopMonitor l).lane l).ftm.gate.state ≠ .opened := by
  unfold State.stopMonitor State.endInjection
  dsimp only
  rw [lane_modFtm_same, if_pos h]
  exact endWatch_not_opened _ l _ (abortGate_not_opened s l _)

/-- A stop up to its monitor's part (R102, R169, R170). -/
def stopParts (s : State) (l : LaneId) (cause : EndCause) : State :=
  let begun := (s.lane l).pl.headBegun
  let s := if cause = .held then s.modSne l Sound.ended else s.rampDown l true
  let s := (s.stopFetch l true).showStop l cause
  if begun then s.dropHead l else s

theorem stopLane_eq (s : State) (l : LaneId) (cause : EndCause) : s.stopLane l cause =
    ((((s.stopParts l cause).stopMonitor l).modSce l CueEngine.emptied).toScreen l .clear).modPl l Playout.stopped := rfl

theorem Calm.stopParts (s : State) (l : LaneId) (cause : EndCause) : s.Calm (s.stopParts l cause) := by
  have hsound : s.Calm (if cause = .held then s.modSne l Sound.ended else s.rampDown l true) :=
    .ite (fun _ => .soundEnded s l) fun _ => .rampDown s l true
  have hshown := (hsound.trans (.stopFetch _ l true)).trans (.showStop _ l cause)
  exact hshown.trans (Calm.ite (c := (s.lane l).pl.headBegun = true) (fun _ => .dropHead _ l) fun _ => .refl _)

/-- What a stop does behind its monitor's part, up to the lane's own record. -/
theorem Calm.stopCues (s : State) (l : LaneId) : s.Calm ((s.modSce l CueEngine.emptied).toScreen l .clear) :=
  (Calm.modSce _).trans (.toScreen l .clear)

theorem KeepsAll.stopLane (h : s.KeepsAll u) (cause : EndCause) : s.KeepsAll (u.stopLane l cause) := by
  have hparts := Calm.stopParts u l cause
  have hquiet := (h.calm hparts).stopMonitor (l := l)
  rw [stopLane_eq]
  refine (hquiet.calm (.stopCues _ l)).modPl (fun _ => ⟨nofun, fun hopen _ hstarting => ?_⟩) rfl
    fun ⟨hq, hb, hh⟩ => ⟨by simpa [Playout.stopped] using hq, hb, hh⟩
  rw [(Calm.stopCues _ l).state, stopMonitor_lane_pl, hparts.state] at hstarting
  rw [(Calm.stopCues _ l).ftm] at hopen
  exact absurd hopen (stopMonitor_not_opened _ l ((hparts.state l).trans hstarting))

/-- A stop leaves the lane IDLE, every other lane's state and every binding as they were. -/
theorem stopLane_lane (s : State) (l k : LaneId) (cause : EndCause) :
    ((s.stopLane l cause).lane k).pl.state = (if k = l then .idle else (s.lane k).pl.state)
      ∧ ((s.stopLane l cause).lane k).pl.screen = (s.lane k).pl.screen := by
  have hscreen := fun k => ((Calm.stopCues _ l).screen k).trans ((congrArg Playout.screen (stopMonitor_lane_pl
    (s.stopParts l cause) l k)).trans ((Calm.stopParts s l cause).screen k))
  have hstate := fun k => ((Calm.stopCues _ l).state k).trans ((congrArg Playout.state (stopMonitor_lane_pl
    (s.stopParts l cause) l k)).trans ((Calm.stopParts s l cause).state k))
  rw [stopLane_eq, lane_modPl]
  split
  · rename_i hk
    rw [hk]
    exact ⟨rfl, hscreen l⟩
  · exact ⟨hstate k, hscreen k⟩

theorem KeepsAll.completeReset (h : s.KeepsAll u) : s.KeepsAll (u.completeReset l) := by
  refine .ite (fun hr => (h.modPl (l := l) (f := fun p => { p with state := .idle })
    (fun _ => ⟨nofun, fun _ _ hstarting => ?_⟩) rfl id).calm (.raiseLane l _)) fun _ => h
  cases hr.1.symm.trans hstarting

end State

end Sys2Proof.Machine
end

section
/-! PROOF. The invariants under the lane reset, holds and bindings, and the commands of a playout lane, its monitor and
its sound (R75 to R77, R82 to R106, R116 to R122, R164). -/

namespace Sys2Proof.Machine

open Sys2Proof

/-- Whether the head lets a RESUME from an INTERMISSION go on (R101). -/
def Playout.headPasses (p : Playout) : Bool :=
  match p.queue with
  | [] => false
  | i :: _ => !i.isIntermission && i.blocked.isNone

theorem Playout.headPasses_iff (p : Playout) :
    p.headPasses = true ↔ ∃ i rest, p.queue = i :: rest ∧ i.isIntermission = false ∧ i.blocked = none := by
  unfold Playout.headPasses
  cases p.queue <;> simp

namespace State

variable {s u : State} {l : LaneId}

/-! ### Holds -/

/-- Only outputs and the flags of holds changed. -/
theorem Keeps.withHeld (s : State) (held : Quad Bool) (out : List Output) :
    s.Keeps { s with held := held, out := out } where
  lanes h := h

theorem Keeps.enterHold (s : State) (c : ScreenId) : s.Keeps (s.enterHold c) := by
  rw [enterHold_eq]
  exact .withHeld s _ _

@[simp] theorem enterHold_lane (s : State) (c : ScreenId) (k : LaneId) : (s.enterHold c).lane k = s.lane k := by
  rw [enterHold_eq]
  rfl

@[simp] theorem enterHold_clock (s : State) (c : ScreenId) : (s.enterHold c).clock = s.clock := by
  rw [enterHold_eq]

@[simp] theorem enterHold_held (s : State) (c : ScreenId) : (s.enterHold c).held = s.held.set c true := by
  rw [enterHold_eq]

/-- A hold of a screen whose lanes do nothing keeps silence. -/
theorem KeepsAll.enterHold (h : s.KeepsAll u) {c : ScreenId} (hquiet : s.HoldsSilence → ∀ k,
      (u.lane k).pl.screen = some c → (u.lane k).pl.state = .idle ∨ (u.lane k).pl.state = .resetting) :
    s.KeepsAll (u.enterHold c) where
  toKeeps := h.toKeeps.trans (.enterHold u c)
  tick ht := (h.tick ht).congr (fun k => by rw [enterHold_lane]) (enterHold_clock u c)
  gates hg := (h.gates hg).congr fun k => by rw [enterHold_lane]
  holds hs := by
    obtain ⟨hone, hidle, hcheck⟩ := h.holds hs
    refine ⟨fun a b => ?_, fun k => ?_, fun k => ?_⟩
    · rw [enterHold_lane, enterHold_lane]
      exact hone a b
    · rw [laneHeld_eq, enterHold_lane, enterHold_held]
      have hk := hidle k
      rw [laneHeld_eq] at hk
      split
      · rename_i hnone
        rw [hnone] at hk
        exact hk
      · rename_i x hx
        rw [hx] at hk
        by_cases hxc : x = c
        · exact fun _ => hquiet hs k (hxc ▸ hx)
        · rw [Quad.get_set_ne _ _ hxc]
          exact hk
    · rw [enterHold_lane]
      exact hcheck k

/-- A screen taken out of HOLD. -/
theorem KeepsAll.releaseHold (h : s.KeepsAll u) (c : ScreenId) :
    s.KeepsAll { u with held := u.held.set c false } where
  toKeeps := h.toKeeps.trans (Keeps.withHeld u (u.held.set c false) u.out)
  tick := h.tick
  gates := h.gates
  holds hs := by
    obtain ⟨hone, hidle, hcheck⟩ := h.holds hs
    refine ⟨hone, fun k hheld => hidle k ?_, hcheck⟩
    rw [laneHeld_eq] at hheld ⊢
    change (match (u.lane k).pl.screen with | none => true | some x => (u.held.set c false).get x) = true at hheld
    split
    · rfl
    · rename_i x hx
      rw [hx] at hheld
      by_cases hxc : x = c
      · rw [hxc] at hheld
        simp at hheld
      · simpa [Quad.get_set_ne _ _ hxc] using hheld

/-! ### The lane reset -/

theorem holdBound_lane (s : State) (l k : LaneId) : (s.holdBound l).lane k = s.lane k := by
  unfold State.holdBound
  split
  · rfl
  · exact enterHold_lane s _ k

theorem holdBound_clock (s : State) (l : LaneId) : (s.holdBound l).clock = s.clock := by
  unfold State.holdBound
  split
  · rfl
  · exact enterHold_clock s _

theorem Keeps.holdBound (s : State) (l : LaneId) : s.Keeps (s.holdBound l) := by
  unfold State.holdBound
  split
  · exact .refl s
  · exact .enterHold s _

/-- A lane whose gate is not open goes with its screen's hold into a state that STOP does not take. -/
theorem KeepsAll.holdBound_modPl (h : s.KeepsAll u) (hgate : (u.lane l).ftm.gate.state ≠ .opened)
    {f : Playout → Playout} (hstate : (f (u.lane l).pl).state.stoppable = false)
    (hscreen : (f (u.lane l).pl).screen = (u.lane l).pl.screen)
    (hb : (u.lane l).pl.Bounded → (f (u.lane l).pl).Bounded) : s.KeepsAll ((u.holdBound l).modPl l f) where
  toKeeps := (h.toKeeps.trans (.holdBound u l)).trans (.modPl (by rw [holdBound_lane]; exact hb))
  tick ht := (h.tick ht).congr (fun k => by rw [modPl_lane_sne, holdBound_lane]) (holdBound_clock u l)
  gates hg := (h.gates hg).congr fun k => by rw [modPl_lane_ftm, holdBound_lane]
  holds hs := by
    obtain ⟨hone, hidle, hcheck⟩ := h.holds hs
    have hpl : ∀ k, (((u.holdBound l).modPl l f).lane k).pl = if k = l then f (u.lane l).pl else (u.lane k).pl := by
      intro k
      rw [lane_modPl, holdBound_lane, holdBound_lane]
    have hscr : ∀ k, (((u.holdBound l).modPl l f).lane k).pl.screen = (u.lane k).pl.screen := by
      intro k
      rw [hpl]
      split
      · rename_i hk
        rw [hscreen, hk]
      · rfl
    refine ⟨fun a b => ?_, fun k => ?_, fun k => ?_⟩
    · rw [hscr, hscr]
      exact hone a b
    · rw [laneHeld_eq, hscr, hpl]
      by_cases hk : k = l
      · rw [if_pos hk]
        exact fun _ => (LaneState.stoppable_eq_false _).mp hstate
      · rw [if_neg hk]
        have hheld := hidle k
        rw [laneHeld_eq] at hheld
        split
        · rename_i hnone
          rw [hnone] at hheld
          exact hheld
        · rename_i x hx
          rw [hx] at hheld
          change (u.holdBound l).held.get x = true → _
          unfold State.holdBound
          split
          · exact hheld
          · rename_i c hc
            have hxc : x ≠ c := fun heq => hk (hone k l c (heq ▸ hx) hc)
            rw [enterHold_held, Quad.get_set_ne _ _ hxc]
            exact hheld
    · rw [modPl_lane_ftm, holdBound_lane, hpl]
      by_cases hk : k = l
      · rw [hk]
        exact fun hopen => absurd hopen hgate
      · rw [if_neg hk]
        exact hcheck k

theorem Calm.clearSound (s : State) (l : LaneId) : s.Calm (s.modSne l fun u => { u.ended with counts := .zero }) := by
  refine .modSne (fun _ v hv => ?_) fun h => ⟨?_, fun v hv => ?_, nofun⟩
  · obtain ⟨_, _, rfl⟩ := List.mem_map.mp hv
    exact Sound.carry_inRange _ _ _
  · simpa [Sound.ended] using h.count
  · obtain ⟨_, _, rfl⟩ := List.mem_map.mp hv
    exact Sound.carry_length _ _ _

theorem KeepsAll.abandonGate (h : s.KeepsAll u) (rebound : Bool) (now : Instant) : s.KeepsAll (u.modFtm l fun m =>
    { (m.laneReset rebound) with gate := if m.gate.state = .opened then m.gate.abort .aborted now else m.gate }) := by
  refine h.modFtm (fun _ hopen => absurd hopen ?_) fun hs => ?_
  · dsimp only
    split
    · exact nofun
    · assumption
  · obtain ⟨hvalid, _⟩ := (h.gates hs).spaced l
    unfold Monitor.Spaced
    dsimp only
    split
    · exact ⟨nofun, nofun⟩
    · rename_i hclosed
      exact ⟨hvalid, fun hopen => absurd hopen hclosed⟩

theorem abandonGate_not_opened (s : State) (l : LaneId) (rebound : Bool) (now : Instant) :
    ((s.modFtm l fun m => { (m.laneReset rebound) with
      gate := if m.gate.state = .opened then m.gate.abort .aborted now else m.gate }).lane l).ftm.gate.state
      ≠ .opened := by
  rw [lane_modFtm_same]
  dsimp only
  split
  · exact nofun
  · assumption

/-- A lane reset up to the hold of its screen (R104, R128). -/
def resetParts (s : State) (l : LaneId) (cause : EndCause) (rebound : Bool) : State :=
  let s := ((s.stopFetch l true).showStop l cause).removeItems l (fun _ => true)
  let s := s.modFtm l (fun m =>
    { (m.laneReset rebound) with
      gate := if m.gate.state = .opened then m.gate.abort .aborted s.clock.now else m.gate })
  let s := s.modSce l (fun _ => CueEngine.reset)
  s.modSne l (fun u => { u.ended with counts := .zero })

theorem beginReset_eq (s : State) (l : LaneId) (cause : EndCause) (rebound : Bool) :
    s.beginReset l cause rebound = ((s.resetParts l cause rebound).holdBound l).modPl l Playout.laneReset := rfl

/-- What a lane reset does before its monitor's part. -/
theorem Calm.resetQueue (s : State) (l : LaneId) (cause : EndCause) :
    s.Calm (((s.stopFetch l true).showStop l cause).removeItems l (fun _ => true)) :=
  ((Calm.stopFetch s l true).trans (.showStop _ l cause)).trans (.removeItems _ l _)

/-- What a lane reset does behind its monitor's part. -/
theorem Calm.resetEngines (s : State) (l : LaneId) :
    s.Calm ((s.modSce l fun _ => CueEngine.reset).modSne l fun u => { u.ended with counts := .zero }) :=
  (Calm.modSce _).trans (.clearSound _ l)

theorem KeepsAll.resetParts (h : s.KeepsAll u) (cause : EndCause) (rebound : Bool) :
    s.KeepsAll (u.resetParts l cause rebound) :=
  ((h.calm (.resetQueue u l cause)).abandonGate rebound _).calm (.resetEngines _ l)

theorem resetParts_lane (s : State) (l : LaneId) (cause : EndCause) (rebound : Bool) :
    ((s.resetParts l cause rebound).lane l).ftm.gate.state ≠ .opened
      ∧ (∀ k, ((s.resetParts l cause rebound).lane k).pl.state = (s.lane k).pl.state)
      ∧ ∀ k, ((s.resetParts l cause rebound).lane k).pl.screen = (s.lane k).pl.screen := by
  refine ⟨?_, fun k => ?_, fun k => ?_⟩
  · exact fun hopen => abandonGate_not_opened _ l rebound _ ((congrArg (fun m => m.gate.state)
      ((Calm.resetEngines _ l).ftm l)).symm.trans hopen)
  · refine ((Calm.resetEngines _ l).state k).trans ?_
    rw [modFtm_lane_pl]
    exact (Calm.resetQueue s l cause).state k
  · refine ((Calm.resetEngines _ l).screen k).trans ?_
    rw [modFtm_lane_pl]
    exact (Calm.resetQueue s l cause).screen k

theorem KeepsAll.beginReset (h : s.KeepsAll u) (cause : EndCause) (rebound : Bool) :
    s.KeepsAll (u.beginReset l cause rebound) := by
  rw [beginReset_eq]
  exact (h.resetParts cause rebound).holdBound_modPl (u.resetParts_lane l cause rebound).1 rfl rfl id

theorem KeepsAll.resetLane (h : s.KeepsAll u) (cause : EndCause) : s.KeepsAll (u.resetLane l cause) :=
  (h.beginReset cause false).completeReset

theorem beginReset_lane (s : State) (l k : LaneId) (cause : EndCause) (rebound : Bool) :
    ((s.beginReset l cause rebound).lane k).pl.screen = (s.lane k).pl.screen
      ∧ ((s.beginReset l cause rebound).lane k).pl.state = if k = l then .resetting else (s.lane k).pl.state := by
  obtain ⟨_, hstate, hscreen⟩ := s.resetParts_lane l cause rebound
  rw [beginReset_eq, lane_modPl, holdBound_lane, holdBound_lane]
  split
  · rename_i hk
    subst hk
    exact ⟨hscreen k, rfl⟩
  · exact ⟨hscreen k, hstate k⟩

/-- A lane that does nothing bound to a screen that no other lane has, or to none. -/
theorem KeepsAll.bind (h : s.KeepsAll u) {c : Option ScreenId} (hstate : (u.lane l).pl.state.stoppable = false)
    (hfree : ∀ x k, c = some x → (u.lane k).pl.screen = some x → k = l) :
    s.KeepsAll (u.modPl l fun p => { p with screen := c }) where
  toKeeps := h.toKeeps.trans (.modPl id)
  tick ht := (h.tick ht).congr (fun k => modPl_lane_sne u l k _) rfl
  gates hg := (h.gates hg).congr fun k => modPl_lane_ftm u l k _
  holds hs := by
    obtain ⟨hone, hidle, hcheck⟩ := h.holds hs
    refine ⟨fun a b x => ?_, fun k => ?_, fun k => ?_⟩
    · rw [lane_modPl, lane_modPl]
      split
      · rename_i ha
        split
        · rename_i hb
          exact fun _ _ => ha.trans hb.symm
        · exact fun hc hb => ha.trans (hfree x b hc hb).symm
      · split
        · rename_i hb
          exact fun ha hc => (hfree x a hc ha).trans hb.symm
        · exact hone a b x
    · rw [laneHeld_eq, lane_modPl]
      by_cases hk : k = l
      · rw [if_pos hk]
        exact fun _ => (LaneState.stoppable_eq_false _).mp hstate
      · rw [if_neg hk]
        have hheld := hidle k
        rw [laneHeld_eq] at hheld
        exact hheld
    · rw [modPl_lane_ftm, lane_modPl]
      by_cases hk : k = l
      · rw [if_pos hk, hk]
        exact hcheck l
      · rw [if_neg hk]
        exact hcheck k

theorem KeepsAll.rebind (h : s.KeepsAll u) {c : Option ScreenId} (hfree : ∀ x, c = some x → u.takenElsewhere l x = false) :
    s.KeepsAll (u.rebind l c) := by
  have helse : ∀ x k, c = some x → (u.lane k).pl.screen = some x → k = l := by
    intro x k hc hk
    by_contra hne
    have hno := hfree x hc
    unfold State.takenElsewhere at hno
    rw [List.any_eq_false] at hno
    exact hno k (mem_fours k) (by simp [hne, hk])
  have hbegun := h.beginReset (l := l) .laneReset true
  have hlane := fun k => u.beginReset_lane l k .laneReset true
  unfold State.rebind
  dsimp only
  refine KeepsAll.completeReset (KeepsAll.bind ?_ ?_ ?_)
  · split
    · exact hbegun
    · rename_i x
      refine hbegun.enterHold fun _ k hk => .inr ?_
      rw [(hlane k).1] at hk
      rw [(hlane k).2, if_pos (helse x k rfl hk)]
  · split
    · rw [(hlane l).2, if_pos rfl]
      rfl
    · rw [enterHold_lane, (hlane l).2, if_pos rfl]
      rfl
  · intro x k hc hk
    split at hk
    · exact nomatch hc
    · rw [enterHold_lane, (hlane k).1] at hk
      exact helse x k hc hk

/-! ### The commands of a lane -/

theorem KeepsAll.done (h : s.KeepsAll u) (r : Result) : s.KeepsAll (Answer.done r u).state := h.calm (.reply _)

theorem KeepsAll.refused (h : s.KeepsAll u) (why : Reason) : s.KeepsAll (Answer.refused why u).state := h.calm (.reply _)

theorem KeepsAll.fixedLength (h : s.KeepsAll u) {n : Nat} {body : List Byte} {k : Answer} (hk : s.KeepsAll k.state) :
    s.KeepsAll (Machine.fixedLength n body u k).state := by
  unfold Machine.fixedLength
  split
  · exact hk
  · exact h.refused _

theorem KeepsAll.onLane (h : s.KeepsAll u) {inReset : Bool} {body : List Byte} {k : LaneId → Answer}
    (hk : ∀ l, s.KeepsAll (k l).state) : s.KeepsAll (Machine.onLane inReset body u k).state := by
  unfold Machine.onLane
  split
  · dsimp only
    split
    · exact h.refused _
    · exact hk _
  · exact h.refused _

theorem KeepsAll.laneCommand (h : s.KeepsAll u) {n : Nat} {body : List Byte} {k : LaneId → Answer}
    (hk : ∀ l, s.KeepsAll (k l).state) : s.KeepsAll (Machine.laneCommand n body u k).state :=
  h.fixedLength (h.onLane hk)

theorem KeepsAll.assignLane (h : s.KeepsAll u) (l : LaneId) (field : Nat) :
    s.KeepsAll (Machine.assignLane l field u).state := by
  unfold Machine.assignLane
  split
  · exact h.refused _
  · split
    · exact (h.calm (.modPl rfl rfl id)).done _
    · split
      · exact (h.rebind (c := none) fun _ hnone => nomatch hnone).done _
      · split
        · exact h.refused _
        · rename_i hfree
          refine (h.rebind fun y hy => ?_).done _
          obtain rfl := Option.some.inj hy
          exact Bool.eq_false_of_not_eq_true hfree

theorem KeepsAll.holdScreen (h : s.KeepsAll u) (l : LaneId) : s.KeepsAll (Machine.holdScreen l u).state := by
  unfold Machine.holdScreen
  split
  · exact h.refused _
  · rename_i c hc
    split
    · exact h.done _
    · have hstop : s.KeepsAll (if (u.lane l).pl.state.stoppable = true then u.stopLane l .held else u) :=
        .ite (fun _ => h.stopLane .held) fun _ => h
      have hidle : ((if (u.lane l).pl.state.stoppable = true then u.stopLane l .held else u).lane l).pl.state.stoppable
          = false ∧ ((if (u.lane l).pl.state.stoppable = true then u.stopLane l .held else u).lane l).pl.screen
          = some c := by
        split
        · rw [(u.stopLane_lane l l .held).1, (u.stopLane_lane l l .held).2, if_pos rfl]
          exact ⟨rfl, hc⟩
        · exact ⟨Bool.eq_false_of_not_eq_true ‹_›, hc⟩
      have hended := hstop.calm (.soundEnded _ l)
      refine (hended.enterHold fun hs k hk => ?_).done _
      rw [modSne_lane_pl] at hk ⊢
      rw [(hstop.holds hs).1 k l c hk hidle.2]
      exact (LaneState.stoppable_eq_false _).mp hidle.1

theorem KeepsAll.releaseScreen (h : s.KeepsAll u) (l : LaneId) : s.KeepsAll (Machine.releaseScreen l u).state := by
  unfold Machine.releaseScreen
  split
  · exact h.refused _
  · exact (h.releaseHold _).done _

theorem KeepsAll.appended (h : s.KeepsAll u) (l : LaneId) (kind : ItemKind) (rate channels : Nat)
    (frames : List Nat) (applied : Option Nat) (hroom : (u.lane l).pl.queue.length < 16) :
    s.KeepsAll (Machine.appended l kind rate channels frames applied u).state :=
  (h.calm (.modPl rfl rfl fun ⟨_, hb, hh⟩ => ⟨by
    rw [List.length_append]
    exact hroom, hb, hh⟩)).done _

theorem KeepsAll.identity (h : s.KeepsAll u) {id : Nat} {k : Answer} (hk : s.KeepsAll k.state) :
    s.KeepsAll (Machine.identity id u k).state := by
  unfold Machine.identity
  split
  · exact h.refused _
  · exact hk

theorem KeepsAll.appendComposition (h : s.KeepsAll u) (l : LaneId) (body : List Byte)
    (hroom : (u.lane l).pl.queue.length < 16) : s.KeepsAll (Machine.appendComposition l body u).state := by
  refine h.identity ?_
  split
  · exact h.refused _
  · dsimp only
    split
    · exact h.refused _
    split
    · exact h.refused _
    split
    · exact h.refused _
    split
    · exact h.refused _
    exact (h.calm (.addReference u _)).appended l _ _ _ _ _ hroom

theorem KeepsAll.appendItem (h : s.KeepsAll u) (l : LaneId) (body : List Byte) :
    s.KeepsAll (Machine.appendItem l body u).state := by
  unfold Machine.appendItem
  dsimp only
  by_cases hfull : 16 ≤ (u.lane l).pl.queue.length
  · simp only [hfull, decide_true, if_true]
    repeat' split
    all_goals exact h.refused _
  · have hroom := Nat.lt_of_not_le hfull
    simp only [hfull, decide_false, Bool.false_eq_true, if_false]
    split
    · exact h.refused _
    split
    · split
      · exact h.refused _
      · exact h.appendComposition l body hroom
    · split
      · exact h.refused _
      · exact h.appended l _ _ _ _ _ hroom
    · split
      · exact h.refused _
      · exact h.appended l _ _ _ _ _ hroom
    · exact h.refused _

theorem KeepsAll.removeItem (h : s.KeepsAll u) (l : LaneId) (index : Nat) :
    s.KeepsAll (Machine.removeItem l index u).state := by
  unfold Machine.removeItem
  split
  · exact h.refused _
  · split
    · exact h.refused _
    · exact (h.calm (.removeItems u l _)).done _

theorem KeepsAll.clearQueue (h : s.KeepsAll u) (l : LaneId) : s.KeepsAll (Machine.clearQueue l u).state :=
  (h.calm (.removeItems u l _)).done _

/-- The promotion of the head at a CUE is calm (R90). -/
theorem Calm.promoteHead {i : Item} {v : State} (hok : promoteHead u l i = .ok v) : u.Calm v := by
  unfold Machine.promoteHead at hok
  split at hok
  · split at hok
    · cases hok
    · rename_i hpass
      cases hok
      exact .reserve u l _ _ _ hpass
  · cases hok
    exact .refl u

theorem KeepsAll.cueLane (h : s.KeepsAll u) (l : LaneId) : s.KeepsAll (Machine.cueLane l u).state := by
  unfold Machine.cueLane
  dsimp only
  split
  · exact h.refused _
  rename_i hidle
  split
  · exact h.refused _
  split
  · exact h.refused _
  rename_i hfree
  split
  · exact h.refused _
  split
  · exact h.refused _
  split
  · exact (h.calm (.modStats _)).refused _
  · rename_i v hok
    have hv := Calm.promoteHead hok
    refine ((h.calm hv).modPl (fun _ => ⟨fun _ => ?_, fun _ _ hstarting => ?_⟩) rfl fun ⟨hq, hb, _⟩ =>
      ⟨by simpa [Playout.cueHead] using hq, hb, Nat.zero_le _⟩).done _
    · rw [hv.laneHeld]
      exact Bool.eq_false_of_not_eq_true hfree
    · rw [hv.state, not_not.mp hidle] at hstarting
      cases hstarting

theorem KeepsAll.enterStarting (h : s.KeepsAll u) (hm : (u.lane l).pl.state.Moves) : s.KeepsAll (u.enterStarting l) := by
  have hentered := (h.abortGate (l := l) (r := .aborted) nofun).moveTo (l := l)
    (f := fun p => { p with state := .starting }) (by rw [abortGate_lane_pl]; exact hm) rfl id
  refine hentered.modFtm (l := l) (f := fun m => { m.restartLoss _ with gate := Gate.start .check (some 8) })
    (fun _ _ _ => ?_) fun _ => .of_started .check (some 8) rfl
  rw [lane_modPl_same]

theorem KeepsAll.startLane (h : s.KeepsAll u) (l : LaneId) : s.KeepsAll (Machine.startLane l u).state := by
  unfold Machine.startLane
  dsimp only
  split
  · exact h.refused _
  rename_i hcued
  have hm : (u.lane l).pl.state.Moves := by
    rw [not_not.mp hcued]
    exact LaneState.moves_cued
  split
  · exact h.refused _
  · exact (KeepsAll.ite (fun _ => h.enterStarting hm) fun _ => h.enterPlaying hm).done _

theorem KeepsAll.pauseLane (h : s.KeepsAll u) (l : LaneId) : s.KeepsAll (Machine.pauseLane l u).state := by
  unfold Machine.pauseLane
  split
  · rename_i hplaying
    exact (h.enterPaused (by rw [hplaying]; exact LaneState.moves_playing) _).done _
  · exact h.refused _

theorem examineHead_of_passing {i : Item} {rest : List Item} (hq : (u.lane l).pl.queue = i :: rest)
    (hi : i.isIntermission = false) (hb : i.blocked = none) (target : Option Pos) :
    u.examineHead l target = u.modPl l fun p => { p with next := some (target.getD (i.posAt 0)) } := by
  unfold State.examineHead
  rw [hq]
  simp [hi, hb]

/-- A lane PLAYING again behind a RESUME (R101). -/
def resumePlaying (s : State) (l : LaneId) : State :=
  (((s.modPl l (fun p => { p with pause := none })).modSne l (fun u => { u with resumed := true })).enterPlaying
    l).cueStep l CueEngine.resumed

theorem resumeLane_eq (s : State) (l : LaneId) : s.resumeLane l =
    if (s.lane l).pl.pause = some .intermission ∧ !(s.lane l).pl.headPasses then s.examineHead l none
    else (if (s.lane l).pl.pause = some .intermission then s.examineHead l (s.lane l).pl.next else s).resumePlaying l :=
  rfl

theorem KeepsAll.resumePlaying (h : s.KeepsAll u) (hm : (u.lane l).pl.state.Moves) : s.KeepsAll (u.resumePlaying l) := by
  have hready := (Calm.modPl (s := u) (l := l) (f := fun p => { p with pause := none }) rfl rfl id).trans
    (.modSne_aside (l := l) (f := fun u => { u with resumed := true }) (fun _ => rfl) (fun _ => rfl) (fun _ => rfl)
      fun _ => rfl)
  exact ((h.calm hready).enterPlaying (by rw [hready.state]; exact hm)).calm (.cueStep l CueEngine.resumed)

theorem KeepsAll.resumeLane (h : s.KeepsAll u) (hm : (u.lane l).pl.state.Moves) : s.KeepsAll (u.resumeLane l) := by
  rw [resumeLane_eq]
  refine .ite (fun _ => h.examineHead hm _) fun hpasses => ?_
  have hnext : u.Calm (if (u.lane l).pl.pause = some .intermission then u.examineHead l (u.lane l).pl.next else u) := by
    refine .ite (fun hpause => ?_) fun _ => .refl u
    obtain ⟨i, rest, hq, hi, hb⟩ := (u.lane l).pl.headPasses_iff.mp (by simpa [hpause] using hpasses)
    rw [examineHead_of_passing hq hi hb]
    exact .modPl rfl rfl id
  exact (h.calm hnext).resumePlaying (by rw [hnext.state]; exact hm)

theorem KeepsAll.resume (h : s.KeepsAll u) (l : LaneId) : s.KeepsAll (Machine.resume l u).state := by
  unfold Machine.resume
  split
  · rename_i hpaused
    exact (h.resumeLane (by rw [hpaused]; exact LaneState.moves_paused)).done _
  · exact h.refused _

theorem KeepsAll.stop (h : s.KeepsAll u) (l : LaneId) : s.KeepsAll (Machine.stop l u).state := by
  unfold Machine.stop
  dsimp only
  split
  · exact (h.stopLane .stop).done _
  · exact h.refused _

theorem Calm.seekTo (s : State) (l : LaneId) (i : Item) (target : Nat) : s.Calm (s.seekTo l i target) := by
  have hmoved := (Calm.stopFetch s l true).trans (.modPl (l := l) (f := fun p =>
    { p with next := some (i.posAt target), inGap := false,
             fetch := { p.fetch with state := .running, cursor := some (.frameOf i.uid (i.posAt target) false) } })
    rfl rfl id)
  exact (hmoved.trans (.cueStep l CueEngine.seek)).trans (.modSne_aside
    (f := fun u => { u with seatPending := true }) (fun _ => rfl) (fun _ => rfl) (fun _ => rfl)
    fun _ => rfl)

theorem KeepsAll.seek (h : s.KeepsAll u) (l : LaneId) (target : Nat) : s.KeepsAll (Machine.seek l target u).state := by
  unfold Machine.seek
  dsimp only
  split
  · exact h.refused _
  split
  · exact h.refused _
  split
  · exact h.refused _
  · exact (h.calm (.seekTo u l _ _)).done _

theorem Calm.modSet (s : State) (l : LaneId) (f : Settings → Settings) : s.Calm (s.modSet l f) := .modPl rfl rfl id

theorem KeepsAll.setClamped (h : s.KeepsAll u) (l : LaneId) (lo hi v : Int) (f : Int → Settings → Settings) :
    s.KeepsAll (Machine.setClamped l lo hi v u f).state :=
  (h.calm (.modSet u l _)).done _

theorem KeepsAll.setDividerTo (h : s.KeepsAll u) (l : LaneId) (v : Int) :
    s.KeepsAll (Machine.setDivider l v u).state := by
  unfold Machine.setDivider
  split
  · exact (h.calm (.modSet u l _)).setDivider.done _
  · exact h.refused _

theorem KeepsAll.setRateWatch (h : s.KeepsAll u) (l : LaneId) (v : Int) :
    s.KeepsAll (Machine.setRateWatch l v u).state := by
  unfold Machine.setRateWatch
  split
  · exact h.refused _
  · exact ((h.calm (.modSet u l _)).setWatch _).done _

theorem KeepsAll.setLossTime (h : s.KeepsAll u) (l : LaneId) (v : Int) :
    s.KeepsAll (Machine.setLossTime l v u).state := by
  have hset := h.calm (.modSet u l fun x => { x with lossTime := (clampInt 100 2000 v).toNat })
  exact (KeepsAll.ite (fun _ => hset.lossExpiry) fun _ => hset).done _

theorem KeepsAll.setLane (h : s.KeepsAll u) (l : LaneId) (code : Nat) (v : Int) :
    s.KeepsAll (Machine.setLane l code v u).state := by
  unfold Machine.setLane
  split
  case h_1 | h_9 =>
    split
    · exact h.refused _
    · exact (h.calm (.modSet u l _)).done _
  case h_7 => exact h.setDividerTo l v
  case h_10 => exact h.setRateWatch l v
  case h_11 => exact h.setLossTime l v
  case h_12 => exact h.refused _
  all_goals exact h.setClamped l _ _ _ _

/-! ### The commands of the monitor and the sound -/

theorem KeepsAll.gateStart (h : s.KeepsAll u) (l : LaneId) (field : Nat) :
    s.KeepsAll (Machine.gateStart l field u).state := by
  unfold Machine.gateStart
  dsimp only
  split
  · exact h.refused _
  split
  · exact h.refused _
  · exact (h.startGate .host _ nofun).done _

theorem KeepsAll.gateStop (h : s.KeepsAll u) (l : LaneId) : s.KeepsAll (Machine.gateStop l u).state := by
  unfold Machine.gateStop
  dsimp only
  split
  · rename_i hopen
    exact ((h.stopGate _ _ hopen.1).calm (.raiseGate _ l _)).done _
  · exact h.refused _

theorem KeepsAll.injectPulses (h : s.KeepsAll u) (l : LaneId) (count q : Nat) :
    s.KeepsAll (Machine.injectPulses l count q u).state := by
  unfold Machine.injectPulses
  dsimp only
  split
  · exact h.refused _
  split
  · exact h.refused _
  split
  · exact h.refused _
  · exact (h.modFtm_sameGate rfl rfl).done _

/-- A map entry set leaves the values built; the channels of the tick change only with none built (R164). -/
theorem Calm.setEntry (s : State) (l : LaneId) (atTick : Bool) (channel : Nat) (c : Channel) :
    s.Calm (s.modSne l fun u => u.setEntry atTick channel c) := by
  refine .modSne id fun h => ⟨h.count, fun v hv => ?_, h.pointer⟩
  change v ∈ (s.lane l).sne.built at hv
  have hsome : (s.lane l).sne.built.isEmpty = false := by
    cases hb : (s.lane l).sne.built with
    | nil => rw [hb] at hv; cases hv
    | cons => rfl
  simpa [Sound.setEntry, hsome] using h.width v hv

theorem KeepsAll.setChannel (h : s.KeepsAll u) (l : LaneId) (channel enable tag gain : Nat) (trim : Int) :
    s.KeepsAll (Machine.setChannel l channel enable tag gain trim u).state := by
  unfold Machine.setChannel
  dsimp only
  split
  · exact h.refused _
  split
  · exact h.refused _
  · exact (h.calm (.setEntry u l _ _ _)).done _

end State

end Sys2Proof.Machine
end

section
/-! PROOF. The gaps between windows and draining ranges, and where a declaration is placed (R4, R9). -/

namespace Sys2Proof.Machine

open Sys2Proof

/-! ### Sorting by insertion -/

@[simp] theorem mem_insertBy {α : Type} (le : α → α → Bool) (a x : α) (l : List α) :
    x ∈ insertBy le a l ↔ x = a ∨ x ∈ l := by
  induction l with
  | nil => simp [insertBy]
  | cons b rest ih =>
    unfold insertBy
    split
    · exact List.mem_cons
    · rw [List.mem_cons, ih, List.mem_cons]
      exact or_left_comm

@[simp] theorem mem_sortBy {α : Type} (le : α → α → Bool) (x : α) (l : List α) : x ∈ sortBy le l ↔ x ∈ l := by
  induction l with
  | nil => rfl
  | cons a rest ih =>
    change x ∈ insertBy le a (sortBy le rest) ↔ _
    rw [mem_insertBy, ih, List.mem_cons]

theorem insertBy_pairwise {α : Type} {le : α → α → Bool} (htotal : ∀ a b, le a b = false → le b a = true)
    (htrans : ∀ a b c, le a b = true → le b c = true → le a c = true) (a : α) {l : List α}
    (h : l.Pairwise fun x y => le x y = true) : (insertBy le a l).Pairwise fun x y => le x y = true := by
  induction l with
  | nil => exact List.pairwise_singleton _ _
  | cons b rest ih =>
    obtain ⟨hb, hrest⟩ := List.pairwise_cons.mp h
    unfold insertBy
    split
    · rename_i hab
      refine List.pairwise_cons.mpr ⟨fun x hx => ?_, h⟩
      rcases List.mem_cons.mp hx with rfl | hx
      · exact hab
      · exact htrans a b x hab (hb x hx)
    · rename_i hab
      refine List.pairwise_cons.mpr ⟨fun x hx => ?_, ih hrest⟩
      rcases (mem_insertBy le a x rest).mp hx with rfl | hx
      · exact htotal x b (Bool.eq_false_of_not_eq_true hab)
      · exact hb x hx

theorem sortBy_pairwise {α : Type} {le : α → α → Bool} (htotal : ∀ a b, le a b = false → le b a = true)
    (htrans : ∀ a b c, le a b = true → le b c = true → le a c = true) (l : List α) :
    (sortBy le l).Pairwise fun x y => le x y = true := by
  induction l with
  | nil => exact List.Pairwise.nil
  | cons a rest ih => exact insertBy_pairwise htotal htrans a ih

/-! ### Gaps -/

theorem gapsFrom_within {capacity : Nat} {g : Span} {lo : Nat} {rs : List Span} (h : g ∈ gapsFrom capacity lo rs) :
    lo ≤ g.lo ∧ g.hi ≤ capacity := by
  induction rs generalizing lo with
  | nil =>
    unfold gapsFrom at h
    split at h
    · rw [List.mem_singleton.mp h]
      exact ⟨Nat.le_refl _, Nat.le_refl _⟩
    · cases h
  | cons r rest ih =>
    unfold gapsFrom at h
    split at h
    · rcases List.mem_cons.mp h with rfl | h
      · exact ⟨Nat.le_refl _, Nat.min_le_right _ _⟩
      · exact ⟨(Nat.le_max_left _ _).trans (ih h).1, (ih h).2⟩
    · exact ⟨(Nat.le_max_left _ _).trans (ih h).1, (ih h).2⟩

theorem gapsFrom_ascending (capacity lo : Nat) (rs : List Span) :
    (gapsFrom capacity lo rs).Pairwise fun a b => a.lo ≤ b.lo := by
  induction rs generalizing lo with
  | nil =>
    unfold gapsFrom
    split
    · exact List.pairwise_singleton _ _
    · exact List.Pairwise.nil
  | cons r rest ih =>
    unfold gapsFrom
    split
    · exact List.pairwise_cons.mpr ⟨fun g hg => (Nat.le_max_left _ _).trans (gapsFrom_within hg).1, ih _⟩
    · exact ih _

/-- A gap between ranges in ascending order meets none of them. -/
theorem gapsFrom_apart {capacity : Nat} {g r : Span} {lo : Nat} {rs : List Span} (h : g ∈ gapsFrom capacity lo rs)
    (hsorted : rs.Pairwise fun a b => a.lo ≤ b.lo) (hr : r ∈ rs) : r.hi ≤ g.lo ∨ g.hi ≤ r.lo := by
  induction rs generalizing lo with
  | nil => cases hr
  | cons x rest ih =>
    obtain ⟨hx, hrest⟩ := List.pairwise_cons.mp hsorted
    unfold gapsFrom at h
    have hlater : g ∈ gapsFrom capacity (max lo x.hi) rest → r.hi ≤ g.lo ∨ g.hi ≤ r.lo := fun hg => by
      rcases List.mem_cons.mp hr with rfl | hr
      · exact .inl ((Nat.le_max_right _ _).trans (gapsFrom_within hg).1)
      · exact ih hg hrest hr
    split at h
    · rcases List.mem_cons.mp h with rfl | h
      · refine .inr ((Nat.min_le_left _ _).trans ?_)
        rcases List.mem_cons.mp hr with rfl | hr
        · exact Nat.le_refl _
        · exact hx r hr
      · exact hlater h
    · exact hlater h

/-- A place that fits and that no gap before it holds meets a range. -/
theorem gapsFrom_covers {capacity size place : Nat} (lo : Nat) (rs : List Span) (hlo : lo ≤ place)
    (hpos : 0 < size) (hfits : place + size ≤ capacity) :
    (∃ g ∈ gapsFrom capacity lo rs, g.lo ≤ place ∧ size ≤ g.hi - g.lo)
      ∨ ∃ r ∈ rs, r.lo < place + size ∧ place < r.hi := by
  induction rs generalizing lo with
  | nil =>
    refine .inl ⟨⟨lo, capacity⟩, ?_, hlo, ?_⟩
    · unfold gapsFrom
      rw [if_pos (by omega)]
      exact List.mem_singleton.mpr rfl
    · dsimp only
      omega
  | cons r rest ih =>
    by_cases hbefore : place + size ≤ r.lo
    · refine .inl ⟨⟨lo, min r.lo capacity⟩, ?_, hlo, ?_⟩
      · unfold gapsFrom
        rw [if_pos (by omega)]
        exact List.mem_cons_self
      · dsimp only
        omega
    · by_cases hmeets : place < r.hi
      · exact .inr ⟨r, List.mem_cons_self, by omega, hmeets⟩
      · rcases ih (max lo r.hi) (by omega) with ⟨g, hg, hgap⟩ | ⟨x, hx, hmeet⟩
        · refine .inl ⟨g, ?_, hgap⟩
          unfold gapsFrom
          split
          · exact List.mem_cons_of_mem _ hg
          · exact hg
        · exact .inr ⟨x, List.mem_cons_of_mem _ hx, hmeet⟩

/-! ### The place of a declaration -/

theorem Storage.mem_occupied (c : Storage) (r : Span) : r ∈ c.occupied ↔
    (∃ e, some e ∈ c.table ∧ r = ⟨e.window.base, e.window.limit + 1⟩)
      ∨ ∃ d ∈ c.draining, r = ⟨d.first, d.last + 1⟩ := by
  unfold Storage.occupied Storage.windows
  simp only [mem_sortBy, List.mem_append, List.mem_map, List.mem_filterMap]
  constructor
  · rintro (⟨w, ⟨o, ho, hw⟩, rfl⟩ | ⟨d, hd, rfl⟩)
    · cases o with
      | none => cases hw
      | some e => exact .inl ⟨e, ho, by cases hw; rfl⟩
    · exact .inr ⟨d, hd, rfl⟩
  · rintro (⟨e, he, rfl⟩ | ⟨d, hd, rfl⟩)
    · exact .inl ⟨e.window, ⟨some e, he, rfl⟩, rfl⟩
    · exact .inr ⟨d, hd, rfl⟩

theorem Storage.occupied_ascending (c : Storage) : c.occupied.Pairwise fun a b => a.lo ≤ b.lo :=
  (sortBy_pairwise (by simp; omega) (by simp; omega) _).imp of_decide_eq_true

/-- A declaration's place is the lowest free one of its size (R4). -/
theorem Storage.place_eq_some {c : Storage} {size base : Nat} (hpos : 0 < size) (h : c.place size = some base) :
    4096 ≤ base ∧ base + size ≤ c.capacity
      ∧ (∀ r ∈ c.occupied, r.lo < r.hi → r.hi ≤ base ∨ base + size ≤ r.lo)
      ∧ ∀ lower, 4096 ≤ lower → lower < base → lower + size ≤ c.capacity →
          ∃ r ∈ c.occupied, r.lo < lower + size ∧ lower < r.hi := by
  unfold Storage.place at h
  split at h
  · cases h
  · obtain ⟨g, hfind, rfl⟩ := Option.map_eq_some_iff.mp h
    have hg : g ∈ gapsFrom c.capacity 4096 c.occupied := List.mem_of_find?_eq_some hfind
    have hfits : size ≤ g.hi - g.lo := by simpa using List.find?_some hfind
    obtain ⟨hlo, hhi⟩ := gapsFrom_within hg
    refine ⟨hlo, by omega, fun r hr _ => ?_, fun lower hlower hbelow hcap => ?_⟩
    · have := gapsFrom_apart hg c.occupied_ascending hr
      omega
    · rcases gapsFrom_covers 4096 c.occupied hlower hpos hcap with ⟨x, hx, hxlo, hxfits⟩ | hmeets
      · obtain ⟨before, after, hgaps, hnone⟩ := (List.find?_eq_some_iff_append.mp hfind).2
        have hasc := gapsFrom_ascending c.capacity 4096 c.occupied
        unfold Storage.gaps at hgaps
        rw [hgaps] at hasc hx
        rcases List.mem_append.mp hx with hx | hx
        · have := hnone x hx
          simp [hxfits] at this
        · rcases List.mem_cons.mp hx with rfl | hx
          · omega
          · have := (List.pairwise_cons.mp (List.pairwise_append.mp hasc).2.1).1 x hx
            omega
      · exact hmeets

end Sys2Proof.Machine
end

section
/-! PROOF. The invariants under the commands of storage, ingest, licences, notices and the part, and under the port's
own moves. -/

namespace Sys2Proof.Machine

open Sys2Proof

/-! ### Windows placed and restored (R4, R20) -/

theorem places_put (c : Storage) {slot : Nat} (e : TableEntry) (place : Nat × Nat × Nat) 
    (h : place ∈ ({ c with table := modifyAt (fun _ => some e) slot c.table } : Storage).places) :
    place = e.window.place ∨ place ∈ c.places := by
  have hmem : ∀ (i : Nat) (t : List (Option TableEntry)), ∀ o ∈ modifyAt (fun _ => some e) i t, o = some e ∨ o ∈ t := by
    intro i t
    induction t generalizing i with
    | nil => cases i <;> exact fun _ h => nomatch h
    | cons a rest ih =>
      cases i with
      | zero =>
        intro o ho
        rcases List.mem_cons.mp ho with rfl | ho
        · exact .inl rfl
        · exact .inr (List.mem_cons_of_mem _ ho)
      | succ i =>
        intro o ho
        rcases List.mem_cons.mp ho with rfl | ho
        · exact .inr List.mem_cons_self
        · exact (ih i o ho).imp id (List.mem_cons_of_mem _)
  obtain ⟨w, hw, rfl⟩ := List.mem_map.mp h
  obtain ⟨o, ho, howner⟩ := List.mem_filterMap.mp hw
  rcases hmem _ _ o ho with rfl | ho
  · exact .inl (by cases howner; rfl)
  · exact .inr (List.mem_map_of_mem (List.mem_filterMap.mpr ⟨o, ho, howner⟩))

theorem placesApart.symm {a b : Nat × Nat × Nat} (h : placesApart a b) : placesApart b a :=
  ⟨h.1.symm, fun heq => h.2 heq.symm⟩

/-- A window put in an entry, apart from every window there was: the windows stay apart. -/
theorem pairwise_places_put (c : Storage) (slot : Nat) (e : TableEntry) (h : c.places.Pairwise placesApart)
    (hapart : ∀ p ∈ c.places, placesApart e.window.place p) :
    ({ c with table := modifyAt (fun _ => some e) slot c.table } : Storage).places.Pairwise placesApart := by
  have hput : ∀ (i : Nat) (t : List (Option TableEntry)),
      ((t.filterMap (fun e => e.map TableEntry.window)).map Window.place).Pairwise placesApart →
      (∀ p ∈ (t.filterMap (fun e => e.map TableEntry.window)).map Window.place, placesApart e.window.place p) →
      (((modifyAt (fun _ => some e) i t).filterMap (fun e => e.map TableEntry.window)).map
        Window.place).Pairwise placesApart := by
    intro i t
    induction t generalizing i with
    | nil => cases i <;> exact fun _ _ => List.Pairwise.nil
    | cons a rest ih =>
      have hsub : ((rest.filterMap (fun e => e.map TableEntry.window)).map Window.place).Sublist
          (((a :: rest).filterMap (fun e => e.map TableEntry.window)).map Window.place) := by
        cases a <;> simp
      intro hpair hfree
      cases i with
      | zero => exact List.pairwise_cons.mpr ⟨fun p hp => hfree p (hsub.subset hp), hpair.sublist hsub⟩
      | succ i =>
        have hrest := ih i (hpair.sublist hsub) fun p hp => hfree p (hsub.subset hp)
        cases a with
        | none => exact hrest
        | some a =>
          have hpair' := List.pairwise_cons.mp hpair
          refine List.pairwise_cons.mpr ⟨fun p hp => ?_, hrest⟩
          rcases places_put { c with table := rest } e p hp with rfl | hp
          · exact (hfree _ List.mem_cons_self).symm
          · exact hpair'.1 p hp
  exact hput slot c.table h hapart

namespace State

variable {s u : State} {l : LaneId}

/-- A window put in an entry of the table, within the array and apart from every other. -/
theorem Calm.putEntry (s : State) (slot : Nat) (e : TableEntry)
    (hin : s.WindowsApart → 4096 ≤ e.window.base ∧ e.window.base ≤ e.window.limit ∧ e.window.limit < s.stc.capacity)
    (hapart : s.WindowsApart → ∀ p ∈ s.stc.places, placesApart e.window.place p)
    (hread : s.WindowsApart → ¬ (s.stc.load = .awaitingPort ∨ s.stc.load = .capacityRead)) :
    s.Calm (s.modStc fun c => { c with table := modifyAt (fun _ => some e) slot c.table }) := by
  refine .modStc (fun h => ?_) fun ⟨h1, h2, h3, h4, h5⟩ => ⟨(modifyAt_length _ _ _).trans h1, h2, h3, h4, h5⟩
  have hh := h
  obtain ⟨hwithin, hpair, hpart, -⟩ := h
  refine ⟨fun w hw => ?_, ?_, hpart, fun hl => absurd hl (hread hh)⟩
  · rcases places_put s.stc e w.place (List.mem_map_of_mem hw) with heq | hmem
    · obtain ⟨-, hbase, hlimit⟩ : w.packageId = e.window.packageId ∧ w.base = e.window.base
          ∧ w.limit = e.window.limit := by simpa [Window.place] using heq
      rw [hbase, hlimit]
      exact hin hh
    · obtain ⟨w', hw', heq⟩ := List.mem_map.mp hmem
      obtain ⟨-, hbase, hlimit⟩ : w'.packageId = w.packageId ∧ w'.base = w.base ∧ w'.limit = w.limit := by
        simpa [Window.place] using heq
      rw [← hbase, ← hlimit]
      exact hwithin w' hw'
  · exact (pairwise_places _).mpr (pairwise_places_put s.stc slot e ((pairwise_places _).mp hpair) (hapart hh))

/-- The windows of the table are those of its entries. -/
theorem mem_places (c : Storage) (p : Nat × Nat × Nat) : p ∈ c.places ↔ ∃ e, some e ∈ c.table ∧ p = e.window.place := by
  unfold Storage.places Storage.windows
  simp only [List.mem_map, List.mem_filterMap]
  constructor
  · rintro ⟨w, ⟨o, ho, hw⟩, rfl⟩
    cases o with
    | none => cases hw
    | some e => exact ⟨e, ho, by cases hw; rfl⟩
  · rintro ⟨e, he, rfl⟩
    exact ⟨e.window, ⟨some e, he, rfl⟩, rfl⟩

theorem findFrom_eq_none {α : Type} {p : α → Bool} {i : Nat} {l : List α} (h : findFrom p i l = none) :
    ∀ a ∈ l, p a = false := by
  induction l generalizing i with
  | nil => exact nofun
  | cons b rest ih =>
    unfold findFrom at h
    split at h
    · cases h
    · rename_i hb
      intro a ha
      rcases List.mem_cons.mp ha with rfl | ha
      · exact Bool.eq_false_of_not_eq_true hb
      · exact ih h a ha

/-- A package that stands in no window owns none of the places. -/
theorem find_eq_none {c : Storage} {pid : Nat} (h : c.find pid = none) :
    ∀ e, some e ∈ c.table → e.window.packageId ≠ pid := by
  intro e he heq
  unfold Storage.find at h
  split at h
  · cases h
  · rename_i hnone
    cases hf : findFrom (isPackage pid) 0 c.table with
    | none =>
      have := findFrom_eq_none hf _ he
      simp [isPackage, heq] at this
    | some x =>
      obtain ⟨i, o⟩ := x
      cases o with
      | none => cases (findFrom_some hf).1
      | some e => exact hnone i e hf

/-- A declaration of reels with frames has blocks. -/
theorem windowSize_pos {d : Declaration} (hreels : d.reels ≠ []) (hframes : ∀ r ∈ d.reels, 1 ≤ r.frames)
    (hblocks : 1 ≤ d.slotBlocks) : 0 < d.windowSize := by
  obtain ⟨r, hr⟩ := List.exists_mem_of_ne_nil _ hreels
  refine List.sum_pos_iff_exists_pos_nat.mpr ⟨d.reelBlocks r, List.mem_map_of_mem hr, ?_⟩
  have hpos : 0 < r.frames * (d.slotBlocks + d.soundBlocks) := Nat.mul_pos (hframes r hr) (by omega)
  exact Nat.lt_of_lt_of_le hpos (Nat.le_add_right _ _)

@[simp] theorem declaredReels_length (body : List Byte) (n : Nat) : (declaredReels body n).length = n := by
  induction n generalizing body with
  | zero => rfl
  | succ n ih => exact congrArg (· + 1) (ih _)

/-- An acceptable declaration of one reel or more has blocks. -/
theorem declared_windowSize_pos {body : List Byte} {flag : Nat} (hreels : 1 ≤ u8 body 6)
    (hok : (declared body).acceptable flag = true) : 0 < (declared body).windowSize := by
  unfold Declaration.acceptable at hok
  simp only [Bool.and_eq_true, decide_eq_true_eq, List.all_eq_true] at hok
  obtain ⟨⟨⟨⟨⟨⟨-, -⟩, hblocks⟩, -⟩, -⟩, -⟩, hall⟩ := hok
  refine windowSize_pos (fun hnil => ?_) (fun r hr => (hall r hr).1.1) hblocks
  have hlen : (declared body).reels.length = u8 body 6 := declaredReels_length _ _
  rw [hnil, List.length_nil] at hlen
  omega

/-- A placed declaration's window lies within the array and apart from every window there is (R2, R4). -/
theorem newWindow_placed {d : Declaration} {base : Nat} (hw : s.WindowsApart) (hpos : 0 < d.windowSize)
    (hfree : s.stc.find d.packageId = none) (hplace : s.stc.place d.windowSize = some base) :
    (4096 ≤ (newWindow d base).base ∧ (newWindow d base).base ≤ (newWindow d base).limit
        ∧ (newWindow d base).limit < s.stc.capacity)
      ∧ ∀ p ∈ s.stc.places, placesApart (newWindow d base).place p := by
  obtain ⟨hlo, hhi, hmeets, -⟩ := Storage.place_eq_some hpos hplace
  refine ⟨?_, fun p hp => ?_⟩
  · unfold newWindow
    generalize d.windowSize = size at *
    dsimp only
    omega
  · obtain ⟨e, he, rfl⟩ := (mem_places _ _).mp hp
    have hwithin := hw.1 e.window (List.mem_filterMap.mpr ⟨some e, he, rfl⟩)
    have hapart := hmeets _ ((s.stc.mem_occupied _).mpr (.inl ⟨e, he, rfl⟩)) (Nat.lt_succ_of_le hwithin.2.1)
    refine ⟨?_, fun heq => find_eq_none hfree e he heq.symm⟩
    unfold Window.place newWindow
    generalize d.windowSize = size at *
    dsimp only at *
    omega

theorem KeepsAll.declarePackage (hpart : s.WindowsApart → s.stc.load = .idle) (body : List Byte) :
    s.KeepsAll (Machine.declarePackage body s).state := by
  have h := KeepsAll.refl s
  unfold Machine.declarePackage
  dsimp only
  split
  · exact h.refused _
  split
  · exact h.refused _
  rename_i hreels
  split
  · exact h.refused _
  split
  · exact h.refused _
  rename_i hok
  split
  · exact h.refused _
  rename_i hknown
  split
  · exact h.refused _
  split
  · exact h.refused _
  rename_i slot _ _ base hplace
  have hpos := declared_windowSize_pos (Nat.le_of_not_lt (not_or.mp hreels).1) (by simpa using hok)
  have hfree : s.stc.find (declared body).packageId = none := by simpa using hknown
  have hput := Calm.putEntry s slot
    { window := newWindow (declared body) base, record := newRecord (declared body) }
    (fun hw => (newWindow_placed hw hpos hfree hplace).1) (fun hw => (newWindow_placed hw hpos hfree hplace).2)
    fun hw => by rw [hpart hw]; exact nofun
  exact ((h.calm hput).calm (.request _ slot)).done _

/-! ### The other commands of storage and ingest -/

theorem KeepsAll.retirePackage (h : s.KeepsAll u) (pid : Nat) : s.KeepsAll (Machine.retirePackage pid u).state := by
  refine h.identity ?_
  split
  · exact h.refused _
  split
  · exact h.refused _
  split
  · exact (h.calm (.release u pid)).done _
  · have hretiring := Calm.modWindow u pid (f := fun w => { w with state := .retiring }) fun _ => rfl
    exact ((h.calm hretiring).calm (.request _ _)).done _

theorem KeepsAll.abortPackage (h : s.KeepsAll u) (pid : Nat) : s.KeepsAll (Machine.abortPackage pid u).state := by
  refine h.identity ?_
  split
  · exact h.refused _
  split
  · exact h.refused _
  · exact (h.calm (.release u pid)).done _

theorem KeepsAll.queryPackage (h : s.KeepsAll u) (pid reel : Nat) :
    s.KeepsAll (Machine.queryPackage pid reel u).state := by
  refine h.identity ?_
  split
  · exact h.refused _
  split
  · exact h.refused _
  · exact h.done _

theorem KeepsAll.setIngest (h : s.KeepsAll u) (value : Nat) : s.KeepsAll (Machine.setIngest value u).state := by
  unfold Machine.setIngest
  split
  · exact ((h.calm (.modPka rfl id)).calm (.expireTickets _)).done _
  · exact (h.calm (.modPka rfl id)).done _
  · exact h.refused _

/-! ### The commands of the showing counter -/

theorem KeepsAll.loadLicence (h : s.KeepsAll u) (body : List Byte) : s.KeepsAll (Machine.loadLicence body u).state := by
  unfold Machine.loadLicence
  dsimp only
  split
  · exact h.refused _
  split
  · exact h.refused _
  split
  · exact h.refused _
  rename_i hheld
  split
  · exact h.refused _
  refine (h.calm (.putLicence u _ (fun hknown => ?_) fun hlim => ?_)).done _
  · by_contra hpos
    exact hheld ⟨hknown, .inl (Nat.pos_of_ne_zero hpos)⟩
  · unfold loadedLicence at hlim ⊢
    dsimp only at hlim ⊢
    rw [if_pos (Nat.pos_of_ne_zero hlim)]
    exact Nat.min_le_right _ _

theorem KeepsAll.revokeLicence (h : s.KeepsAll u) (id force : Nat) :
    s.KeepsAll (Machine.revokeLicence id force u).state := by
  have hstops : ∀ (ls : List LaneId) (v : State), s.KeepsAll v →
      s.KeepsAll (ls.foldl (fun s l => s.stopLane l .revoked) v) := by
    intro ls
    induction ls with
    | nil => exact fun _ hv => hv
    | cons l rest ih => exact fun v hv => ih _ (hv.stopLane .revoked)
  unfold Machine.revokeLicence
  split
  · exact h.refused _
  refine h.identity ?_
  split
  · exact h.refused _
  split
  · split
    · exact h.refused _
    · exact (h.calm (.setRevoked u id)).done _
  · exact ((hstops _ u h).calm (.setRevoked _ id)).done _

theorem KeepsAll.queryLicence (h : s.KeepsAll u) (id : Nat) : s.KeepsAll (Machine.queryLicence id u).state := by
  unfold Machine.queryLicence
  split
  · exact h.done _
  split
  · exact h.refused _
  · exact h.done _

theorem KeepsAll.readLog (h : s.KeepsAll u) (n limit : Nat) : s.KeepsAll (Machine.readLog n limit u).state := by
  unfold Machine.readLog
  split
  · exact h.refused _
  · exact h.done _

theorem KeepsAll.collectLog (h : s.KeepsAll u) (n : Nat) : s.KeepsAll (Machine.collectLog n u).state :=
  (h.calm (.collected u n)).done _

theorem KeepsAll.goLive (h : s.KeepsAll u) : s.KeepsAll (Machine.goLive u).state := by
  unfold Machine.goLive
  split
  · exact h.done _
  split
  · exact (h.calm (.withShc (h := { u.shc with mode := .live }) (fun hl => hl) fun hl => hl)).done _
  · exact h.refused _

/-! ### The commands of the notice unit and of the part -/

theorem KeepsAll.doneNotices (h : s.KeepsAll u) (f : Notices → Notices) :
    s.KeepsAll (Machine.doneNotices u f).state := (h.calm (.withNtu _)).done _

theorem KeepsAll.sourceCommand (h : s.KeepsAll u) {body : List Byte} {k : BitVec 44 → Answer}
    (hk : ∀ set, s.KeepsAll (k set).state) : s.KeepsAll (Machine.sourceCommand body u k).state := by
  refine h.fixedLength ?_
  split
  · exact h.refused _
  · exact hk _

theorem KeepsAll.setMaster (h : s.KeepsAll u) (value : Nat) : s.KeepsAll (Machine.setMaster value u).state := by
  unfold Machine.setMaster
  split
  · exact h.doneNotices _
  · exact h.doneNotices _
  · exact h.refused _

theorem KeepsAll.injectNotice (h : s.KeepsAll u) (set : BitVec 44) : s.KeepsAll (Machine.injectNotice set u).state := by
  unfold Machine.injectNotice
  split
  · exact h.refused _
  · exact h.doneNotices _

/-- Booth time and what goes with it changed. -/
theorem KeepsAll.withBooth (h : s.KeepsAll u) (booth : Option Nat) (sub : Nat) (secondDue : Bool) :
    s.KeepsAll { u with clock := { u.clock with booth := booth, sub := sub, secondDue := secondDue } } where
  windows := h.windows
  stores := h.stores
  licences := h.licences
  log := h.log
  ports := h.ports
  lanes := h.lanes
  samples := h.samples
  tick := h.tick
  holds := h.holds
  gates := h.gates

theorem KeepsAll.setBooth (h : s.KeepsAll u) (t : Nat) : s.KeepsAll (u.setBooth t) :=
  have hset := h.withBooth (some t) u.clock.sub u.clock.secondDue
  .ite (fun _ => hset.calm (.raise _)) fun _ => hset

theorem KeepsAll.setTime (h : s.KeepsAll u) (now : Nat) : s.KeepsAll (Machine.setTime now u).state :=
  ((h.withBooth u.clock.booth 0 u.clock.secondDue).setBooth now).done _

theorem KeepsAll.startingUp (h : s.KeepsAll u) (cause : ResetCause) :
    s.KeepsAll (u.modBcp fun b => { b with part := .startingUp, cause := cause }) :=
  h.trans { windows := fun ⟨h1, h2, _, h4⟩ => ⟨h1, h2, fun _ => rfl, h4⟩ }

theorem KeepsAll.askSoftReset (h : s.KeepsAll u) : s.KeepsAll (Machine.askSoftReset u).state :=
  (h.startingUp .soft).done _

end State
end Sys2Proof.Machine
end

section
/-! PROOF. The invariants under the passing of time and the clock's events (R112, R117, R120, R171, R196). -/

namespace Sys2Proof.Machine

open Sys2Proof

/-- A monitor's earliest timed event, when it is no injected pulse, is its gate's overflow. -/
theorem Monitor.earliest_overflow {m : Monitor} {i : Instant} {injected : Bool} (h : m.earliest = some (i, injected))
    (hinj : injected = false) : m.overflowAt = some i := by
  subst hinj
  unfold Monitor.earliest at h
  split at h
  · split at h <;> cases h
    assumption
  · cases h
  · cases h
    assumption
  · cases h

theorem Monitor.overflowAt_opened {m : Monitor} {i : Instant} (h : m.overflowAt = some i) : m.gate.state = .opened := by
  unfold Monitor.overflowAt at h
  split at h
  · rename_i hopen
    exact hopen.1
  · cases h

namespace State

variable {s u v : State} {l : LaneId}

/-! ### Instants -/

theorem foldl_min_le (ts : List Instant) (t : Instant) : ts.foldl min t ≤ t := by
  induction ts generalizing t with
  | nil => exact Nat.le_refl _
  | cons a rest ih => exact (ih _).trans (Nat.min_le_left _ _)

/-- No event is taken behind the next base tick. -/
theorem horizon_le (s : State) : s.horizon ≤ s.nextBase := foldl_min_le _ _

/-- The instant and the count of base ticks are the same. -/
def SameTick (s u : State) : Prop := u.clock.now = s.clock.now ∧ u.clock.ticks = s.clock.ticks

theorem SameTick.of_clock (h : u.clock = s.clock) : s.SameTick u := ⟨by rw [h], by rw [h]⟩

theorem SameTick.trans (h : s.SameTick u) (k : u.SameTick v) : s.SameTick v := ⟨k.1.trans h.1, k.2.trans h.2⟩

theorem SameTick.ite {c : Prop} [Decidable c] (h : s.SameTick u) (k : s.SameTick v) :
    s.SameTick (if c then u else v) := by
  split
  · exact h
  · exact k

theorem SameTick.nextBase (h : s.SameTick u) : u.nextBase = s.nextBase := by
  unfold State.nextBase
  rw [h.2]

theorem modGate_clock (s : State) (l : LaneId) (f : Gate → Gate) : (s.modGate l f).clock = s.clock := rfl

@[simp] theorem abortGate_clock (s : State) (l : LaneId) (r : GateResult) : (s.abortGate l r).clock = s.clock := by
  unfold State.abortGate
  dsimp only
  split
  · rw [raiseGate_clock, modGate_clock]
  · rfl

@[simp] theorem endWatch_clock (s : State) (l : LaneId) (r : GateResult) : (s.endWatch l r).clock = s.clock := by
  unfold State.endWatch
  dsimp only
  rw [modFtm_clock]
  split
  · rw [abortGate_clock]
  · rfl

@[simp] theorem enterPaused_clock (s : State) (l : LaneId) (cause : PauseCause) :
    (s.enterPaused l cause).clock = s.clock :=
  (Calm.cueStep l _).clock.trans ((Calm.rampDown _ l false).clock.trans (endWatch_clock _ l _))

@[simp] theorem lossExpiry_clock (s : State) (l : LaneId) : (s.lossExpiry l).clock = s.clock := by
  unfold State.lossExpiry
  dsimp only
  split
  · exact (Calm.laneFault _ l _).clock.trans (abortGate_clock _ l _)
  · exact (Calm.laneFault _ l _).clock.trans ((enterPaused_clock _ l _).trans (abortGate_clock _ l _))
  all_goals exact abortGate_clock _ l _

/-! ### What was overdue -/

theorem setBooth_clock (s : State) (t : Nat) : (s.setBooth t).clock = { s.clock with booth := some t } := by
  unfold State.setBooth State.expireLicences
  dsimp only
  split <;> rfl

theorem KeepsAll.boothSecond (h : s.KeepsAll u) : s.KeepsAll u.boothSecond := by
  unfold State.boothSecond
  dsimp only
  split
  · exact h.withBooth _ _ _
  · split
    · exact (h.withBooth u.clock.booth 0 false).setBooth _
    · exact h.withBooth _ _ _

theorem boothSecond_sameTick (s : State) : s.SameTick s.boothSecond := by
  unfold State.boothSecond
  dsimp only
  split
  · exact ⟨rfl, rfl⟩
  · split
    · unfold SameTick
      rw [setBooth_clock]
      exact ⟨rfl, rfl⟩
    · exact ⟨rfl, rfl⟩

theorem lossFold_keeps (ls : List LaneId) : ∀ u, s.KeepsAll u →
    s.KeepsAll (ls.foldl (fun s l => if (s.lane l).lossDue then s.lossExpiry l else s) u) := by
  induction ls with
  | nil => exact fun _ h => h
  | cons l rest ih => exact fun u h => ih _ (.ite (fun _ => h.lossExpiry) fun _ => h)

theorem lossFold_sameTick (ls : List LaneId) : ∀ u : State,
    u.SameTick (ls.foldl (fun s l => if (s.lane l).lossDue then s.lossExpiry l else s) u) := by
  induction ls with
  | nil => exact fun u => ⟨rfl, rfl⟩
  | cons l rest ih =>
    intro u
    exact SameTick.trans (.ite (.of_clock (lossExpiry_clock u l)) ⟨rfl, rfl⟩) (ih _)

theorem KeepsAll.takeOverdue (h : s.KeepsAll u) : s.KeepsAll u.takeOverdue := by
  have hsecond : s.KeepsAll (if u.clock.secondDue then u.boothSecond else u) :=
    .ite (fun _ => h.boothSecond) fun _ => h
  have hloss := lossFold_keeps fours _ hsecond
  exact .ite (fun _ => hloss.calm (.expireTickets _)) fun _ => hloss

theorem takeOverdue_sameTick (s : State) : s.SameTick s.takeOverdue := by
  have hsecond : s.SameTick (if s.clock.secondDue then s.boothSecond else s) :=
    .ite s.boothSecond_sameTick ⟨rfl, rfl⟩
  have hloss := hsecond.trans (lossFold_sameTick fours _)
  exact .ite (hloss.trans (.of_clock (Calm.expireTickets _).clock)) hloss

theorem KeepsAll.caughtUp (h : s.KeepsAll u) (t : Instant) : s.KeepsAll (u.caughtUp t) :=
  .ite (fun _ => h.takeOverdue) fun _ => h

theorem caughtUp_sameTick (s : State) (t : Instant) : s.SameTick (s.caughtUp t) := by
  exact .ite s.takeOverdue_sameTick ⟨rfl, rfl⟩

/-- The clock moved on to an instant that is not behind the next base tick, behind what was overdue. -/
theorem KeepsAll.moveClock (h : s.KeepsAll u) {t : Instant} (ht : t ≤ u.nextBase) :
    s.KeepsAll (u.clockTo (max u.clock.now t)) :=
  h.trans (.clockTo fun hb => Nat.max_le.mpr ⟨hb.1, ht⟩)

theorem KeepsAll.takeAt (s : State) (t : Instant) : s.KeepsAll (s.takeAt t) := by
  have hsame := s.caughtUp_sameTick (s.takenAt t)
  have hmove := ((KeepsAll.refl s).caughtUp (s.takenAt t)).moveClock (t := min t s.horizon) (by
    rw [hsame.nextBase]
    exact (Nat.min_le_right _ _).trans s.horizon_le)
  rw [hsame.1] at hmove
  exact hmove

/-! ### The base tick -/

/-- The earliest timed event of the lanes is one of its lane's monitor. -/
theorem earliest_eq_some {s : State} {ls : List LaneId} {l : LaneId} {i : Instant} {injected : Bool}
    (h : s.earliest ls = some (l, i, injected)) : (s.lane l).ftm.earliest = some (i, injected) := by
  induction ls with
  | nil => cases h
  | cons k rest ih =>
    unfold State.earliest at h
    split at h
    · exact ih h
    · rename_i a hk _
      cases h
      exact hk
    · rename_i a _ b hk hrest
      split at h
      · cases h
        exact hk
      · cases h
        exact ih hrest


theorem KeepsAll.takeTimed (n : Nat) : ∀ {u : State}, s.KeepsAll u → s.KeepsAll (u.takeTimed n) := by
  induction n with
  | zero => exact fun h => h
  | succ n ih =>
    intro u h
    unfold State.takeTimed
    split
    · exact h
    · rename_i l i injected hfirst
      split
      · rename_i hbefore
        have hmoved := h.moveClock (Nat.le_of_lt hbefore)
        dsimp only
        refine ih (KeepsAll.trans (KeepsAll.ite (fun _ => hmoved.injectedPulse) fun hno => ?_) (.settle _))
        refine hmoved.gateOverflow ?_
        rw [clockTo_lane_ftm]
        have hdue := Monitor.earliest_overflow (earliest_eq_some hfirst) (Bool.eq_false_of_not_eq_true hno)
        exact Monitor.overflowAt_opened hdue
      · exact h

/-- Lane updates that leave the playout record and the monitor alone keep silence. -/
theorem HoldsSilence.congr (h : s.HoldsSilence) (hpl : ∀ l, (u.lane l).pl = (s.lane l).pl)
    (hftm : ∀ l, (u.lane l).ftm = (s.lane l).ftm) (hheld : u.held = s.held) : u.HoldsSilence := by
  obtain ⟨hone, hidle, hcheck⟩ := h
  refine ⟨fun l k c => ?_, fun l => ?_, fun l => ?_⟩
  · rw [hpl, hpl]
    exact hone l k c
  · rw [laneHeld_congr hheld (by rw [hpl]), hpl]
    exact hidle l
  · rw [hftm, hpl]
    exact hcheck l

/-- Sound of a lane whose tick has been closed: nothing is built of the next, the state is what it was. -/
def TickClosed (s u : State) (l : LaneId) : Prop :=
  (u.lane l).sne.built = [] ∧ (u.lane l).sne.state = (s.lane l).sne.state
    ∧ (u.lane l).sne.pointer = (s.lane l).sne.pointer

theorem offerBlocks_sound (s : State) (l k : LaneId) (blocks : List SoundBlock) :
    ((s.offerBlocks l blocks).lane k).sne.state = (s.lane k).sne.state
      ∧ ((s.offerBlocks l blocks).lane k).sne.pointer = (s.lane k).sne.pointer
      ∧ ((s.offerBlocks l blocks).lane k).sne.built = (s.lane k).sne.built := by
  have hcount : ∀ (s : State) (f : SoundCounts → SoundCounts), ((s.modSne l fun u => { u with counts := f u.counts }).lane
      k).sne.state = (s.lane k).sne.state ∧ ((s.modSne l fun u => { u with counts := f u.counts }).lane
      k).sne.pointer = (s.lane k).sne.pointer ∧ ((s.modSne l fun u => { u with counts := f u.counts }).lane
      k).sne.built = (s.lane k).sne.built := by
    intro s f
    rw [lane_modSne]
    split
    · rename_i hk
      rw [hk]
      exact ⟨rfl, rfl, rfl⟩
    · exact ⟨rfl, rfl, rfl⟩
  have hanswer : ∀ s : State, s.answerReady.lane k = s.lane k := by
    intro s
    unfold State.answerReady
    split <;> rfl
  rw [offerBlocks_eq]
  split
  · split
    · rw [hanswer]
      exact hcount s fun c => { c with offered := satInc top32 c.offered, admitted := satInc top32 c.admitted,
                                       blocks := min top32 (c.blocks + blocks.length) }
    · exact hcount s fun c => { c with offered := satInc top32 c.offered, admitted := satInc top32 c.admitted,
                                       blocks := min top32 (c.blocks + blocks.length) }
  · exact hcount s fun c => { c with offered := satInc top32 c.offered, dropped := satInc top32 c.dropped }

/-- One lane's tick closed and its pointer reported: that lane's tick is closed, every other's sound is as it was. -/
theorem closeTick_sound (s : State) (l k : LaneId) :
    (((s.closeTick l).modLane l Lane.reported).lane k).sne.state = (s.lane k).sne.state
      ∧ (((s.closeTick l).modLane l Lane.reported).lane k).sne.pointer = (s.lane k).sne.pointer
      ∧ (((s.closeTick l).modLane l Lane.reported).lane k).sne.built
        = if k = l then [] else (s.lane k).sne.built := by
  have hoffer : ∀ c : Prop, [Decidable c] → ((if c then s.offerBlocks l ((s.lane l).sne.blocks l) else s).lane k).sne.state
      = (s.lane k).sne.state ∧ ((if c then s.offerBlocks l ((s.lane l).sne.blocks l) else s).lane k).sne.pointer
      = (s.lane k).sne.pointer ∧ ((if c then s.offerBlocks l ((s.lane l).sne.blocks l) else s).lane k).sne.built
      = (s.lane k).sne.built := by
    intro c _
    split
    · exact s.offerBlocks_sound l k _
    · exact ⟨rfl, rfl, rfl⟩
  obtain ⟨hstate, hpointer, hbuilt⟩ := hoffer
    (((s.lane l).sne.sounded && !(s.laneHeld l) && !(s.lane l).sne.latched.isEmpty) = true)
  rw [lane_modLane]
  unfold State.closeTick
  dsimp only
  split
  · rename_i hk
    subst hk
    rw [Lane.reported_eq, lane_modSne, if_pos rfl]
    exact ⟨hstate, hpointer, rfl⟩
  · rename_i hk
    rw [lane_modSne, if_neg hk]
    exact ⟨hstate, hpointer, hbuilt⟩

theorem closeTicks_closed (s : State) (k : LaneId) : s.TickClosed s.closeTicks k := by
  have hfold : ∀ (ls : List LaneId) (u : State),
      ((ls.foldl (fun s l => (s.closeTick l).modLane l Lane.reported) u).lane k).sne.state = (u.lane k).sne.state
        ∧ ((ls.foldl (fun s l => (s.closeTick l).modLane l Lane.reported) u).lane k).sne.pointer
          = (u.lane k).sne.pointer
        ∧ ((k ∈ ls ∨ (u.lane k).sne.built = []) →
          ((ls.foldl (fun s l => (s.closeTick l).modLane l Lane.reported) u).lane k).sne.built = []) := by
    intro ls
    induction ls with
    | nil => exact fun u => ⟨rfl, rfl, fun h => h.elim (fun h => nomatch h) id⟩
    | cons l rest ih =>
      intro u
      obtain ⟨hstate, hpointer, hbuilt⟩ := u.closeTick_sound l k
      obtain ⟨h1, h2, h3⟩ := ih ((u.closeTick l).modLane l Lane.reported)
      refine ⟨h1.trans hstate, h2.trans hpointer, fun h => h3 ?_⟩
      rw [hbuilt]
      by_cases hk : k = l
      · exact .inr (if_pos hk)
      · rw [if_neg hk]
        exact h.imp (fun h => (List.mem_cons.mp h).resolve_left hk) id
  obtain ⟨hstate, hpointer, hbuilt⟩ := hfold fours s
  exact ⟨hbuilt (.inl (mem_fours k)), hstate, hpointer⟩

theorem KeepsAll.lossTick (h : s.KeepsAll u) : s.KeepsAll u.lossTick := by
  have hfold : ∀ (ls : List LaneId) (u : State), s.KeepsAll u →
      s.KeepsAll (ls.foldl (fun s l => s.modFtm l Monitor.lossTick) u) := by
    intro ls
    induction ls with
    | nil => exact fun _ h => h
    | cons l rest ih => exact fun u h => ih _ (h.modFtm_sameGate rfl rfl)
  exact hfold fours u h

theorem lossTick_lane (s : State) (k : LaneId) : (s.lossTick.lane k).sne = (s.lane k).sne ∧ s.lossTick.clock = s.clock := by
  have hfold : ∀ (ls : List LaneId) (u : State),
      ((ls.foldl (fun s l => s.modFtm l Monitor.lossTick) u).lane k).sne = (u.lane k).sne
        ∧ (ls.foldl (fun s l => s.modFtm l Monitor.lossTick) u).clock = u.clock := by
    intro ls
    induction ls with
    | nil => exact fun _ => ⟨rfl, rfl⟩
    | cons l rest ih =>
      intro u
      rw [List.foldl_cons, (ih _).1, (ih _).2, modFtm_lane_sne]
      exact ⟨rfl, rfl⟩
  exact hfold fours s


/-- The wall samples of the tick produced and its blocks closed, up to the clock's own tick. -/
def tickEnded (s : State) : State := (s.produceTo (48 * (s.clock.ticks + 1))).closeTicks.lossTick

theorem baseTick_eq (s : State) : s.baseTick = { s.tickEnded with
    clock := s.tickEnded.clock.tick, bcp := s.tickEnded.bcp.tick } := rfl

theorem lane_withClock (s : State) (c : Clock) (b : ControlPort) (l : LaneId) :
    ({ s with clock := c, bcp := b } : State).lane l = s.lane l := rfl

theorem lane_baseTick (s : State) (l : LaneId) : s.baseTick.lane l = s.tickEnded.lane l := by
  rw [baseTick_eq, lane_withClock]

theorem tick_counts (c : Clock) : c.tick.ticks = c.ticks + 1 ∧ c.tick.samples = c.samples
    ∧ c.tick.now = max c.now ((c.ticks + 1) * baseUnits) := by
  unfold Clock.tick
  dsimp only
  split
  · exact ⟨rfl, rfl, rfl⟩
  · split <;> exact ⟨rfl, rfl, rfl⟩

theorem Keeps.withTick (s : State) : s.Keeps { s with clock := s.clock.tick, bcp := s.bcp.tick } := by
  have hport : s.bcp.tick.part = s.bcp.part ∧ s.bcp.tick.cmds = s.bcp.cmds
      ∧ s.bcp.tick.overrunTags = s.bcp.overrunTags := by
    unfold ControlPort.tick
    split <;> exact ⟨rfl, rfl, rfl⟩
  obtain ⟨hpart, hcmds, htags⟩ := hport
  exact { windows := fun ⟨h1, h2, h3, h4⟩ => ⟨h1, h2, fun hl => hpart.trans (h3 hl), h4⟩
          ports := fun ⟨h1, h2, h3⟩ => ⟨hcmds ▸ h1, htags ▸ h2, h3⟩ }

theorem tickEnded_clock (s : State) : s.tickEnded.clock.ticks = s.clock.ticks ∧ s.tickEnded.clock.now = s.clock.now
    ∧ s.tickEnded.clock.samples = max s.clock.samples (48 * (s.clock.ticks + 1)) := by
  have hclosed := (Steady.closeTicks (s.produceTo (48 * (s.clock.ticks + 1)))).clock
  have hclock : s.tickEnded.clock = (s.produceTo (48 * (s.clock.ticks + 1))).clock :=
    ((lossTick_lane _ 0).2).trans hclosed
  rw [hclock]
  exact ⟨rfl, rfl, rfl⟩

/-- A base tick leaves each lane with nothing built of the tick that begins. -/
theorem TickBuilt.baseTick (h : s.TickBuilt) : s.baseTick.TickBuilt := by
  have hbuilt := h.produced (48 * (s.clock.ticks + 1))
  obtain ⟨hticks, hnow, hsamples⟩ := s.tickEnded_clock
  obtain ⟨hticks', hsamples', hnow'⟩ := tick_counts s.tickEnded.clock
  obtain ⟨hle, -, hhi, -⟩ := h
  have hall : max s.clock.samples (48 * (s.clock.ticks + 1)) = 48 * (s.clock.ticks + 1) := Nat.max_eq_right hhi
  rw [baseTick_eq, tickBuilt_iff]
  unfold State.nextBase at hle ⊢
  dsimp only
  rw [hticks', hsamples', hnow', hticks, hsamples, hnow, hall]
  refine ⟨⟨?_, Nat.le_refl _, Nat.mul_le_mul_left _ (Nat.le_succ _)⟩, fun l => ?_⟩
  · exact Nat.max_le.mpr ⟨hle.trans (Nat.mul_le_mul_right _ (Nat.le_succ _)),
      Nat.mul_le_mul_right _ (Nat.le_succ _)⟩
  · obtain ⟨hnil, hstate, hpointer⟩ := closeTicks_closed (s.produceTo (48 * (s.clock.ticks + 1))) l
    have hsne : (s.tickEnded.lane l).sne = ((s.produceTo (48 * (s.clock.ticks + 1))).closeTicks.lane l).sne :=
      (lossTick_lane _ l).1
    have hends : (s.tickEnded.lane l).sne.Built (s.clock.ticks + 1) (48 * (s.clock.ticks + 1)) := by
      rw [hsne]
      refine ⟨?_, fun w hw => ?_, fun hrun => ?_⟩
      · rw [hnil]
        exact Nat.zero_add _
      · rw [hnil] at hw
        exact nomatch hw
      · rw [hpointer]
        exact (hbuilt l).pointer (hstate.symm.trans hrun)
    exact hends

theorem KeepsAll.baseTick (s : State) : s.KeepsAll s.baseTick := by
  have hproduced : s.Keeps (s.produceTo (48 * (s.clock.ticks + 1))) := .produceTo s _
  have hclosed := Steady.closeTicks (s.produceTo (48 * (s.clock.ticks + 1)))
  have hlost := (KeepsAll.refl (s.produceTo (48 * (s.clock.ticks + 1))).closeTicks).lossTick
  refine { toKeeps := ?_, tick := TickBuilt.baseTick, holds := fun h => ?_, gates := fun h => ?_ }
  · exact ((hproduced.trans hclosed.toKeeps).trans hlost.toKeeps).trans (.withTick s.tickEnded)
  · have hquiet : (s.produceTo (48 * (s.clock.ticks + 1))).HoldsSilence := h.congr
      (fun l => by rw [lane_produceTo, Lane.samples_pl]) (fun l => by rw [lane_produceTo, Lane.samples_ftm]) rfl
    have hended : s.tickEnded.HoldsSilence := hlost.holds (hclosed.holds hquiet)
    exact hended.congr (fun l => congrArg Lane.pl (lane_baseTick s l)) (fun l => congrArg Lane.ftm (lane_baseTick s l))
      rfl
  · have hspaced : (s.produceTo (48 * (s.clock.ticks + 1))).GatesSpaced :=
      GatesSpaced.congr h fun l => by rw [lane_produceTo, Lane.samples_ftm]
    have hended : s.tickEnded.GatesSpaced := hlost.gates (hclosed.gates hspaced)
    exact hended.congr fun l => congrArg Lane.ftm (lane_baseTick s l)

/-! ### The clock's rows -/

theorem next_inj {a b : State} (h : (Host.Outcome.next a : Step) = .next b) : a = b := Host.Outcome.next.inj h

theorem execBaseTick_keeps {t : State} (h : execBaseTick s = .next t) : s.KeepsAll t := by
  obtain ⟨-, hnext⟩ := live_next h
  obtain rfl := next_inj hnext
  exact (((KeepsAll.refl s).takeOverdue.takeTimed 8).trans (.baseTick _)).trans (.settle _)

theorem execBoothSecond_keeps {t : State} (h : execBoothSecond s = .next t) : s.KeepsAll t := by
  obtain ⟨-, hnext⟩ := live_next h
  split at hnext
  · obtain rfl := next_inj hnext
    exact (KeepsAll.refl s).boothSecond
  · cases hnext

theorem execPulseLossExpiry_keeps {t : State} (h : execPulseLossExpiry l s = .next t) : s.KeepsAll t := by
  obtain ⟨-, hnext⟩ := live_next h
  split at hnext
  · obtain rfl := next_inj hnext
    exact (KeepsAll.refl s).lossExpiry.trans (.settle _)
  · cases hnext

/-- A timed event of a monitor, taken at its instant by an operation that keeps the invariants there. -/
theorem atInstant_keeps {t : State} {due : Monitor → Option Instant} {k : State → State}
    (h : atInstant s l due k = .next t)
    (hk : ∀ (v : State) (i : Instant), s.KeepsAll v → due (v.lane l).ftm = some i → s.KeepsAll (k v)) : s.KeepsAll t := by
  obtain ⟨-, i, -, hhorizon, hdue, rfl⟩ := atInstant_next h
  have hmoved := ((KeepsAll.refl s).caughtUp i).moveClock (t := i) (by
    rw [(s.caughtUp_sameTick i).nextBase]
    exact hhorizon.trans s.horizon_le)
  exact (hk _ i hmoved (by rw [clockTo_lane_ftm]; exact hdue)).trans (.settle _)

theorem execInjectedPulse_keeps {t : State} (h : execInjectedPulse l s = .next t) : s.KeepsAll t :=
  atInstant_keeps h fun _ _ hv _ => hv.injectedPulse

theorem execGateOverflow_keeps {t : State} (h : execGateOverflow l s = .next t) : s.KeepsAll t :=
  atInstant_keeps h fun _ _ hv hdue => hv.gateOverflow (Monitor.overflowAt_opened hdue)

theorem atSample_keeps {t : State} {due : Sound → Option Nat} (h : atSample s l due = .next t) : s.KeepsAll t := by
  obtain ⟨-, w, -, hbefore, -, rfl⟩ := atSample_next h
  have hmoved := ((KeepsAll.refl s).caughtUp (w * sampleUnits + 1)).moveClock (t := w * sampleUnits + 1) (by
    rw [(s.caughtUp_sameTick _).nextBase]
    exact (Nat.succ_le_of_lt hbefore).trans s.horizon_le)
  exact hmoved.trans (.settle _)

theorem execRawPulse_keeps {t : State} {c : ScreenId} {at_ : Instant} (h : execRawPulse c at_ s = .next t) :
    s.KeepsAll t := by
  rcases arriving_next h with ⟨-, rfl⟩ | ⟨-, hnext⟩
  · exact .refl _
  · have htaken := KeepsAll.takeAt s at_
    dsimp only at hnext
    split at hnext
    · obtain rfl := next_inj hnext
      exact htaken.trans (.settle _)
    · obtain rfl := next_inj hnext
      exact (KeepsAll.ite (fun _ => htaken) fun _ => htaken.pulse).trans (.settle _)

theorem execSoundReady_keeps {t : State} (h : execSoundReady s = .next t) : s.KeepsAll t := by
  rcases arriving_next h with ⟨-, rfl⟩ | ⟨-, hnext⟩
  · exact .refl _
  · split at hnext
    · obtain rfl := next_inj hnext
      exact (Calm.answerReady s).keepsAll
    · split at hnext
      · obtain rfl := next_inj hnext
        exact .refl s
      · cases hnext
        rename_i hq _
        exact (Calm.withLink (k := { s.link with ready := true, starved := satInc top32 s.link.starved })
          id fun h => h.2).keepsAll

end State
end Sys2Proof.Machine
end

section
/-! PROOF. Every step keeps the invariants: the port's rows, the returns, the start-up load and the resets, and the
statements. -/

namespace Sys2Proof.Machine

open Sys2Proof

namespace State

variable {s u v t : State} {l : LaneId}

/-! ### The control port's rows -/

theorem Calm.discardFrame (s : State) : s.Calm s.discardFrame :=
  (Calm.modBcp (f := fun b => { b with receiver := .hunting, gap := 0, linkErrors := satInc top16 b.linkErrors })
    rfl id id).trans (.raise _)

theorem Calm.receive (s : State) (r : Receiver) (gap : Nat) :
    s.Calm (s.modBcp fun b => { b with receiver := r, gap := gap }) := .modBcp rfl id id

theorem take_bounds (b : ControlPort) (kind : Nat) (tag : Byte) (body : List Byte) :
    (b.take kind tag body).part = b.part ∧ (b.cmds.length ≤ 4 → (b.take kind tag body).cmds.length ≤ 4)
      ∧ (b.overrunTags.length ≤ 4 → (b.take kind tag body).overrunTags.length ≤ 4) := by
  unfold ControlPort.take
  split
  · refine ⟨rfl, fun _ => ?_, id⟩
    rw [List.length_append]
    assumption
  · refine ⟨rfl, id, fun h => ?_⟩
    dsimp only
    split
    · rw [List.length_append]
      assumption
    · exact h

theorem Calm.judgeFrame (s : State) (bytes : List Byte) : s.Calm (s.judgeFrame bytes) := by
  refine .ite (fun _ => ?_) fun _ => .discardFrame s
  obtain ⟨hpart, hcmds, htags⟩ := take_bounds { s.bcp with receiver := .hunting, gap := 0 } (u8 bytes 2)
    (bytes.getD 3 0#8) ((bytes.take (bytes.length - 2)).drop 4)
  exact .modBcp hpart hcmds htags

theorem Calm.collect (s : State) (bytes : List Byte) : s.Calm (s.collect bytes) :=
  .ite (fun _ => .receive s _ _) fun _ => .ite (fun _ => .discardFrame s) fun _ =>
    .ite (fun _ => .receive s _ _) fun _ => .judgeFrame s bytes

theorem Calm.rxByte (s : State) (x : Byte) : s.Calm (s.rxByte x) := by
  have hfirst : s.Calm (if s.bcp.overdue then s.discardFrame else s) := .ite (fun _ => .discardFrame s) fun _ => .refl s
  unfold State.rxByte
  dsimp only
  split
  · exact .ite (fun _ => hfirst.trans (.receive _ _ _)) fun _ => hfirst
  · exact hfirst.trans (.collect _ _)

theorem Calm.sendFrame (s : State) (f : HostFrame) : s.Calm (s.sendFrame f) :=
  (Calm.modBcp (f := fun b => { b with line := some f }) rfl id id).trans (.emit _)

theorem Calm.sendNotice (s : State) : s.Calm s.sendNotice :=
  .ite (fun _ => (Calm.withNtu { s.ntu with outstanding := false, number := (s.ntu.number + 1) % 256 }).trans
    (.sendFrame _ _)) fun _ => .withNtu { s.ntu with outstanding := false }

theorem Calm.nextFrame (s : State) : s.Calm s.nextFrame := by
  unfold State.nextFrame
  split
  · rename_i tag rest htags
    refine (Calm.modBcp rfl id fun h => ?_).trans (.sendFrame _ _)
    rw [htags, List.length_cons] at h
    exact Nat.le_of_succ_le h
  · split
    · rename_i hcmds
      refine (Calm.modBcp rfl (fun h => ?_) id).trans (.sendFrame _ _)
      rw [hcmds, List.length_cons] at h
      exact Nat.le_of_succ_le h
    · exact .ite (fun _ => .sendNotice s) fun _ => .refl s

theorem Calm.lineFreed (s : State) : s.Calm s.lineFreed := .modBcp rfl id id

/-! ### Returns -/

theorem Calm.readInto (s : State) (l : LaneId) (slot item frame : Nat) (sound : Bool) (r : Returned) :
    s.Calm (s.readInto l slot item frame sound r) := by
  unfold State.readInto
  split
  · exact .refl s
  · rename_i b _ e _
    refine .ite (fun _ => ?_) fun _ => .refl s
    have hread : s.Calm (s.modPl l fun p => { p with buffer := p.buffer.map (fun x =>
        if x.num = slot then x.returned e.record.decl.slotBlocks sound r else x) }) :=
      .modPl rfl rfl fun ⟨hq, hb, hh⟩ => ⟨hq, by simpa using hb, hh⟩
    exact .ite (fun _ => hread.trans (.modStats _)) fun _ => hread

theorem Calm.cueReturned (s : State) (l : LaneId) (bank : BankId) (item reel index : Nat) (r : Returned) :
    s.Calm (s.cueReturned l bank item reel index r) :=
  .ite (fun _ => (Calm.modSce _).trans (.modStats _)) fun _ => .modSce _

/-- A return, whose requester keeps the invariants. -/
theorem withOperation_keeps {index : Nat} {k : Operation → State → Option State}
    (h : withOperation s index k = .next t) (hk : ∀ o v, s.KeepsAll v → ∀ w, k o v = some w → s.KeepsAll w) :
    s.KeepsAll t := by
  rcases withOperation_next h with ⟨-, rfl⟩ | ⟨-, o, w, -, hw, rfl⟩
  · exact .refl _
  · exact (hk o _ (Calm.returned s index o).keepsAll w hw).trans (.settle w)

theorem execChunkWriteReturn_keeps {op : Nat} {ok : Bool} (h : execChunkWriteReturn op ok s = .next t) : s.KeepsAll t :=
  withOperation_keeps h fun o v hv w hw => by
    split at hw
    · split at hw
      · obtain rfl := Option.some.inj hw
        exact hv.calm (.passOn v _)
      · obtain rfl := Option.some.inj hw
        exact (hv.calm (.countFaultAt v _ _)).calm (.chunkReturn _ _ ok)
    all_goals cases hw

theorem execCatalogueWriteReturn_keeps {op : Nat} {ok : Bool} (h : execCatalogueWriteReturn op ok s = .next t) :
    s.KeepsAll t :=
  withOperation_keeps h fun o v hv w hw => by
    split at hw
    · split at hw
      · obtain rfl := Option.some.inj hw
        exact hv
      · obtain rfl := Option.some.inj hw
        exact hv.calm (.slotWriteFault v _ _)
    all_goals cases hw

theorem execLaneReadReturn_keeps {op : Nat} {r : Returned} {at_ : Instant}
    (h : execLaneReadReturn op r at_ s = .next t) : s.KeepsAll t :=
  withOperation_keeps h fun o v hv w hw => by
    dsimp only at hw
    split at hw
    · have htaken := hv.trans (.takeAt v at_)
      split at hw
      · obtain rfl := Option.some.inj hw
        exact htaken.completeReset
      · obtain rfl := Option.some.inj hw
        have hcounted := htaken.calm (.countFaultAt _ o.first (readFailed r))
        exact (KeepsAll.ite (fun _ => hcounted.calm (.readInto _ _ _ _ _ _ r)) fun _ => hcounted).completeReset
    all_goals cases hw

theorem execCueReadReturn_keeps {op : Nat} {r : Returned} (h : execCueReadReturn op r s = .next t) : s.KeepsAll t :=
  withOperation_keeps h fun o v hv w hw => by
    dsimp only at hw
    split at hw
    · split at hw
      · obtain rfl := Option.some.inj hw
        exact hv.completeReset
      · obtain rfl := Option.some.inj hw
        have hcounted := hv.calm (.countFaultAt v o.first (readFailed r))
        exact (KeepsAll.ite (fun _ => hcounted.calm (.cueReturned _ _ _ _ _ _ r)) fun _ => hcounted).completeReset
    all_goals cases hw

theorem execChunkOffer_keeps {frame : List Byte} (h : execChunkOffer frame s = .next t) : s.KeepsAll t := by
  rcases arriving_next h with ⟨-, rfl⟩ | ⟨-, hnext⟩
  · exact .refl _
  · split at hnext
    · obtain rfl := next_inj hnext
      exact .refl _
    · obtain rfl := next_inj hnext
      exact (Calm.offer s _).keepsAll.trans (.settle _)

theorem execTicketExpiry_keeps (h : execTicketExpiry s = .next t) : s.KeepsAll t := by
  obtain ⟨-, hnext⟩ := live_next h
  split at hnext
  · obtain rfl := next_inj hnext
    exact (Calm.expireTickets s).keepsAll.trans (.settle _)
  · cases hnext

/-! ### The start-up load -/

/-- The load moved on while it runs. -/
theorem KeepsAll.loadAt (h : s.KeepsAll u) (x : Load) (hwas : s.WindowsApart → u.stc.load ≠ .idle)
    (hx : s.WindowsApart → x = .awaitingPort ∨ x = .capacityRead → u.stc.windows = []) :
    s.KeepsAll (u.loadAt x) where
  windows hw :=
    let ⟨h1, h2, h3, _⟩ := h.windows hw
    ⟨h1, h2, fun _ => h3 (hwas hw), hx hw⟩
  stores := h.stores
  licences := h.licences
  log := h.log
  ports := h.ports
  lanes := h.lanes
  samples := h.samples
  tick := h.tick
  holds := h.holds
  gates := h.gates

/-- The load moved on to a place behind the reading of the capacity. -/
theorem KeepsAll.loadOn (h : s.KeepsAll u) {x : Load} (hwas : u.stc.load ≠ .idle)
    (hx : x ≠ .awaitingPort ∧ x ≠ .capacityRead) : s.KeepsAll (u.loadAt x) :=
  h.loadAt x (fun _ => hwas) fun _ hor => (hor.elim hx.1 hx.2).elim

theorem KeepsAll.loadRead (h : s.KeepsAll u) {x : Load} (first count : Nat) (hwas : u.stc.load ≠ .idle)
    (hx : x ≠ .awaitingPort ∧ x ≠ .capacityRead) : s.KeepsAll (u.loadRead x first count) :=
  (h.loadOn hwas hx).calm (.emit _)

theorem KeepsAll.loadWrite (h : s.KeepsAll u) {x : Load} (first : Nat) (image : List Byte) (hwas : u.stc.load ≠ .idle)
    (hx : x ≠ .awaitingPort ∧ x ≠ .capacityRead) : s.KeepsAll (u.loadWrite x first image) :=
  (h.loadOn hwas hx).calm (.emit _)

/-- The storage controller at the end of the load (R21). -/
theorem Calm.idleLoad (s : State) : s.Calm (s.modStc fun c => { c with load := .idle, draining := [], guard := 0 }) :=
  .modStc (fun ⟨h1, h2, _, _⟩ => ⟨h1, h2, fun h => absurd rfl h, nofun⟩) fun h => h

theorem KeepsAll.ready (h : s.KeepsAll u) (hidle : u.stc.load = .idle) :
    s.KeepsAll (u.modBcp fun b => { b with part := .ready }) :=
  h.trans { windows := fun ⟨h1, h2, _, h4⟩ => ⟨h1, h2, fun hl => absurd hidle hl, h4⟩ }

theorem KeepsAll.loadEnd (h : s.KeepsAll u) : s.KeepsAll u.loadEnd :=
  ((h.calm (.idleLoad u)).ready rfl).trans (.settle _)

theorem Calm.withStatus (s : State) (x : Option CatalogueStatus) : s.Calm (s.modStc fun c => { c with status := x }) :=
  .modStc id id

theorem KeepsAll.unavailable (h : s.KeepsAll u) : s.KeepsAll u.unavailable :=
  KeepsAll.loadEnd ((h.calm (.withStatus u _)).calm (.catalogueFault _))

/-- A capacity read, while no window stands (R18). -/
theorem Calm.withCapacity (s : State) (n : Nat) (h : s.stc.load = .capacityRead) :
    s.Calm (s.modStc fun c => { c with capacity := n }) :=
  .modStc (fun ⟨_, h2, h3, h4⟩ => by
    have hnil : s.stc.windows = [] := h4 (.inr h)
    refine ⟨fun w hw => ?_, h2, h3, h4⟩
    change w ∈ s.stc.windows at hw
    rw [hnil] at hw
    exact nomatch hw) id

theorem KeepsAll.noCapacity (h : u.stc.load = .capacityRead) : u.KeepsAll u.noCapacity :=
  (Calm.withCapacity u 0 h).keepsAll.unavailable

theorem KeepsAll.formatOn (h : s.KeepsAll u) (slot : Nat) (hwas : u.stc.load ≠ .idle) :
    s.KeepsAll (u.formatOn slot) :=
  .ite (fun _ => h.loadWrite _ _ hwas ⟨nofun, nofun⟩) fun _ => h.loadEnd

theorem KeepsAll.readOn (h : s.KeepsAll u) (slot : Nat) (hwas : u.stc.load ≠ .idle) : s.KeepsAll (u.readOn slot) :=
  .ite (fun _ => h.loadRead _ _ hwas ⟨nofun, nofun⟩) fun _ => h.loadEnd

theorem KeepsAll.emptySlot (h : s.KeepsAll u) (slot : Nat) (retry : Bool) (hwas : u.stc.load ≠ .idle) :
    s.KeepsAll (u.emptySlot slot retry) := h.loadWrite _ _ hwas ⟨nofun, nofun⟩

theorem KeepsAll.formatSlot (h : s.KeepsAll u) (slot : Nat) (retry : Bool) (hwas : u.stc.load ≠ .idle) :
    s.KeepsAll (u.formatSlot slot retry) := h.loadWrite _ _ hwas ⟨nofun, nofun⟩

theorem KeepsAll.dropSlot (h : s.KeepsAll u) (slot : Nat) (hwas : u.stc.load ≠ .idle) :
    s.KeepsAll (u.dropSlot slot) :=
  (h.calm (.catalogueFault u)).emptySlot slot false hwas

theorem KeepsAll.loadWriteDone (h : s.KeepsAll u) : s.KeepsAll u.loadWriteDone := by
  unfold State.loadWriteDone
  split
  · rename_i hload
    exact h.formatSlot 0 false (by rw [hload]; exact nofun)
  · rename_i hload
    exact h.formatOn _ (by rw [hload]; exact nofun)
  · rename_i hload
    exact h.readOn _ (by rw [hload]; exact nofun)
  all_goals exact h

theorem KeepsAll.loadWriteFault (h : s.KeepsAll u) : s.KeepsAll u.loadWriteFault := by
  have hfault := h.calm (.catalogueFault u)
  unfold State.loadWriteFault
  dsimp only
  split
  case h_1 hload => exact hfault.loadWrite _ _ (by rw [hload]; exact nofun) ⟨nofun, nofun⟩
  case h_2 => exact KeepsAll.loadEnd (hfault.calm (.withStatus _ _))
  case h_3 hload => exact hfault.formatSlot _ _ (by rw [hload]; exact nofun)
  case h_4 hload => exact hfault.formatOn _ (by rw [hload]; exact nofun)
  case h_5 hload => exact hfault.emptySlot _ _ (by rw [hload]; exact nofun)
  case h_6 hload => exact hfault.readOn _ (by rw [hload]; exact nofun)
  all_goals exact hfault

/-! ### Restored slots (R20) -/

/-- What an image must be to be restored: the facts of R20 that its entry's window keeps. -/
theorem restoreSlot_eq_some {c : Storage} {m : SlotImage} {e : TableEntry} (h : restoreSlot c m = some e) :
    m.decl.inRange = true ∧ e.window.packageId = m.packageId ∧ e.window.base = m.base ∧ e.window.limit = m.limit
      ∧ m.limit + 1 = m.base + m.decl.windowSize ∧ 4096 ≤ m.base ∧ m.limit < c.capacity
      ∧ ∀ w ∈ c.windows, w.packageId ≠ m.packageId ∧ (w.limit < m.base ∨ m.limit < w.base) := by
  unfold restoreSlot at h
  split at h
  · cases h
  · dsimp only at h
    split at h
    · rename_i hok
      obtain ⟨tracks, -, rfl⟩ := Option.map_eq_some_iff.mp h
      simp only [Bool.and_eq_true, SlotImage.placedIn, decide_eq_true_eq, beq_iff_eq, List.all_eq_true,
        Bool.not_eq_true', bne_iff_ne, Window.meets, Bool.and_eq_false_iff, decide_eq_false_iff_not] at hok
      obtain ⟨⟨hrange, -⟩, ⟨⟨⟨hsize, -⟩, hlow⟩, hcap⟩, hclash⟩ := hok
      refine ⟨hrange, rfl, rfl, rfl, hsize, hlow, hcap, fun w hw => ⟨(hclash w hw).2, ?_⟩⟩
      have hmeets := (hclash w hw).1
      change ¬ w.base ≤ m.limit ∨ ¬ m.base ≤ w.limit at hmeets
      omega
    · cases h

theorem inRange_windowSize_pos {d : Declaration} (h : d.inRange = true) : 0 < d.windowSize := by
  unfold Declaration.inRange at h
  simp only [Bool.and_eq_true, decide_eq_true_eq, List.all_eq_true] at h
  obtain ⟨⟨⟨⟨⟨⟨⟨⟨-, -⟩, -⟩, hblocks⟩, -⟩, -⟩, hreels⟩, -⟩, hall⟩ := h
  refine windowSize_pos (fun hnil => ?_) (fun r hr => (hall r hr).1.1) hblocks
  rw [hnil] at hreels
  cases hreels

theorem Calm.restored (s : State) (slot : Nat) {m : SlotImage} {e : TableEntry} (hload : s.stc.load = .slotRead slot)
    (h : restoreSlot s.stc m = some e) :
    s.Calm (s.modStc fun c => { c with table := modifyAt (fun _ => some e) slot c.table }) := by
  obtain ⟨hrange, hpid, hbase, hlimit, hsize, hlow, hcap, hclash⟩ := restoreSlot_eq_some h
  have hpos := inRange_windowSize_pos hrange
  refine .putEntry s slot e (fun _ => ?_) (fun _ p hp => ?_) fun _ hl => ?_
  · rw [hbase, hlimit]
    omega
  · obtain ⟨x, hx, rfl⟩ := (mem_places _ _).mp hp
    obtain ⟨howner, hmeet⟩ := hclash x.window (List.mem_filterMap.mpr ⟨some x, hx, rfl⟩)
    refine ⟨?_, fun heq => howner (heq.symm.trans hpid)⟩
    change e.window.limit < x.window.base ∨ x.window.limit < e.window.base
    rw [hbase, hlimit]
    exact hmeet.symm
  · rw [hload] at hl
    rcases hl with hl | hl <;> cases hl

theorem testComplete_load (s : State) (pid : Nat) : (s.testComplete pid).stc.load = s.stc.load := by
  unfold State.testComplete
  split
  · rfl
  · split
    · rw [raise_stc, modStc_stc, Storage.request_eq]
      rfl
    · rfl

theorem KeepsAll.judgeSlot {slot : Nat} (hload : s.stc.load = .slotRead slot) (m : SlotImage) :
    s.KeepsAll (s.judgeSlot slot m) := by
  have h := KeepsAll.refl s
  have hwas : s.stc.load ≠ .idle := by rw [hload]; exact nofun
  unfold State.judgeSlot
  refine .ite (fun _ => h.readOn _ hwas) fun _ => .ite (fun _ => h.emptySlot _ _ hwas) fun _ => ?_
  split
  · exact h.dropSlot slot hwas
  · rename_i e hrestore
    refine ((Calm.restored s slot hload hrestore).trans (.testComplete _ m.packageId)).keepsAll.readOn _ ?_
    rw [testComplete_load]
    exact hwas

theorem execStartupLoadBegin_keeps (h : execStartupLoadBegin s = .next t) : s.KeepsAll t := by
  obtain ⟨-, hnext⟩ := live_next h
  split at hnext
  · rename_i hload
    obtain rfl := next_inj hnext
    have hmoved := (KeepsAll.refl s).loadAt .capacityRead (fun _ => by rw [hload.1]; exact nofun)
      fun hw _ => hw.2.2.2 (.inl hload.1)
    exact hmoved.calm (.emit _)
  · cases hnext

theorem execCapacityReadReturn_keeps {blocks : Nat} (h : execCapacityReadReturn blocks s = .next t) : s.KeepsAll t := by
  obtain ⟨-, hnext⟩ := live_next h
  split at hnext
  · rename_i hload
    split at hnext
    · obtain rfl := next_inj hnext
      exact .noCapacity hload
    · obtain rfl := next_inj hnext
      exact (Calm.withCapacity s _ hload).keepsAll.loadRead _ _ (by rw [modStc_stc, hload]; exact nofun)
        ⟨nofun, nofun⟩
  · cases hnext

theorem execCapacityReadNoAnswer_keeps (h : execCapacityReadNoAnswer s = .next t) : s.KeepsAll t := by
  obtain ⟨-, hnext⟩ := live_next h
  split at hnext
  · obtain rfl := next_inj hnext
    exact .noCapacity ‹_›
  · cases hnext

theorem execHeaderReadReturn_keeps {r : Returned} (h : execHeaderReadReturn r s = .next t) : s.KeepsAll t := by
  obtain ⟨-, hnext⟩ := live_next h
  split at hnext
  · rename_i hload
    have hwas : s.stc.load ≠ .idle := by rw [hload]; exact nofun
    split at hnext
    · obtain rfl := next_inj hnext
      exact (KeepsAll.refl s).unavailable
    · split at hnext
      · obtain rfl := next_inj hnext
        exact (Calm.withStatus s _).keepsAll.readOn 0 hwas
      · obtain rfl := next_inj hnext
        exact (Calm.withStatus s _).keepsAll.loadWrite _ _ hwas ⟨nofun, nofun⟩
  · cases hnext

theorem execFormatWriteReturn_keeps {ok : Bool} (h : execFormatWriteReturn ok s = .next t) : s.KeepsAll t := by
  obtain ⟨-, hnext⟩ := live_next h
  split at hnext
  · obtain rfl := next_inj hnext
    exact .ite (fun _ => (KeepsAll.refl s).loadWriteDone) fun _ => (KeepsAll.refl s).loadWriteFault
  · cases hnext

theorem execSlotReadReturn_keeps {r : Returned} (h : execSlotReadReturn r s = .next t) : s.KeepsAll t := by
  obtain ⟨-, hnext⟩ := live_next h
  split at hnext
  · rename_i slot hload
    have hdrop := (KeepsAll.refl s).dropSlot slot (by rw [hload]; exact nofun)
    split at hnext
    · obtain rfl := next_inj hnext
      exact hdrop
    · split at hnext
      · obtain rfl := next_inj hnext
        exact hdrop
      · obtain rfl := next_inj hnext
        exact .judgeSlot hload _
  all_goals cases hnext

/-! ### The resets -/

@[simp] theorem reset_lane (l : LaneId) : State.reset.lane l = Lane.reset l := Quad.get_ofFn _ l

theorem powerOn_lane (s : State) (pin : Bool) (l : LaneId) : (s.powerOn pin).lane l = Lane.reset l := reset_lane l

/-- The power-on values meet every invariant, whatever stands in the queue of commands and has been sent. -/
theorem powerOn_invariants (s : State) (pin : Bool) :
    (s.powerOn pin).HoldsSilence ∧ (s.powerOn pin).LicencesConserved ∧ (s.powerOn pin).WindowsApart
      ∧ (s.powerOn pin).SamplesInRange ∧ (s.powerOn pin).PortsBounded ∧ (s.powerOn pin).StoresBounded
      ∧ (s.powerOn pin).LanesBounded ∧ (s.powerOn pin).GatesSpaced ∧ (s.powerOn pin).LogBounded
      ∧ (s.powerOn pin).TickBuilt := by
  refine ⟨⟨fun l k c => ?_, fun l _ => ?_, fun l => ?_⟩, ⟨List.nodup_nil, nofun, nofun⟩,
    ⟨nofun, List.Pairwise.nil, fun _ => rfl, fun _ => rfl⟩, ⟨fun l => ?_, nofun⟩,
    ⟨Nat.zero_le _, Nat.zero_le _, Nat.zero_le _⟩, ⟨rfl, Nat.zero_le _, rfl, Nat.zero_le _, List.nodup_nil⟩,
    fun l => ?_, fun l => ?_, ⟨Nat.zero_le _, nofun⟩, ⟨Nat.zero_le _, Nat.zero_le _, Nat.zero_le _, fun l => ?_⟩⟩
  case refine_1 =>
    rw [powerOn_lane, powerOn_lane]
    exact fun h1 h2 => Option.some.inj (h1.trans h2.symm)
  all_goals rw [powerOn_lane]
  case refine_2 => exact .inl rfl
  case refine_3 => exact nofun
  case refine_4 => exact nofun
  case refine_5 => exact ⟨Nat.zero_le _, Nat.zero_le _, Nat.zero_le _⟩
  case refine_6 => exact ⟨nofun, nofun⟩
  case refine_7 => exact ⟨rfl, nofun, nofun⟩

theorem KeepsAll.powerOn (s u : State) (pin : Bool) : s.KeepsAll (u.powerOn pin) :=
  let ⟨h1, h2, h3, h4, h5, h6, h7, h8, h9, h10⟩ := u.powerOn_invariants pin
  { windows := fun _ => h3, stores := fun _ => h6, licences := fun _ => h2, log := fun _ => h9, ports := fun _ => h5,
    lanes := fun _ => h7, samples := fun _ => h4, tick := fun _ => h10, holds := fun _ => h1, gates := fun _ => h8 }

/-- A lane that does nothing does nothing behind the completion of a reset. -/
theorem completeReset_quiet (s : State) (l k : LaneId) (h : (s.lane k).pl.state.stoppable = false) :
    ((s.completeReset l).lane k).pl.state.stoppable = false := by
  rcases s.completeReset_cases l with heq | ⟨-, -, heq⟩
  · rw [heq]
    exact h
  · rw [heq, (Calm.raiseLane l srcLaneReady).state, lane_modPl]
    split
    · rfl
    · exact h

/-- Every lane reset: none does anything but wait for its reads (R104, R105). -/
theorem resetLanes_quiet (s : State) (k : LaneId) : (s.resetLanes.lane k).pl.state.stoppable = false := by
  have hfold : ∀ (ls : List LaneId) (u : State), k ∈ ls ∨ (u.lane k).pl.state.stoppable = false →
      ((ls.foldl (fun s l => s.resetLane l .softReset) u).lane k).pl.state.stoppable = false := by
    intro ls
    induction ls with
    | nil => exact fun u h => h.resolve_left nofun
    | cons l rest ih =>
      intro u h
      rw [List.foldl_cons]
      refine ih _ ?_
      by_cases hk : k = l
      · refine .inr (completeReset_quiet _ l k ?_)
        rw [(u.beginReset_lane l k .softReset false).2, if_pos hk]
        rfl
      · refine h.imp (fun h => (List.mem_cons.mp h).resolve_left hk) fun h => completeReset_quiet _ l k ?_
        rw [(u.beginReset_lane l k .softReset false).2, if_neg hk]
        exact h
  exact hfold fours s (.inl (mem_fours k))

theorem KeepsAll.resetLanes (h : s.KeepsAll u) : s.KeepsAll u.resetLanes := by
  have hfold : ∀ (ls : List LaneId) (u : State), s.KeepsAll u →
      s.KeepsAll (ls.foldl (fun s l => s.resetLane l .softReset) u) := by
    intro ls
    induction ls with
    | nil => exact fun _ h => h
    | cons l rest ih => exact fun u h => ih _ (h.resetLane .softReset)
  exact hfold fours u h

/-- A soft reset's last part, behind the lane resets (R23, R108, R128, R163, R178, R199). -/
def cleared (s : State) : State :=
  { s with
    lanes := Quad.ofFn (fun l => (s.lane l).afterSoftReset l), held := ⟨true, true, true, true⟩,
    link := .reset, stc := s.stc.afterSoftReset,
    bcp := { s.bcp with part := .startingUp, resetDue := false } }

theorem softReset_eq (s : State) :
    s.softReset = (({ s with ntu := .reset } : State).abandonIngest.resetLanes).cleared := rfl

theorem cleared_lane (s : State) (l : LaneId) : s.cleared.lane l = (s.lane l).afterSoftReset l := Quad.get_ofFn _ l

theorem KeepsAll.cleared (h : s.KeepsAll u) (hquiet : ∀ l, (u.lane l).pl.state.stoppable = false) :
    s.KeepsAll u.cleared where
  windows _ := by
    have hnil : u.cleared.stc.windows = [] := rfl
    exact ⟨by rw [hnil]; exact nofun, by rw [hnil]; exact List.Pairwise.nil, fun _ => rfl, fun _ => hnil⟩
  stores hs :=
    let ⟨_, h2, h3, h4, _⟩ := h.stores hs
    ⟨rfl, h2, h3, h4, List.nodup_nil⟩
  licences := h.licences
  log := h.log
  ports hs :=
    let ⟨h1, h2, _⟩ := h.ports hs
    ⟨h1, h2, Nat.zero_le _⟩
  lanes hs l := by
    rw [cleared_lane]
    exact h.lanes hs l
  samples _ := ⟨fun l v hv => by
    rw [cleared_lane] at hv
    obtain ⟨_, _, rfl⟩ := List.mem_map.mp hv
    exact Sound.carry_inRange _ _ _, nofun⟩
  tick ht := by
    have hbuilt := h.tick ht
    rw [tickBuilt_iff] at hbuilt ⊢
    refine ⟨hbuilt.1, fun l => ?_⟩
    rw [cleared_lane]
    refine ⟨?_, fun v hv => ?_, nofun⟩
    · change ((u.lane l).sne.built.map _).length + _ = _
      rw [List.length_map]
      exact (hbuilt.2 l).count
    · obtain ⟨_, _, rfl⟩ := List.mem_map.mp hv
      exact Sound.carry_length _ _ _
  holds _ := by
    refine ⟨fun l k c => ?_, fun l _ => ?_, fun l => ?_⟩
    · rw [cleared_lane, cleared_lane]
      exact fun h1 h2 => Option.some.inj (h1.trans h2.symm)
    · rw [cleared_lane]
      exact (LaneState.stoppable_eq_false _).mp (hquiet l)
    · rw [cleared_lane]
      exact nofun
  gates _ l := by
    rw [cleared_lane]
    exact ⟨nofun, nofun⟩

theorem KeepsAll.softReset (h : s.KeepsAll u) : s.KeepsAll u.softReset := by
  have habandoned := (h.calm (.withNtu .reset)).calm (.modPka (f := fun p =>
    { p with staging := p.staging.map Staging.abandoned, order := [], tickets := [], outstanding := 0 })
    (List.length_map _) fun _ => Nat.zero_le _)
  rw [softReset_eq]
  exact (habandoned.calm (.emit .linkReset)).resetLanes.cleared (resetLanes_quiet _)

theorem execSoftResetProceed_keeps {at_ : Instant} (h : execSoftResetProceed at_ s = .next t) : s.KeepsAll t := by
  obtain ⟨-, hnext⟩ := live_next h
  split at hnext
  · obtain rfl := next_inj hnext
    have hleft : s.Calm (if s.bcp.doneLeaving then s.modBcp (fun b => { b with line := none }) else s) :=
      .ite (fun _ => .modBcp rfl id id) fun _ => .refl s
    exact ((hleft.keepsAll.trans (.takeAt _ at_)).softReset).trans (.settle _)
  · cases hnext

/-! ### The port's rows as steps -/

theorem execTransmitLineFree_keeps (h : execTransmitLineFree s = .next t) : s.KeepsAll t := by
  obtain ⟨-, hnext⟩ := live_next h
  obtain rfl := next_inj hnext
  exact ((Calm.lineFreed s).trans (.nextFrame _)).keepsAll

theorem execUnknownKind_keeps (h : execUnknownKind s = .next t) : s.KeepsAll t := by
  obtain ⟨-, hnext⟩ := live_next h
  split at hnext
  · cases hnext
  · split at hnext
    · cases hnext
    · obtain rfl := next_inj hnext
      exact (Calm.reply _).keepsAll

theorem execFrameByteTimeout_keeps (h : execFrameByteTimeout s = .next t) : s.KeepsAll t := by
  obtain ⟨-, hnext⟩ := live_next h
  split at hnext
  · obtain rfl := next_inj hnext
    exact (Calm.discardFrame s).keepsAll
  · cases hnext

theorem execSyncByteReceived_keeps (h : execSyncByteReceived s = .next t) : s.KeepsAll t := by
  rcases arriving_next h with ⟨-, rfl⟩ | ⟨-, hnext⟩
  · exact .refl _
  · obtain rfl := next_inj hnext
    exact (Calm.rxByte s _).keepsAll

theorem execCommandFrameReceived_keeps {bytes : List Byte} (h : execCommandFrameReceived bytes s = .next t) :
    s.KeepsAll t := by
  rcases arriving_next h with ⟨-, rfl⟩ | ⟨-, hnext⟩
  · exact .refl _
  · obtain rfl := next_inj hnext
    exact (Calm.foldl Calm.rxByte bytes s).keepsAll

/-! ### Host commands -/

/-- A host command whose owner keeps the invariants at a part that takes it. -/
theorem runCommand_keeps {kind : Nat} {owner : List Byte → State → Answer} (h : runCommand kind s owner = .next t)
    (howner : (s.bcp.part = .startingUp → kind = 0x80) → ∀ body, s.KeepsAll (owner body s).state) :
    s.KeepsAll t := by
  obtain ⟨-, c, -, -, ⟨-, -, rfl⟩ | ⟨hready, rfl⟩⟩ := runCommand_next h
  · exact (Calm.reply _).keepsAll.trans (.settle _)
  · exact (howner (fun hpart => by_contra fun hkind => hready ⟨hpart, hkind⟩) c.body).trans (.settle _)

theorem runCommandAt_keeps {kind : Nat} {at_ : Instant} {owner : List Byte → State → Answer}
    (h : runCommandAt kind at_ s owner = .next t)
    (howner : ∀ (u : State) body, s.KeepsAll u → s.KeepsAll (owner body u).state) : s.KeepsAll t :=
  runCommand_keeps h fun _ body => howner _ body (.takeAt s at_)

theorem execDeclarePackage_keeps (h : execDeclarePackage s = .next t) : s.KeepsAll t :=
  runCommand_keeps h fun hkind body => .declarePackage (fun hw => by
    by_contra hload
    cases hkind (hw.2.2.1 hload)) body

/-- Every row keeps every invariant. -/
theorem exec_keeps {i : Instr} (h : exec i s = .next t) : s.KeepsAll t := by
  have hrefl := KeepsAll.refl s
  cases i with
  | powerOnReset => exact next_inj h ▸ .powerOn s s false
  | resetPinAsserted => exact next_inj h ▸ .powerOn s s true
  | startupLoadBegin => exact execStartupLoadBegin_keeps h
  | capacityReadReturn blocks => exact execCapacityReadReturn_keeps h
  | capacityReadNoAnswer => exact execCapacityReadNoAnswer_keeps h
  | headerReadReturn r => exact execHeaderReadReturn_keeps h
  | formatWriteReturn ok => exact execFormatWriteReturn_keeps h
  | slotReadReturn r => exact execSlotReadReturn_keeps h
  | commandFrameReceived bytes => exact execCommandFrameReceived_keeps h
  | syncByteReceived => exact execSyncByteReceived_keeps h
  | frameByteTimeout => exact execFrameByteTimeout_keeps h
  | unknownKind => exact execUnknownKind_keeps h
  | transmitLineFree => exact execTransmitLineFree_keeps h
  | softResetProceed at_ => exact execSoftResetProceed_keeps h
  | queryWindows =>
    exact runCommand_keeps (show execQueryWindows s = .next t from h) fun _ _ => hrefl.fixedLength (hrefl.done _)
  | retirePackage =>
    exact runCommand_keeps (show execRetirePackage s = .next t from h)
      fun _ _ => hrefl.fixedLength (hrefl.retirePackage _)
  | declarePackage => exact execDeclarePackage_keeps h
  | abortPackage =>
    exact runCommand_keeps (show execAbortPackage s = .next t from h)
      fun _ _ => hrefl.fixedLength (hrefl.abortPackage _)
  | queryPackage =>
    exact runCommand_keeps (show execQueryPackage s = .next t from h)
      fun _ _ => hrefl.fixedLength (hrefl.queryPackage _ _)
  | setIngest =>
    exact runCommand_keeps (show execSetIngest s = .next t from h) fun _ _ => hrefl.fixedLength (hrefl.setIngest _)
  | loadLicence =>
    exact runCommand_keeps (show execLoadLicence s = .next t from h) fun _ _ => hrefl.fixedLength (hrefl.loadLicence _)
  | revokeLicence at_ =>
    exact runCommandAt_keeps (show execRevokeLicence at_ s = .next t from h)
      fun _ _ hu => hu.fixedLength (hu.revokeLicence _ _)
  | queryLicence =>
    exact runCommand_keeps (show execQueryLicence s = .next t from h)
      fun _ _ => hrefl.fixedLength (hrefl.queryLicence _)
  | readLog =>
    exact runCommand_keeps (show execReadLog s = .next t from h) fun _ _ => hrefl.fixedLength (hrefl.readLog _ _)
  | collectLog =>
    exact runCommand_keeps (show execCollectLog s = .next t from h) fun _ _ => hrefl.fixedLength (hrefl.collectLog _)
  | goLive => exact runCommand_keeps (show execGoLive s = .next t from h) fun _ _ => hrefl.fixedLength hrefl.goLive
  | assignLane at_ =>
    exact runCommandAt_keeps (show execAssignLane at_ s = .next t from h) fun _ _ hu => hu.laneCommand
      fun l => hu.assignLane l _
  | holdScreen at_ =>
    exact runCommandAt_keeps (show execHoldScreen at_ s = .next t from h) fun _ _ hu => hu.laneCommand
      fun l => hu.holdScreen l
  | releaseScreen =>
    exact runCommand_keeps (show execReleaseScreen s = .next t from h) fun _ _ => hrefl.laneCommand
      fun l => hrefl.releaseScreen l
  | appendItem =>
    exact runCommand_keeps (show execAppendItem s = .next t from h)
      fun _ body => by
      split
      · exact hrefl.refused _
      · exact hrefl.onLane fun l => hrefl.appendItem l body
  | removeItem =>
    exact runCommand_keeps (show execRemoveItem s = .next t from h) fun _ _ => hrefl.laneCommand
      fun l => hrefl.removeItem l _
  | clearQueue =>
    exact runCommand_keeps (show execClearQueue s = .next t from h) fun _ _ => hrefl.laneCommand
      fun l => hrefl.clearQueue l
  | cue =>
    exact runCommand_keeps (show execCue s = .next t from h) fun _ _ => hrefl.laneCommand fun l => hrefl.cueLane l
  | start at_ =>
    exact runCommandAt_keeps (show execStart at_ s = .next t from h) fun _ _ hu => hu.laneCommand
      fun l => hu.startLane l
  | pause at_ =>
    exact runCommandAt_keeps (show execPause at_ s = .next t from h) fun _ _ hu => hu.laneCommand
      fun l => hu.pauseLane l
  | resume at_ =>
    exact runCommandAt_keeps (show execResume at_ s = .next t from h) fun _ _ hu => hu.laneCommand fun l => hu.resume l
  | stop at_ =>
    exact runCommandAt_keeps (show execStop at_ s = .next t from h) fun _ _ hu => hu.laneCommand fun l => hu.stop l
  | seek at_ =>
    exact runCommandAt_keeps (show execSeek at_ s = .next t from h) fun _ _ hu => hu.laneCommand fun l => hu.seek l _
  | setLane at_ =>
    exact runCommandAt_keeps (show execSetLane at_ s = .next t from h) fun _ _ hu => hu.laneCommand
      fun l => hu.setLane l _ _
  | laneReset at_ =>
    exact runCommandAt_keeps (show execLaneReset at_ s = .next t from h) fun _ _ hu => hu.laneCommand
      fun l => (hu.resetLane (l := l) .laneReset).done _
  | queryLane =>
    exact runCommand_keeps (show execQueryLane s = .next t from h) fun _ _ => hrefl.fixedLength (hrefl.onLane
      fun _ => hrefl.done _)
  | gateStart =>
    exact runCommand_keeps (show execGateStart s = .next t from h) fun _ _ => hrefl.laneCommand
      fun l => hrefl.gateStart l _
  | gateStop at_ =>
    exact runCommandAt_keeps (show execGateStop at_ s = .next t from h) fun _ _ hu => hu.laneCommand
      fun l => hu.gateStop l
  | queryGate at_ =>
    exact runCommandAt_keeps (show execQueryGate at_ s = .next t from h) fun _ _ hu => hu.laneCommand fun _ => hu.done _
  | injectPulses at_ =>
    exact runCommandAt_keeps (show execInjectPulses at_ s = .next t from h) fun _ _ hu => hu.laneCommand
      fun l => hu.injectPulses l _ _
  | setChannel at_ =>
    exact runCommandAt_keeps (show execSetChannel at_ s = .next t from h) fun _ _ hu => hu.laneCommand
      fun l => hu.setChannel l _ _ _ _ _
  | querySound at_ =>
    exact runCommandAt_keeps (show execQuerySound at_ s = .next t from h)
      fun _ _ hu => hu.fixedLength (hu.onLane fun _ => hu.done _)
  | setEnables =>
    exact runCommand_keeps (show execSetEnables s = .next t from h) fun _ _ => hrefl.sourceCommand
      fun _ => hrefl.doneNotices _
  | clearEnables =>
    exact runCommand_keeps (show execClearEnables s = .next t from h) fun _ _ => hrefl.sourceCommand
      fun _ => hrefl.doneNotices _
  | setMaster =>
    exact runCommand_keeps (show execSetMaster s = .next t from h) fun _ _ => hrefl.fixedLength (hrefl.setMaster _)
  | ackNotice =>
    exact runCommand_keeps (show execAckNotice s = .next t from h) fun _ _ => hrefl.sourceCommand
      fun _ => hrefl.doneNotices _
  | injectNotice =>
    exact runCommand_keeps (show execInjectNotice s = .next t from h) fun _ _ => hrefl.sourceCommand
      fun _ => hrefl.injectNotice _
  | queryPart =>
    exact runCommand_keeps (show execQueryPart s = .next t from h) fun _ _ => hrefl.fixedLength (hrefl.done _)
  | setTime =>
    exact runCommand_keeps (show execSetTime s = .next t from h) fun _ _ => hrefl.fixedLength (hrefl.setTime _)
  | softReset =>
    exact runCommand_keeps (show execSoftReset s = .next t from h) fun _ _ => hrefl.fixedLength hrefl.askSoftReset
  | chunkOffer frame => exact execChunkOffer_keeps h
  | ticketExpiry => exact execTicketExpiry_keeps h
  | chunkWriteReturn op ok => exact execChunkWriteReturn_keeps h
  | catalogueWriteReturn op ok => exact execCatalogueWriteReturn_keeps h
  | laneReadReturn op r at_ => exact execLaneReadReturn_keeps h
  | cueReadReturn op r => exact execCueReadReturn_keeps h
  | rawPulse c at_ => exact execRawPulse_keeps h
  | injectedPulse l => exact execInjectedPulse_keeps h
  | pulseLossExpiry l => exact execPulseLossExpiry_keeps h
  | gateOverflow l => exact execGateOverflow_keeps h
  | baseTick => exact execBaseTick_keeps h
  | slipCorrection l => exact atSample_keeps (show execSlipCorrection l s = .next t from h)
  | rampDownEnd l => exact atSample_keeps (show execRampDownEnd l s = .next t from h)
  | soundReady => exact execSoundReady_keeps h
  | boothSecond => exact execBoothSecond_keeps h

/-- A command taken from the front of the queue leaves the rest of the state. -/
theorem Calm.withPending (s : State) (rest : List Instr) : s.Calm { s with pending := rest } := {}

/-- Every step keeps every invariant. -/
theorem step_keeps (h : step s = .next t) : s.KeepsAll t := by
  unfold step at h
  split at h
  · obtain rfl := next_inj h
    exact .refl s
  · exact (Calm.withPending s _).keepsAll.trans (exec_keeps h)

end State

/-! ### The statements -/

/-- Settles O3: each row leaves a lane in a state that STOP takes only with its screen out of HOLD. -/
theorem holdsSilenceKept : Obligations.HoldsSilenceKept := fun _ _ h hstep => (State.step_keeps hstep).holds h

/-- Settles O4: showings are reserved only within the maximum, and each then stays held, is counted, or ends. -/
theorem licencesConservedKept : Obligations.LicencesConservedKept := fun _ _ h hstep =>
  (State.step_keeps hstep).licences h

/-- Settles O5: a window is placed in a gap of the array or restored where it meets none, and none moves. -/
theorem windowsApartKept : Obligations.WindowsApartKept := fun _ _ h hstep => (State.step_keeps hstep).windows h

/-- Settles O6: every built value is an emitted sample, and each lane builds one as the clock passes a wall sample. -/
theorem samplesInRangeKept : Obligations.SamplesInRangeKept :=
  ⟨fun _ _ h hstep => (State.step_keeps hstep).samples h, fun _ _ h hstep => (State.step_keeps hstep).tick h⟩

/-- Settles O7: each list grows only where its bound leaves room. -/
theorem storesBoundedKept : Obligations.StoresBoundedKept := fun _ _ h hstep => (State.step_keeps hstep).stores h

/-- Settles O8: queues, buffers and reels in hand grow only where there is room, and a counted pulse of an open gate is
4,000 ticks or more behind the gate's opening pulse. -/
theorem lanesBoundedKept : Obligations.LanesBoundedKept :=
  ⟨fun _ _ h hstep => (State.step_keeps hstep).lanes h, fun _ _ h hstep => (State.step_keeps hstep).gates h⟩

/-- Settles O9: commands, refusals and blocks join where there is room, and a new record takes the counter's number. -/
theorem portsAndLogBoundedKept : Obligations.PortsAndLogBoundedKept :=
  ⟨fun _ _ h hstep => (State.step_keeps hstep).ports h, fun _ _ h hstep => (State.step_keeps hstep).log h⟩

/-- Settles O2: the state right after the pin's release is one of those of `powerOn_invariants`. -/
theorem resetMeetsInvariants : Obligations.ResetMeetsInvariants :=
  State.powerOn_invariants { State.reset with out := [] } false

/-- Settles O1. -/
theorem stepTakesFront : Obligations.StepTakesFront := fun s i rest h => by
  unfold step
  rw [h]

end Sys2Proof.Machine
end

section
/-! PROOF. The resets' own rows and the start-up load (R18 to R21, R195), and what of notices and of the table
settling keeps. -/

namespace Sys2Proof.Machine

open Sys2Proof

/-! ### Raised notices -/

/-- A source raised stays raised. -/
theorem Notices.raiseSet_raised_of {u : Notices} {n : Nat} (set : BitVec 44) (h : u.raised.getLsbD n = true) :
    (u.raiseSet set).raised.getLsbD n = true := by
  unfold Notices.raiseSet Notices.withSets
  simp [h]

/-- A source is raised behind its raise. -/
theorem Notices.raiseSet_raised_self (u : Notices) {n : Nat} (h : n < 44) :
    (u.raiseSet (sourceBit n)).raised.getLsbD n = true := by
  unfold Notices.raiseSet Notices.withSets sourceBit
  simp [h]

theorem State.raise_raised (s : State) {n : Nat} (h : n < 44) : (s.raise n).ntu.raised.getLsbD n = true :=
  Notices.raiseSet_raised_self _ h

theorem State.raise_raised_of {s : State} {n : Nat} (m : Nat) (h : s.ntu.raised.getLsbD n = true) :
    (s.raise m).ntu.raised.getLsbD n = true := Notices.raiseSet_raised_of _ h

theorem State.Settles.raised_of {s u : State} (h : s.Settles u) {n : Nat} (hn : s.ntu.raised.getLsbD n = true) :
    u.ntu.raised.getLsbD n = true := by
  induction h with
  | raised m _ ih => exact State.raise_raised_of m ih
  | @reserved u l lic pid total _ _ ih =>
    cases hfind : u.shc.find lic with
    | none => rwa [State.reserve_of_not_found l pid total hfind]
    | some c =>
      rw [State.reserve_of_find l pid total hfind]
      dsimp only
      split
      · exact State.raise_raised_of (s := { u with shc := _ }) _ ih
      · exact ih
  | _ => assumption

theorem State.settle_raised {s : State} {n : Nat} (h : s.ntu.raised.getLsbD n = true) :
    s.settle.ntu.raised.getLsbD n = true := s.settles_settle.raised_of h

/-! ### The table -/

/-- An entry of the table stands behind settling, but for its operations and its stalled lanes. -/
theorem State.settle_entry {s : State} {j : Nat} {e : TableEntry} (h : s.stc.table[j]? = some (some e)) :
    ∃ e', s.settle.stc.table[j]? = some (some e') ∧ e'.atRest = e.atRest := by
  have hmap := congrArg (fun t => t[j]?) s.settle_frame.stc.table
  simp only [List.getElem?_map, h, Option.map_some] at hmap
  obtain ⟨o, ho, hrest⟩ := Option.map_eq_some_iff.mp hmap
  obtain ⟨e', rfl, he'⟩ := Option.map_eq_some_iff.mp hrest
  exact ⟨e', ho, he'⟩

/-! ### The pin -/

theorem live_held {s : State} (k : Step) (h : s.pin = true) : live s k = .refused .heldInReset := by simp [live, h]

theorem arriving_held {s : State} (k : Step) (h : s.pin = true) : arriving s k = .next s := by simp [arriving, h]

/-- Settles O11: each row of the line and of the array is guarded by the pin. -/
theorem pinResets : Obligations.PinResets := by
  refine ⟨fun s => ⟨rfl, rfl⟩, fun s hpin => ?_⟩
  exact ⟨fun _ => arriving_held _ hpin, arriving_held _ hpin, fun _ => arriving_held _ hpin,
    fun _ _ => arriving_held _ hpin, arriving_held _ hpin, fun _ _ => arriving_held _ hpin,
    fun _ _ => arriving_held _ hpin, fun _ _ _ => arriving_held _ hpin, fun _ _ => arriving_held _ hpin,
    live_held _ hpin, live_held _ hpin⟩

/-! ### The end of the load -/

@[simp] theorem State.loadEnd_part (s : State) : s.loadEnd.bcp.part = .ready := by
  unfold State.loadEnd
  rw [State.settle_bcp]
  rfl

@[simp] theorem State.loadEnd_load (s : State) : s.loadEnd.stc.load = .idle := by
  unfold State.loadEnd
  rw [State.settle_load]
  rfl

@[simp] theorem State.loadEnd_status (s : State) : s.loadEnd.stc.status = s.stc.status := by
  unfold State.loadEnd
  rw [State.settle_status]
  rfl

@[simp] theorem State.loadEnd_capacity (s : State) : s.loadEnd.stc.capacity = s.stc.capacity := by
  unfold State.loadEnd
  rw [State.settle_capacity]
  rfl

@[simp] theorem State.loadEnd_faults (s : State) : s.loadEnd.stc.faults = s.stc.faults := by
  unfold State.loadEnd
  rw [State.settle_faults]
  rfl

theorem State.loadEnd_raised {s : State} {n : Nat} (h : s.ntu.raised.getLsbD n = true) :
    s.loadEnd.ntu.raised.getLsbD n = true := State.settle_raised h

theorem State.loadEnd_entry {s : State} {j : Nat} {e : TableEntry} (h : s.stc.table[j]? = some (some e)) :
    ∃ e', s.loadEnd.stc.table[j]? = some (some e') ∧ e'.atRest = e.atRest := State.settle_entry h

theorem State.catalogueFault_raised (s : State) : s.catalogueFault.ntu.raised.getLsbD srcStorageFault = true :=
  State.raise_raised _ (by decide)

/-- The catalogue found UNAVAILABLE (R18, R19). -/
theorem State.unavailable_facts (s : State) : s.unavailable.bcp.part = .ready ∧ s.unavailable.stc.load = .idle
    ∧ s.unavailable.stc.capacity = s.stc.capacity ∧ s.unavailable.stc.status = some .unavailable
    ∧ s.unavailable.stc.faults = satInc top16 s.stc.faults
    ∧ s.unavailable.ntu.raised.getLsbD srcStorageFault = true := by
  unfold State.unavailable
  rw [State.loadEnd_part, State.loadEnd_load, State.loadEnd_capacity, State.loadEnd_status, State.loadEnd_faults]
  exact ⟨rfl, rfl, rfl, rfl, rfl, State.loadEnd_raised (State.catalogueFault_raised _)⟩

section load

variable {s : State}

theorem exec_capacityReadReturn (hpin : s.pin = false) (hload : s.stc.load = .capacityRead) (blocks : Nat) :
    exec (.capacityReadReturn blocks) s = if blocks < 4096 then .next s.noCapacity else
      .next ((s.modStc (fun c => { c with capacity := min blocks 4294967296 })).loadRead .headerRead 0 1) := by
  change live s (if s.stc.load = .capacityRead then _ else _) = _
  rw [live_eq _ hpin, if_pos hload]

theorem exec_capacityReadNoAnswer (hpin : s.pin = false) (hload : s.stc.load = .capacityRead) :
    exec .capacityReadNoAnswer s = .next s.noCapacity := by
  change live s (if s.stc.load = .capacityRead then _ else _) = _
  rw [live_eq _ hpin, if_pos hload]

theorem exec_headerReadReturn_data (hpin : s.pin = false) (hload : s.stc.load = .headerRead) (block : List Byte) :
    exec (.headerReadReturn (.data block)) s = if headerGood block then
        .next ((s.modStc (fun c => { c with status := some .loaded })).readOn 0)
      else .next ((s.modStc (fun c => { c with status := some .formatted })).loadWrite (.headerWrite false) 0
        headerBytes) := by
  change live s (if s.stc.load = .headerRead then _ else _) = _
  rw [live_eq _ hpin, if_pos hload]

theorem exec_headerReadReturn_fault (hpin : s.pin = false) (hload : s.stc.load = .headerRead) :
    exec (.headerReadReturn .fault) s = .next s.unavailable := by
  change live s (if s.stc.load = .headerRead then _ else _) = _
  rw [live_eq _ hpin, if_pos hload]

theorem exec_formatWriteReturn (hpin : s.pin = false) (hload : s.stc.load.writing = true) (ok : Bool) :
    exec (.formatWriteReturn ok) s = .next (if ok then s.loadWriteDone else s.loadWriteFault) := by
  change live s (if s.stc.load.writing = true then _ else _) = _
  rw [live_eq _ hpin, if_pos hload]

end load

/-- Settles O12: each row at its place of the load is one move of the load. -/
theorem loadBegins : Obligations.LoadBegins := by
  refine ⟨⟨fun s hpin hload hflight => ?_, fun s blocks hpin hload hblocks => ?_⟩, fun s i hpin hload hi => ?_,
    fun s hpin hload => ⟨fun block hgood => ?_, fun block hbad => ?_, ?_⟩⟩
  · change live s (if s.stc.load = .awaitingPort ∧ s.stc.flight.isEmpty then _ else _) = _
    rw [live_eq _ hpin, if_pos ⟨hload, by rw [hflight]; rfl⟩]
    rfl
  · rw [exec_capacityReadReturn hpin hload, if_neg (Nat.not_lt_of_le hblocks)]
    rfl
  · have hend : exec i s = .next s.noCapacity := by
      rcases hi with rfl | ⟨blocks, hblocks, rfl⟩
      · exact exec_capacityReadNoAnswer hpin hload
      · rw [exec_capacityReadReturn hpin hload, if_pos hblocks]
    obtain ⟨hpart, hidle, hcap, hstatus, hfaults, hraised⟩ :=
      (s.modStc (fun c => { c with capacity := 0 })).unavailable_facts
    exact ⟨_, hend, hpart, hidle, hcap, hstatus, hfaults, hraised⟩
  · rw [exec_headerReadReturn_data hpin hload, if_pos hgood]
    rfl
  · rw [exec_headerReadReturn_data hpin hload, if_neg (by simp [hbad])]
    rfl
  · obtain ⟨hpart, -, -, hstatus, hfaults, -⟩ := s.unavailable_facts
    exact ⟨_, exec_headerReadReturn_fault hpin hload, hpart, hstatus, hfaults⟩

/-! ### The writes of the load -/

section moves

variable {s : State}

theorem State.formatOn_last (s : State) : s.formatOn 32 = s.loadEnd := rfl

theorem State.readOn_last (s : State) : s.readOn 32 = s.loadEnd := rfl

theorem State.formatOn_of_lt {slot : Nat} (h : slot < 32) : s.formatOn slot = s.formatSlot slot false := if_pos h

theorem State.readOn_of_lt {slot : Nat} (h : slot < 32) :
    s.readOn slot = s.loadRead (.slotRead slot) (64 + 64 * slot) 64 := if_pos h

/-- Behind the last word on a slot the load reads on or ends (R20, R21). -/
theorem State.readOn_readsOn (s : State) (slot : Nat) : (s.readOn (slot + 1)).ReadsOn slot := by
  refine ⟨fun hlt => ?_, fun heq => ?_⟩
  · rw [State.readOn_of_lt (Nat.succ_lt_succ hlt)]
    rfl
  · subst heq
    rw [State.readOn_last, State.loadEnd_load, State.loadEnd_part]
    exact ⟨rfl, rfl⟩

theorem State.loadWriteDone_header {retry : Bool} (h : s.stc.load = .headerWrite retry) :
    s.loadWriteDone = s.formatSlot 0 false := by
  unfold State.loadWriteDone
  rw [h]

theorem State.loadWriteDone_format {slot : Nat} {retry : Bool} (h : s.stc.load = .formatWrite slot retry) :
    s.loadWriteDone = s.formatOn (slot + 1) := by
  unfold State.loadWriteDone
  rw [h]

theorem State.loadWriteDone_empty {slot : Nat} {retry : Bool} (h : s.stc.load = .emptyWrite slot retry) :
    s.loadWriteDone = s.readOn (slot + 1) := by
  unfold State.loadWriteDone
  rw [h]

end moves

/-- A storage fault of the catalogue counted and raised (R17, R22). -/
def State.Faulted (s t : State) : Prop :=
  t.stc.faults = satInc top16 s.stc.faults ∧ t.ntu.raised.getLsbD srcStorageFault = true

theorem State.catalogueFault_faulted (s : State) : s.Faulted s.catalogueFault := ⟨rfl, s.catalogueFault_raised⟩

theorem State.Faulted.loadEnd {s t : State} (h : s.Faulted t) : s.Faulted t.loadEnd :=
  ⟨t.loadEnd_faults.trans h.1, State.loadEnd_raised h.2⟩

theorem State.Faulted.loadRead {s t : State} (h : s.Faulted t) (x : Load) (first count : Nat) :
    s.Faulted (t.loadRead x first count) := h

theorem State.Faulted.loadWrite {s t : State} (h : s.Faulted t) (x : Load) (first : Nat) (image : List Byte) :
    s.Faulted (t.loadWrite x first image) := h

theorem State.Faulted.formatOn {s t : State} (h : s.Faulted t) (slot : Nat) : s.Faulted (t.formatOn slot) := by
  unfold State.formatOn
  split
  · exact h.loadWrite _ _ _
  · exact h.loadEnd

theorem State.Faulted.readOn {s t : State} (h : s.Faulted t) (slot : Nat) : s.Faulted (t.readOn slot) := by
  unfold State.readOn
  split
  · exact h.loadRead _ _ _
  · exact h.loadEnd

theorem State.loadWriteFault_faulted (s : State) : s.Faulted s.loadWriteFault := by
  have h := s.catalogueFault_faulted
  unfold State.loadWriteFault
  dsimp only
  split
  case h_1 => exact h.loadWrite _ _ _
  case h_2 => exact State.Faulted.loadEnd (t := s.catalogueFault.modStc _) h
  case h_3 => exact h.loadWrite _ _ _
  case h_4 => exact h.formatOn _
  case h_5 => exact h.loadWrite _ _ _
  case h_6 => exact h.readOn _
  all_goals exact h

section faults

variable {s : State} {slot : Nat}

theorem State.loadWriteFault_header (h : s.stc.load = .headerWrite false) :
    s.loadWriteFault = s.catalogueFault.loadWrite (.headerWrite true) 0 headerBytes := by
  have hload : s.catalogueFault.stc.load = .headerWrite false := h
  simp [State.loadWriteFault, hload]

theorem State.loadWriteFault_headerAgain (h : s.stc.load = .headerWrite true) :
    s.loadWriteFault = (s.catalogueFault.modStc (fun c => { c with status := some .unavailable })).loadEnd := by
  have hload : s.catalogueFault.stc.load = .headerWrite true := h
  simp [State.loadWriteFault, hload]

theorem State.loadWriteFault_format (h : s.stc.load = .formatWrite slot false) :
    s.loadWriteFault = s.catalogueFault.formatSlot slot true := by
  have hload : s.catalogueFault.stc.load = .formatWrite slot false := h
  simp [State.loadWriteFault, hload]

theorem State.loadWriteFault_formatAgain (h : s.stc.load = .formatWrite slot true) :
    s.loadWriteFault = s.catalogueFault.formatOn (slot + 1) := by
  have hload : s.catalogueFault.stc.load = .formatWrite slot true := h
  simp [State.loadWriteFault, hload]

theorem State.loadWriteFault_empty (h : s.stc.load = .emptyWrite slot false) :
    s.loadWriteFault = s.catalogueFault.emptySlot slot true := by
  have hload : s.catalogueFault.stc.load = .emptyWrite slot false := h
  simp [State.loadWriteFault, hload]

theorem State.loadWriteFault_emptyAgain (h : s.stc.load = .emptyWrite slot true) :
    s.loadWriteFault = s.catalogueFault.readOn (slot + 1) := by
  have hload : s.catalogueFault.stc.load = .emptyWrite slot true := h
  simp [State.loadWriteFault, hload]

end faults

/-- Settles O13: a write that returns leads on, and a faulted one is retried or left, by the load's place. -/
theorem loadWritesReturn : Obligations.LoadWritesReturn := by
  refine ⟨fun s hpin => ⟨fun retry hload => ?_, fun slot retry hload hslot => ?_, fun retry hload => ?_,
    fun slot retry hload hslot => ?_, fun retry hload => ?_⟩, fun s hpin hload => ?_⟩
  · refine ⟨_, exec_formatWriteReturn hpin (by rw [hload]; rfl) true, ?_⟩
    rw [if_pos rfl, State.loadWriteDone_header hload]
    exact ⟨rfl, rfl⟩
  · refine ⟨_, exec_formatWriteReturn hpin (by rw [hload]; rfl) true, ?_⟩
    rw [if_pos rfl, State.loadWriteDone_format hload, State.formatOn_of_lt (Nat.succ_lt_succ hslot)]
    rfl
  · refine ⟨_, exec_formatWriteReturn hpin (by rw [hload]; rfl) true, ?_⟩
    rw [if_pos rfl, State.loadWriteDone_format hload, State.formatOn_last, State.loadEnd_load, State.loadEnd_part]
    exact ⟨rfl, rfl⟩
  · refine ⟨_, exec_formatWriteReturn hpin (by rw [hload]; rfl) true, ?_⟩
    rw [if_pos rfl, State.loadWriteDone_empty hload, State.readOn_of_lt (Nat.succ_lt_succ hslot)]
    refine ⟨rfl, ?_⟩
    have hplace : 128 + 64 * slot = 64 + 64 * (slot + 1) := by omega
    rw [hplace]
    rfl
  · refine ⟨_, exec_formatWriteReturn hpin (by rw [hload]; rfl) true, ?_⟩
    rw [if_pos rfl, State.loadWriteDone_empty hload, State.readOn_last, State.loadEnd_load, State.loadEnd_part]
    exact ⟨rfl, rfl⟩
  · obtain ⟨hfaults, hraised⟩ := s.loadWriteFault_faulted
    refine ⟨s.loadWriteFault, exec_formatWriteReturn hpin hload false, hfaults, hraised, fun h => ?_, fun h => ?_,
      fun slot h => ?_, fun slot h => ⟨fun hslot => ?_, fun hslot => ?_⟩, fun slot h => ?_, fun slot h => ?_⟩
    · rw [State.loadWriteFault_header h]
      exact ⟨rfl, rfl, rfl⟩
    · rw [State.loadWriteFault_headerAgain h, State.loadEnd_status, State.loadEnd_load, State.loadEnd_part]
      exact ⟨rfl, rfl, rfl⟩
    · rw [State.loadWriteFault_format h]
      exact ⟨rfl, rfl⟩
    · rw [State.loadWriteFault_formatAgain h, State.formatOn_of_lt (Nat.succ_lt_succ hslot)]
      rfl
    · subst hslot
      rw [State.loadWriteFault_formatAgain h, State.formatOn_last, State.loadEnd_load, State.loadEnd_part]
      exact ⟨rfl, rfl⟩
    · rw [State.loadWriteFault_empty h]
      exact ⟨rfl, rfl⟩
    · rw [State.loadWriteFault_emptyAgain h]
      exact State.readOn_readsOn _ slot

/-! ### Slots restored -/

/-- The entry that an image restores: its window, FILLING or COMPLETE, with the tracks it records (R20, R49). -/
theorem restoreSlot_entry {c : Storage} {m : SlotImage} {e : TableEntry} (h : restoreSlot c m = some e) :
    ∃ st tracks, restoredState m.state = some st ∧ e = TableEntry.mk
      { newWindow m.decl m.base with limit := m.limit, state := st, faults := m.faults }
      { newRecord m.decl with reels := tracks } := by
  unfold restoreSlot at h
  split at h
  · cases h
  · rename_i st hst
    dsimp only at h
    split at h
    · obtain ⟨tracks, -, rfl⟩ := Option.map_eq_some_iff.mp h
      exact ⟨st, tracks, hst, rfl⟩
    · cases h

theorem restoredState_cases {n : Nat} {st : WindowState} (h : restoredState n = some st) :
    (n = 0 ∧ st = .filling) ∨ (n = 1 ∧ st = .complete) := by
  unfold restoredState at h
  split at h
  · exact .inl ⟨rfl, (Option.some.inj h).symm⟩
  · exact .inr ⟨rfl, (Option.some.inj h).symm⟩
  · cases h

/-- The first element that satisfies a test is at the place where it stands, when none before it does. -/
theorem findFrom_eq_some {α : Type} {p : α → Bool} {a : α} (i k : Nat) {l : List α} (hget : l[k]? = some a)
    (hp : p a = true) (hbefore : ∀ j b, j < k → l[j]? = some b → p b = false) :
    findFrom p i l = some (i + k, a) := by
  induction l generalizing i k with
  | nil => cases hget
  | cons b rest ih =>
    unfold findFrom
    cases k with
    | zero =>
      obtain rfl : b = a := by simpa using hget
      rw [if_pos hp, Nat.add_zero]
    | succ k =>
      rw [if_neg (by simp [hbefore 0 b (Nat.succ_pos k) rfl])]
      rw [ih (i + 1) k (by simpa using hget) fun j x hj hx => hbefore (j + 1) x (Nat.succ_lt_succ hj) (by simpa using hx)]
      congr 2
      omega

/-- A package owns the entry that holds its window when no other does. -/
theorem Storage.find_eq_some_of_unique {c : Storage} {k : Nat} {e : TableEntry} (hget : c.table[k]? = some (some e))
    (hone : ∀ j e', j ≠ k → c.table[j]? = some (some e') → e'.window.packageId ≠ e.window.packageId) :
    c.find e.window.packageId = some (k, e) := by
  have hfind := findFrom_eq_some (p := isPackage e.window.packageId) 0 k hget (by simp [isPackage]) fun j o hj ho => by
    cases o with
    | none => rfl
    | some e' => simpa [isPackage] using hone j e' (Nat.ne_of_lt hj) ho
  unfold Storage.find
  rw [hfind, Nat.zero_add]

/-- The start-up load's table with a restored entry in its slot (R20). -/
def State.withEntry (s : State) (slot : Nat) (e : TableEntry) : State :=
  s.modStc (fun c => { c with table := modifyAt (fun _ => some e) slot c.table })

theorem State.withEntry_find {s : State} {slot : Nat} {m : SlotImage} {e : TableEntry}
    (hrestore : restoreSlot s.stc m = some e) (hslot : slot < s.stc.table.length) :
    (s.withEntry slot e).stc.find m.packageId = some (slot, e) := by
  obtain ⟨-, hpid, -, -, -, -, -, hclash⟩ := State.restoreSlot_eq_some hrestore
  have htable : ∀ j, (s.withEntry slot e).stc.table[j]? = if j = slot then (s.stc.table[j]?).map (fun _ => some e)
      else s.stc.table[j]? := fun j => modifyAt_getElem? _ _ _ _
  have hget : (s.withEntry slot e).stc.table[slot]? = some (some e) := by
    rw [htable, if_pos rfl, List.getElem?_eq_getElem hslot]
    rfl
  rw [← hpid]
  refine Storage.find_eq_some_of_unique hget fun j e' hj he' => ?_
  rw [htable, if_neg hj] at he'
  rw [hpid]
  exact (hclash e'.window (List.mem_filterMap.mpr ⟨some e', List.mem_of_getElem? he', rfl⟩)).1

/-- The completion test of a package: its entry COMPLETE if it was FILLING with every track complete (R42). -/
theorem State.testComplete_entry {s : State} {pid slot : Nat} {e : TableEntry} (hfind : s.stc.find pid = some (slot, e)) :
    (s.testComplete pid).stc.faults = s.stc.faults
      ∧ ∃ e', (s.testComplete pid).stc.table[slot]? = some (some e') ∧ e'.record = e.record
        ∧ e'.window = { e.window with
          state := if e.window.state = .filling ∧ e.record.complete = true then .complete else e.window.state } := by
  obtain ⟨hget, -⟩ := Storage.find_eq_some hfind
  unfold State.testComplete
  rw [hfind]
  dsimp only
  split
  · refine ⟨?_, { e with window := { e.window with state := .complete } }, ?_, rfl, rfl⟩
    · rw [State.raise_stc, State.modStc_stc, Storage.request_eq]
      rfl
    · have hfind' := Storage.find_modWindow s.stc pid (f := fun w => { w with state := .complete }) fun _ => rfl
      rw [hfind] at hfind'
      rw [State.raise_stc, State.modStc_stc, Storage.request_eq]
      exact (Storage.find_eq_some hfind').1
  · exact ⟨rfl, e, hget, rfl, rfl⟩

/-- What of an entry settling does not change. -/
theorem TableEntry.eq_of_atRest {e e' : TableEntry} (h : e'.atRest = e.atRest) :
    e'.window = { e.window with ops := e'.window.ops } ∧ e'.record.decl = e.record.decl := by
  have hwindow := congrArg TableEntry.window h
  have hdecl := congrArg (fun x => x.record.decl) h
  refine ⟨?_, hdecl⟩
  obtain ⟨⟨pid, base, limit, state, refs, faults, ops, layout⟩, record⟩ := e
  obtain ⟨⟨pid', base', limit', state', refs', faults', ops', layout'⟩, record'⟩ := e'
  simp only [TableEntry.atRest, Window.mk.injEq] at hwindow ⊢
  simp [hwindow]

theorem exec_slotReadReturn {s : State} {slot : Nat} (hpin : s.pin = false) (hload : s.stc.load = .slotRead slot)
    (r : Returned) : exec (.slotReadReturn r) s = .next (match r with
      | .fault => s.dropSlot slot
      | .data bytes => match parseSlot bytes with
        | none => s.dropSlot slot
        | some m => s.judgeSlot slot m) := by
  change execSlotReadReturn r s = _
  unfold execSlotReadReturn
  rw [live_eq _ hpin, hload]
  cases r with
  | fault => rfl
  | data bytes =>
    dsimp only
    cases parseSlot bytes <;> rfl

theorem State.judgeSlot_empty {s : State} {slot : Nat} {m : SlotImage} (h : m.packageId = 0) :
    s.judgeSlot slot m = s.readOn (slot + 1) := if_pos h

theorem State.judgeSlot_retiring {s : State} {slot : Nat} {m : SlotImage} (h : m.packageId ≠ 0) (hst : m.state = 2) :
    s.judgeSlot slot m = s.emptySlot slot false := by
  unfold State.judgeSlot
  rw [if_neg h, if_pos hst]

theorem State.judgeSlot_dropped {s : State} {slot : Nat} {m : SlotImage} (h : m.packageId ≠ 0) (hst : m.state ≠ 2)
    (hdrop : restoreSlot s.stc m = none) : s.judgeSlot slot m = s.dropSlot slot := by
  unfold State.judgeSlot
  rw [if_neg h, if_neg hst, hdrop]

theorem State.judgeSlot_restored {s : State} {slot : Nat} {m : SlotImage} {e : TableEntry} (h : m.packageId ≠ 0)
    (hst : m.state ≠ 2) (hrestore : restoreSlot s.stc m = some e) :
    s.judgeSlot slot m = ((s.withEntry slot e).testComplete m.packageId).readOn (slot + 1) := by
  unfold State.judgeSlot
  rw [if_neg h, if_neg hst, hrestore]
  rfl

theorem State.readOn_faults (s : State) (slot : Nat) : (s.readOn slot).stc.faults = s.stc.faults := by
  unfold State.readOn
  split
  · rfl
  · exact s.loadEnd_faults

/-- Settles O14: an image is judged by its package id, its state, and what it would be restored as. -/
theorem slotJudged : Obligations.SlotJudged := by
  refine ⟨fun s slot hpin hload hslot => ⟨fun r hr => ?_, fun bytes m hparse hpid => ?_,
    fun bytes m hparse hpid hst => ?_, fun bytes m e hparse hpid hst hrestore hlen => ?_⟩, fun c m e hrestore => ?_⟩
  · have hdrop : exec (.slotReadReturn r) s = .next (s.dropSlot slot) := by
      rw [exec_slotReadReturn hpin hload]
      rcases hr with rfl | ⟨bytes, rfl, hparse | ⟨m, hparse, hpid, hst, hnone⟩⟩
      · rfl
      · simp [hparse]
      · simp [hparse, State.judgeSlot_dropped hpid hst hnone]
    exact ⟨_, hdrop, rfl, rfl, rfl, s.catalogueFault_raised, rfl⟩
  · refine ⟨s.readOn (slot + 1), ?_, s.readOn_readsOn slot, fun hlt => ?_, s.readOn_faults _⟩
    · rw [exec_slotReadReturn hpin hload]
      simp [hparse, State.judgeSlot_empty hpid]
    · rw [State.readOn_of_lt (Nat.succ_lt_succ hlt)]
      rfl
  · refine ⟨s.emptySlot slot false, ?_, rfl, rfl, rfl⟩
    rw [exec_slotReadReturn hpin hload]
    simp [hparse, State.judgeSlot_retiring hpid hst]
  · obtain ⟨hfaults, e₁, hentry, hrecord, hwindow₁⟩ := State.testComplete_entry (State.withEntry_find hrestore hlen)
    obtain ⟨-, howner, hbase, hlimit, -⟩ := State.restoreSlot_eq_some hrestore
    obtain ⟨st, tracks, -, he⟩ := restoreSlot_entry hrestore
    have hexec : exec (.slotReadReturn (.data bytes)) s
        = .next (((s.withEntry slot e).testComplete m.packageId).readOn (slot + 1)) := by
      rw [exec_slotReadReturn hpin hload]
      simp [hparse, State.judgeSlot_restored hpid hst hrestore]
    have hcount := (State.readOn_faults _ (slot + 1)).trans hfaults
    have hreads := ((s.withEntry slot e).testComplete m.packageId).readOn_readsOn slot
    have hwindow : e.window.faults = m.faults ∧ e.window.refs = 0 := by
      rw [he]
      exact ⟨rfl, rfl⟩
    rcases Nat.lt_or_eq_of_le hslot with hlt | rfl
    · refine ⟨_, e₁, hexec, hreads, ?_, fun _ => hrecord, by rw [hrecord], ?_⟩
      · rw [State.readOn_of_lt (Nat.succ_lt_succ hlt)]
        exact hentry
      · rw [hwindow₁]
        exact ⟨howner, hbase, hlimit, hwindow.1, hwindow.2, rfl, hcount⟩
    · obtain ⟨e', hget, hrest⟩ := State.loadEnd_entry hentry
      obtain ⟨hsame, hdecl⟩ := TableEntry.eq_of_atRest hrest
      refine ⟨_, e', hexec, hreads, hget, fun hlt => absurd hlt (Nat.lt_irrefl _), by rw [hdecl, hrecord], ?_⟩
      rw [hsame, hwindow₁]
      exact ⟨howner, hbase, hlimit, hwindow.1, hwindow.2, rfl, hcount⟩
  · obtain ⟨hrange, -, -, -, hsize, hlow, hcap, hclash⟩ := State.restoreSlot_eq_some hrestore
    obtain ⟨st, tracks, hst, rfl⟩ := restoreSlot_entry hrestore
    exact ⟨restoredState_cases hst, hrange, rfl, rfl, hsize, hlow, hcap, hclash⟩

end Sys2Proof.Machine
end

section
/-! PROOF. The booth control port: frames received and sent, and the refusals of the part that starts up (R189 to
R195, R199). -/

namespace Sys2Proof.Machine

open Sys2Proof

/-! ### Numbers in bytes -/

theorem u16_append {a b : List Byte} {i : Nat} (h : i + 1 < a.length) : u16 (a ++ b) i = u16 a i := by
  unfold u16 u8
  rw [List.getD_append _ _ _ _ (by omega), List.getD_append _ _ _ _ h]

theorem u16_append_right (a b : List Byte) : u16 (a ++ b) a.length = u16 b 0 := by
  unfold u16 u8
  rw [List.getD_append_right _ _ _ _ (Nat.le_refl _), List.getD_append_right _ _ _ _ (Nat.le_succ _)]
  simp

theorem u16_b16 {n : Nat} (h : n < 65536) (rest : List Byte) : u16 (b16 n ++ rest) 0 = n := by
  unfold u16 u8 b16
  simp [BitVec.toNat_ofNat]
  omega

/-! ### The receiver -/

/-- The state with the receiver collecting bytes, none of them late. -/
def State.collecting (s : State) (bytes : List Byte) : State :=
  s.modBcp (fun b => { b with receiver := .collecting bytes, gap := 0 })

theorem State.collecting_collecting (s : State) (a b : List Byte) : (s.collecting a).collecting b = s.collecting b := rfl

theorem State.collecting_judgeFrame (s : State) (a bytes : List Byte) :
    (s.collecting a).judgeFrame bytes = s.judgeFrame bytes := by
  unfold State.judgeFrame
  dsimp only
  split <;> rfl

theorem State.rxByte_collecting (s : State) (bytes : List Byte) (x : Byte) :
    (s.collecting bytes).rxByte x = (s.collecting bytes).collect (bytes ++ [x]) := rfl

theorem State.rxByte_hunting {s : State} (h : s.bcp.receiver = .hunting) : s.rxByte 0xC3#8 = s.collecting [] := by
  simp [State.rxByte, ControlPort.overdue, h, State.collecting]

theorem State.collect_short {s : State} {bytes : List Byte} (h : bytes.length < 2) :
    s.collect bytes = s.collecting bytes := if_pos h

/-- Bytes that do not complete their frame are kept. -/
theorem State.collect_partial {s : State} {bytes : List Byte} (hlen : 2 ≤ bytes.length)
    (hpossible : lengthPossible (u16 bytes 0) = true) (h : bytes.length < u16 bytes 0 + 4) :
    s.collect bytes = s.collecting bytes := by
  unfold State.collect
  rw [if_neg (Nat.not_lt_of_le hlen), if_neg (by simp [hpossible]), if_pos h]
  rfl

theorem State.collect_whole {s : State} {bytes : List Byte} (hpossible : lengthPossible (u16 bytes 0) = true)
    (h : bytes.length = u16 bytes 0 + 4) : s.collect bytes = s.judgeFrame bytes := by
  unfold State.collect
  rw [if_neg (by omega), if_neg (by simp [hpossible]), if_neg (by omega)]

/-- Bytes whose length field is impossible are discarded (R190). -/
theorem State.collect_impossible {s : State} {bytes : List Byte} (hlen : 2 ≤ bytes.length)
    (himpossible : lengthPossible (u16 bytes 0) = false) : s.collect bytes = s.discardFrame := by
  unfold State.collect
  rw [if_neg (Nat.not_lt_of_le hlen), if_pos (by simp [himpossible])]

/-- A frame whose last bytes arrive is judged whole. -/
theorem State.collect_all (s : State) {whole : List Byte} (hpossible : lengthPossible (u16 whole 0) = true)
    (hwhole : whole.length = u16 whole 0 + 4) {first rest : List Byte} (hsplit : first ++ rest = whole)
    (hrest : rest ≠ []) : rest.foldl State.rxByte (s.collecting first) = s.judgeFrame whole := by
  induction rest generalizing first with
  | nil => exact absurd rfl hrest
  | cons x rest ih =>
    have hnext : (first ++ [x]) ++ rest = whole := by rw [← hsplit, List.append_assoc, List.singleton_append]
    rw [List.foldl_cons, State.rxByte_collecting]
    generalize first ++ [x] = seen at hnext
    by_cases hlast : rest = []
    · rw [hlast, List.append_nil] at hnext
      rw [hlast, List.foldl_nil, hnext, State.collect_whole hpossible hwhole, State.collecting_judgeFrame]
    · have hkept : (s.collecting first).collect seen = s.collecting seen := by
        have hpos := List.length_pos_iff.mpr hlast
        have hlen : seen.length + rest.length = whole.length := by rw [← hnext, List.length_append]
        by_cases hshort : seen.length < 2
        · rw [State.collect_short hshort, State.collecting_collecting]
        · have hfield : u16 seen 0 = u16 whole 0 := by
            rw [← hnext, u16_append (by omega)]
          rw [State.collect_partial (by omega) (by rw [hfield]; exact hpossible) (by rw [hfield]; omega),
            State.collecting_collecting]
      rw [hkept]
      exact ih hnext hlast

/-- A whole frame that arrives at a HUNTING receiver is judged. -/
theorem exec_frame {s : State} (hpin : s.pin = false) (hhunt : s.bcp.receiver = .hunting) {whole : List Byte}
    (hpossible : lengthPossible (u16 whole 0) = true) (hwhole : whole.length = u16 whole 0 + 4) :
    exec (.commandFrameReceived (0xC3#8 :: whole)) s = .next (s.judgeFrame whole) := by
  change arriving s (.next ((0xC3#8 :: whole).foldl State.rxByte s)) = _
  rw [arriving_eq _ hpin, List.foldl_cons, State.rxByte_hunting hhunt,
    State.collect_all s hpossible hwhole (List.nil_append _) (by rintro rfl; exact nomatch hwhole)]

/-- The counted bytes of a frame: its length, kind, tag and body (R189). -/
def countedBytes (kind : Nat) (tag : Byte) (body : List Byte) : List Byte :=
  b16 (body.length + 2) ++ b8 kind ++ [tag] ++ body

theorem hostFrameBytes_eq (kind : Nat) (tag : Byte) (body : List Byte) : hostFrameBytes kind tag body
    = 0xC3#8 :: (countedBytes kind tag body ++ b16 (crc16 (countedBytes kind tag body)).toNat) := rfl

theorem State.judgeFrame_good {s : State} {counted : List Byte} :
    s.judgeFrame (counted ++ b16 (crc16 counted).toNat) = s.modBcp (fun b =>
      ({ b with receiver := .hunting, gap := 0 }).take (u8 (counted ++ b16 (crc16 counted).toNat) 2)
        ((counted ++ b16 (crc16 counted).toNat).getD 3 0#8) (counted.drop 4)) := by
  have hlen : (counted ++ b16 (crc16 counted).toNat).length - 2 = counted.length := by
    rw [List.length_append]
    rfl
  have hfield : u16 (counted ++ b16 (crc16 counted).toNat) counted.length = (crc16 counted).toNat := by
    rw [u16_append_right, ← List.append_nil (b16 _), u16_b16 (crc16 counted).isLt]
  unfold State.judgeFrame
  simp only [hlen, List.take_left, hfield, if_true]

/-- A frame built of a kind, tag and body is taken as that command (R189 to R191). -/
theorem exec_hostFrameBytes {s : State} (hpin : s.pin = false) (hhunt : s.bcp.receiver = .hunting) {kind : Nat}
    (hkind : kind < 256) (tag : Byte) {body : List Byte} (hbody : body.length ≤ 1024) :
    exec (.commandFrameReceived (hostFrameBytes kind tag body)) s = .next (s.modBcp (fun b =>
      ({ b with receiver := .hunting, gap := 0 }).take kind tag body)) := by
  have hfield : u16 (countedBytes kind tag body ++ b16 (crc16 (countedBytes kind tag body)).toNat) 0
      = body.length + 2 := by
    unfold countedBytes
    simp only [List.append_assoc]
    exact u16_b16 (by omega) _
  have hlen : (countedBytes kind tag body ++ b16 (crc16 (countedBytes kind tag body)).toNat).length
      = body.length + 2 + 4 := by
    simp [countedBytes, b16, b8]
  have hpossible : lengthPossible (body.length + 2) = true := by
    simp [lengthPossible]
    omega
  rw [hostFrameBytes_eq, exec_frame hpin hhunt (by rw [hfield]; exact hpossible) (by rw [hfield]; exact hlen),
    State.judgeFrame_good]
  have hk : u8 (countedBytes kind tag body ++ b16 (crc16 (countedBytes kind tag body)).toNat) 2 = kind := by
    simp [u8, countedBytes, b16, b8, Nat.mod_eq_of_lt hkind]
  have ht : (countedBytes kind tag body ++ b16 (crc16 (countedBytes kind tag body)).toNat).getD 3 0#8 = tag := by
    simp [countedBytes, b16, b8]
  have hb : (countedBytes kind tag body).drop 4 = body := by simp [countedBytes, b16, b8]
  rw [hk, ht, hb]

/-- Settles O16: the length bytes, then the count of bytes, then the check carry every frame to its taking. -/
theorem frameTakenAsSpelt : Obligations.FrameTakenAsSpelt := by
  refine ⟨fun s kind tag body hpin hhunt hkind hbody => exec_hostFrameBytes hpin hhunt hkind tag hbody,
    fun s tag hpin hhunt => ⟨fun r hr => ?_, fun why => ?_, fun number set => ?_⟩,
    fun b kind tag body => ⟨fun h => ?_, fun hcmds htags => ?_, fun hcmds htags => ?_⟩⟩
  · exact exec_hostFrameBytes hpin hhunt (show 1 < 256 by decide) tag hr
  · exact exec_hostFrameBytes hpin hhunt (show 2 < 256 by decide) tag (Nat.one_le_two_pow (n := 10))
  · exact exec_hostFrameBytes hpin hhunt (show 3 < 256 by decide) 0x00#8 (show 7 ≤ 1024 by decide)
  · exact if_pos h
  · unfold ControlPort.take
    rw [if_neg (Nat.not_lt_of_le hcmds), if_pos htags]
  · unfold ControlPort.take
    rw [if_neg (Nat.not_lt_of_le hcmds), if_neg (Nat.not_lt_of_le htags)]

/-! ### Discarded frames and unknown kinds -/

/-- The state with what the receiver has collected discarded (R190). -/
def State.discarded (s : State) : State :=
  { s with bcp := { s.bcp with receiver := .hunting, gap := 0, linkErrors := satInc top16 s.bcp.linkErrors },
           ntu := s.ntu.raiseSet (sourceBit 42) }

theorem State.discardFrame_eq (s : State) : s.discardFrame = s.discarded := rfl

theorem State.collecting_discarded (s : State) (bytes : List Byte) : (s.collecting bytes).discarded = s.discarded := rfl

theorem State.judgeFrame_bad {s : State} {counted : List Byte} {c1 c2 : Byte}
    (h : u16 [c1, c2] 0 ≠ (crc16 counted).toNat) : s.judgeFrame (counted ++ [c1, c2]) = s.discarded := by
  have hlen : (counted ++ [c1, c2]).length - 2 = counted.length := by
    rw [List.length_append]
    rfl
  unfold State.judgeFrame
  simp only [hlen, List.take_left, u16_append_right, if_neg h, State.discardFrame_eq]

/-- A kind outside the command table has no row. -/
theorem not_known_of_hostRow {t : Instant} {kind : Nat} (h : hostRow t kind = none) : knownKinds.contains kind = false := by
  have hrows : ∀ k ∈ knownKinds, hostRow t k ≠ none := by
    intro k hk
    simp only [knownKinds, List.mem_cons, List.not_mem_nil, or_false] at hk
    rcases hk with rfl | rfl | rfl | rfl | rfl | rfl | rfl | rfl | rfl | rfl | rfl | rfl | rfl | rfl | rfl | rfl | rfl
      | rfl | rfl | rfl | rfl | rfl | rfl | rfl | rfl | rfl | rfl | rfl | rfl | rfl | rfl | rfl | rfl | rfl | rfl | rfl
      | rfl | rfl | rfl | rfl | rfl <;> exact nofun
  by_contra hknown
  exact hrows kind (by simpa using hknown) h

/-- Settles O17: the receiver's moves byte by byte, and the first command that has no row. -/
theorem receiverMoves : Obligations.ReceiverMoves := by
  refine ⟨⟨fun s hpin hhunt => ?_, fun s bytes hpin hcoll hgap => ?_⟩,
    fun s discarded hpin hhunt hdisc => ⟨fun hi lo hbad => ?_, fun counted c1 c2 hlo hhi hlen hcheck => ?_⟩,
    fun s c hpin hnext hkind => ?_⟩
  · change arriving s (.next (s.rxByte 0xC3#8)) = _
    rw [arriving_eq _ hpin, State.rxByte_hunting hhunt]
    rfl
  · change live s (if s.bcp.overdue = true then .next s.discardFrame else _) = _
    rw [live_eq _ hpin, if_pos (by simpa [ControlPort.overdue, hcoll] using hgap)]
    rfl
  · have himpossible : lengthPossible (u16 [hi, lo] 0) = false := by
      simp [lengthPossible]
      omega
    have hshort : (s.collecting []).collect ([] ++ [hi]) = s.collecting [hi] :=
      State.collect_short (by exact Nat.one_lt_two)
    have hdiscard : (s.collecting [hi]).collect ([hi] ++ [lo]) = s.discarded :=
      State.collect_impossible (Nat.le_refl 2) himpossible
    change arriving s (.next ([0xC3#8, hi, lo].foldl State.rxByte s)) = _
    rw [arriving_eq _ hpin, hdisc, List.foldl_cons, State.rxByte_hunting hhunt, List.foldl_cons,
      State.rxByte_collecting, hshort, List.foldl_cons, State.rxByte_collecting, hdiscard]
    rfl
  · have hfield : u16 (counted ++ [c1, c2]) 0 = u16 counted 0 := u16_append (by omega)
    have hpossible : lengthPossible (u16 counted 0) = true := by
      simp [lengthPossible, hlo, hhi]
    rw [List.cons_append, exec_frame hpin hhunt (by rw [hfield]; exact hpossible) (by
      rw [hfield, List.length_append, hlen, List.length_cons, List.length_singleton]), State.judgeFrame_bad hcheck, hdisc]
    rfl
  · have hunknown := not_known_of_hostRow hkind
    change live s (match s.bcp.next with
      | none => .refused .noCommandWaiting
      | some c => if knownKinds.contains c.kind then .refused .otherCommandNext
        else .next (s.reply (.refused .unknownKind))) = _
    rw [live_eq _ hpin, hnext]
    dsimp only
    rw [hunknown]
    rfl

/-! ### The transmit line -/

theorem exec_transmitLineFree {s : State} (hpin : s.pin = false) :
    exec .transmitLineFree s = .next s.lineFreed.nextFrame := live_eq _ hpin

theorem State.nextFrame_overrun {s : State} {tag : Byte} {rest : List Byte} (h : s.bcp.overrunTags = tag :: rest) :
    s.nextFrame = (s.modBcp (fun b => { b with overrunTags := rest })).sendFrame (.reply tag (.refused .overrun)) := by
  unfold State.nextFrame
  rw [h]

theorem State.nextFrame_reply {s : State} {kind : Nat} {tag : Byte} {body : List Byte} {r : Reply}
    {rest : List Outstanding} (htags : s.bcp.overrunTags = []) (h : s.bcp.cmds = ⟨kind, tag, body, some r⟩ :: rest) :
    s.nextFrame = (s.modBcp (fun b => { b with cmds := rest })).sendFrame (.reply tag r) := by
  unfold State.nextFrame
  rw [htags, h]

theorem State.nextFrame_notice {s : State} (htags : s.bcp.overrunTags = [])
    (h : s.bcp.cmds = [] ∨ ∃ kind tag body rest, s.bcp.cmds = ⟨kind, tag, body, none⟩ :: rest) :
    s.nextFrame = if s.ntu.outstanding ∧ s.bcp.resetDue = false then s.sendNotice else s := by
  unfold State.nextFrame
  rw [htags]
  rcases h with h | ⟨kind, tag, body, rest, h⟩ <;> rw [h]

/-- The reset is due behind the DONE of SOFT_RESET, and only behind it (R199). -/
theorem State.lineFreed_resetDue (s : State) : s.lineFreed.bcp.resetDue = true
    ↔ s.bcp.resetDue = true ∨ ∃ tag, s.bcp.line = some (.reply tag (.done .softReset)) := by
  change (s.bcp.resetDue || _) = true ↔ _
  rw [Bool.or_eq_true]
  refine or_congr Iff.rfl ?_
  cases s.bcp.line with
  | none => simp
  | some f =>
    rcases f with ⟨tag, r⟩ | ⟨number, set⟩
    · cases r with
      | done r => cases r <;> simp [HostFrame.isSoftResetDone]
      | refused why => simp [HostFrame.isSoftResetDone]
    · simp [HostFrame.isSoftResetDone]

theorem State.sendNotice_sent {s : State} (hmaster : s.ntu.master = true) (hpending : s.ntu.pending ≠ 0#44) :
    s.sendNotice = ({ s with ntu := { s.ntu with outstanding := false, number := (s.ntu.number + 1) % 256 } } :
      State).sendFrame (.notice ((s.ntu.number + 1) % 256) s.ntu.pending) := if_pos ⟨hmaster, hpending⟩

theorem State.sendNotice_cancelled {s : State} (h : s.ntu.master = false ∨ s.ntu.pending = 0#44) :
    s.sendNotice = { s with ntu := { s.ntu with outstanding := false } } := by
  refine if_neg fun ⟨hmaster, hpending⟩ => ?_
  rcases h with h | h
  · cases hmaster.symm.trans h
  · exact hpending h

theorem State.sendNotice_bcp (s : State) : s.sendNotice.bcp = { s.bcp with line := s.sendNotice.bcp.line } := by
  unfold State.sendNotice
  split <;> rfl

/-- With no refusal waiting and no reply built, nothing of the port moves but its line (R193). -/
theorem State.nextFrame_bcp {s : State} (htags : s.bcp.overrunTags = [])
    (h : s.bcp.cmds = [] ∨ ∃ kind tag body rest, s.bcp.cmds = ⟨kind, tag, body, none⟩ :: rest) :
    s.nextFrame.bcp = { s.bcp with line := s.nextFrame.bcp.line } := by
  rw [State.nextFrame_notice htags h]
  split
  · exact s.sendNotice_bcp
  · rfl

/-- Settles O18: the line's choice among the three kinds of frame, and the reset that no NOTICE goes before. -/
theorem transmitOrder : Obligations.TransmitOrder := by
  refine ⟨fun s hpin => ⟨fun tag rest htags => ?_, fun kind tag body r rest htags hcmds => ?_⟩,
    fun s hpin htags hcmds => ?_⟩
  · refine ⟨_, exec_transmitLineFree hpin, ?_⟩
    rw [State.nextFrame_overrun (s := s.lineFreed) htags]
    exact ⟨rfl, rfl, rfl, rfl⟩
  · refine ⟨_, exec_transmitLineFree hpin, ?_⟩
    rw [State.nextFrame_reply (s := s.lineFreed) htags hcmds]
    exact ⟨rfl, rfl, rfl⟩
  · have hnext := State.nextFrame_notice (s := s.lineFreed) htags hcmds
    refine ⟨_, exec_transmitLineFree hpin, ?_, ?_, fun hline hdue => ?_, fun hdue => ?_⟩
    · rw [State.nextFrame_bcp (s := s.lineFreed) htags hcmds]
      rfl
    · rw [State.nextFrame_bcp (s := s.lineFreed) htags hcmds]
      exact htags
    · have hnot : s.lineFreed.bcp.resetDue = false := by
        rw [← Bool.not_eq_true, State.lineFreed_resetDue]
        rintro (h | ⟨tag, h⟩)
        · cases hdue.symm.trans h
        · exact hline tag h
      refine ⟨by rw [State.nextFrame_bcp (s := s.lineFreed) htags hcmds]; exact hnot, fun hdue hmaster hpending => ?_,
        fun hdue hnone => ?_, fun hdue => ?_⟩
      · rw [hnext, if_pos ⟨hdue, hnot⟩, State.sendNotice_sent (s := s.lineFreed) hmaster hpending]
        exact ⟨rfl, rfl, rfl⟩
      · rw [hnext, if_pos ⟨hdue, hnot⟩, State.sendNotice_cancelled (s := s.lineFreed) hnone]
        exact ⟨rfl, rfl, rfl⟩
      · rw [hnext, if_neg (fun h => Bool.false_ne_true (hdue.symm.trans h.1))]
        exact ⟨rfl, rfl, rfl⟩
    · have hset : s.lineFreed.bcp.resetDue = true := s.lineFreed_resetDue.mpr hdue
      rw [hnext, if_neg (by simp [hset])]
      exact ⟨hset, rfl, rfl, rfl⟩

/-! ### The part that starts up -/

/-- The row of a command's kind executes the command of that kind. -/
theorem exec_hostRow {t : Instant} {kind : Nat} {i : Instr} (h : hostRow t kind = some i) (s : State) :
    ∃ owner, exec i s = runCommand kind s owner := by
  unfold hostRow at h
  split at h <;> cases h
  all_goals
    simp only [exec, execQueryWindows, execRetirePackage, execDeclarePackage, execAbortPackage, execQueryPackage,
      execSetIngest, execLoadLicence, execRevokeLicence, execQueryLicence, execReadLog, execCollectLog, execGoLive,
      execAssignLane, execHoldScreen, execReleaseScreen, execAppendItem, execRemoveItem, execClearQueue, execCue,
      execStart, execPause, execResume, execStop, execSeek, execSetLane, execLaneReset, execQueryLane, execGateStart,
      execGateStop, execQueryGate, execInjectPulses, execSetChannel, execQuerySound, execSetEnables, execClearEnables,
      execSetMaster, execAckNotice, execInjectNotice, execQueryPart, execSetTime, execSoftReset, runCommandAt]
    exact ⟨_, rfl⟩

/-- Settles O19: the port's check of the part state stands before every owner's. -/
theorem busyWhileStarting : Obligations.BusyWhileStarting := by
  intro s c t i hpin hpart hnext hkind hrow
  obtain ⟨owner, hexec⟩ := exec_hostRow hrow s
  rw [hexec]
  unfold runCommand portChecks
  rw [live_eq _ hpin, hnext]
  dsimp only
  rw [if_neg (fun hne => hne rfl), if_pos ⟨hpart, hkind⟩]
  rfl

end Sys2Proof.Machine
end

section
/-! PROOF. The commands of storage and ingest, and the merge of a range into a received-range list (R4 to R7, R24 to
R27, R41, R44, R47, R143). -/

namespace Sys2Proof.Machine

open Sys2Proof

/-! ### Host commands of a fixed length -/

/-- A command of its fixed length is what its owner answers, settled. -/
theorem runCommand_fixed {s : State} {kind n : Nat} {body : List Byte} (h : s.Commanded kind body)
    (hlen : body.length = n) (k : List Byte → State → Answer) :
    runCommand kind s (fun body s => fixedLength n body s (k body s)) = .next (k body s).state.settle := by
  rw [runCommand_eq _ h, fixedLength_eq _ _ hlen]

theorem exec_retirePackage {s : State} {body : List Byte} (h : s.Commanded 0x11 body) (hlen : body.length = 2) :
    exec .retirePackage s = .next (retirePackage (u16 body 0) s).state.settle :=
  runCommand_fixed h hlen fun body s => retirePackage (u16 body 0) s

/-- Settles O20: each outcome is a branch of the command at its owner. -/
theorem packageRetired : Obligations.PackageRetired := by
  intro s body hc hlen
  rw [exec_retirePackage hc hlen]
  unfold retirePackage
  refine ⟨fun h0 => ?_, fun h0 hfind => ?_, fun i e h0 hfind hret => ?_, fun i e h0 hfind hret hrefs => ?_,
    fun i e h0 hfind hret hrefs => ?_⟩
  · rw [h0]
    rfl
  · rw [identity_eq _ _ h0, hfind]
    rfl
  · rw [identity_eq _ _ h0, hfind]
    dsimp only
    rw [if_pos hret]
    rfl
  · rw [identity_eq _ _ h0, hfind]
    dsimp only
    rw [if_neg hret, if_pos hrefs]
    rfl
  · rw [identity_eq _ _ h0, hfind]
    dsimp only
    rw [if_neg hret, if_neg (Nat.ne_of_gt hrefs)]
    rfl

/-! ### Declarations -/

theorem Storage.request_queued {c : Storage} (slot : Nat) (h : c.status ≠ some .unavailable) :
    ∃ q ∈ (c.request slot).queue, q.slot = slot := by
  unfold Storage.request
  rw [if_neg h]
  split
  · rename_i hqueued
    obtain ⟨q, hq, hslot⟩ := List.any_eq_true.mp hqueued
    exact ⟨q, hq, eq_of_beq hslot⟩
  · exact ⟨⟨slot, false⟩, by simp, rfl⟩

/-- The search finds the first element that has the property. -/
theorem findFrom_first {α : Type} {p : α → Bool} {i k : Nat} {l : List α} {a : α} (h : findFrom p i l = some (k, a))
    {j : Nat} (hj : i + j < k) : ∃ b, l[j]? = some b ∧ p b = false := by
  induction l generalizing i j with
  | nil => cases h
  | cons b rest ih =>
    unfold findFrom at h
    split at h
    · cases h
      omega
    · rename_i hb
      cases j with
      | zero => exact ⟨b, rfl, Bool.eq_false_of_not_eq_true hb⟩
      | succ j => exact ih h (by omega)

theorem Storage.freeEntry_eq_some {c : Storage} {slot : Nat} (h : c.freeEntry = some slot) :
    c.table[slot]? = some none ∧ ∀ j, j < slot → ∃ e, c.table[j]? = some (some e) := by
  obtain ⟨⟨k, o⟩, hfind, rfl⟩ := Option.map_eq_some_iff.mp h
  refine ⟨?_, fun j hj => ?_⟩
  · obtain ⟨hnone, -, hget⟩ := findFrom_some hfind
    rwa [Nat.sub_zero, Option.isNone_iff_eq_none.mp hnone] at hget
  · obtain ⟨o, hget, hsome⟩ := findFrom_first hfind (j := j) (by rwa [Nat.zero_add])
    cases o with
    | none => cases hsome
    | some e => exact ⟨e, hget⟩

@[simp] theorem layoutFrom_length (d : Declaration) (start : Nat) (reels : List ReelDecl) :
    (layoutFrom d start reels).length = reels.length := by
  induction reels generalizing start with
  | nil => rfl
  | cons x reels ih => exact congrArg (· + 1) (ih _)

theorem layoutFrom_head (d : Declaration) {start : Nat} {reels : List ReelDecl} {z : ReelLayout}
    (h : (layoutFrom d start reels)[0]? = some z) : z.picture = start := by
  cases reels with
  | nil => cases h
  | cons x reels =>
    cases h
    rfl

/-- The blocks of a reel, region by region. -/
theorem reelBlocks_eq (d : Declaration) (x : ReelDecl) :
    d.reelBlocks x = x.frames * d.slotBlocks + x.frames * d.soundBlocks + x.cues := by
  unfold Declaration.reelBlocks
  rw [Nat.mul_add]

/-- Reel stands behind reel, and region behind region, the last one's end the end of all (R5). -/
theorem layoutFrom_getElem? (d : Declaration) {start r : Nat} {reels : List ReelDecl} {x : ReelDecl} {y : ReelLayout}
    (hx : reels[r]? = some x) (hy : (layoutFrom d start reels)[r]? = some y) :
    (r = 0 → y.picture = start) ∧ y.sound = y.picture + x.frames * d.slotBlocks
      ∧ y.subtitle = y.sound + x.frames * d.soundBlocks
      ∧ (∀ z, (layoutFrom d start reels)[r + 1]? = some z → z.picture = y.subtitle + x.cues)
      ∧ (r + 1 = reels.length → y.subtitle + x.cues = start + (reels.map d.reelBlocks).sum) := by
  induction reels generalizing start r with
  | nil => cases hx
  | cons w reels ih =>
    cases r with
    | zero =>
      cases hx
      cases hy
      refine ⟨fun _ => rfl, rfl, rfl, fun z hz => layoutFrom_head d hz, fun hlen => ?_⟩
      obtain rfl : reels = [] := List.length_eq_zero_iff.mp (Nat.succ.inj hlen).symm
      rw [List.map_singleton, List.sum_singleton, reelBlocks_eq]
      dsimp only
      omega
    | succ r =>
      obtain ⟨-, hsound, hsub, hnext, hend⟩ := ih hx hy
      refine ⟨nofun, hsound, hsub, hnext, fun hlen => ?_⟩
      rw [hend (Nat.succ.inj hlen), List.map_cons, List.sum_cons, reelBlocks_eq]
      omega

theorem newRecord_track {d : Declaration} {r : Nat} {x : ReelDecl} (h : d.reels[r]? = some x) (k : TrackKind) :
    (newRecord d).track r k = (newTracks d x).get k := by
  unfold PackageRecord.track newRecord
  dsimp only
  rw [List.getElem?_map, h]
  rfl

theorem exec_declarePackage {s : State} {body : List Byte} (h : s.Commanded 0x20 body) :
    exec .declarePackage s = .next (declarePackage body s).state.settle := runCommand_eq declarePackage h

/-- Behind the tests of its form a declaration is judged by its id, by the table's room, and by the array's. -/
theorem declarePackage_of_acceptable (s : State) {body : List Byte} (hlo : 1 ≤ u8 body 6) (hhi : u8 body 6 ≤ 12)
    (hlen : body.length = 7 + 6 * u8 body 6) (hok : (declared body).acceptable (u8 body 5) = true) :
    declarePackage body s =
      if (s.stc.find (declared body).packageId).isSome then .refused .badState s
      else match s.stc.freeEntry with
        | none => .refused .noRoom s
        | some slot => match s.stc.place (declared body).windowSize with
          | none => .refused .noSpace s
          | some base => .done (.placed base (base + (declared body).windowSize - 1))
            (s.addPackage (declared body) slot base) := by
  unfold declarePackage
  dsimp only
  rw [if_neg (by omega), if_neg (by omega), if_neg (fun hne => hne hlen), hok]
  rfl

/-- Settles O22: the branches of the command, then the window and the record that a placement makes. -/
theorem packageDeclared : Obligations.PackageDeclared := by
  refine ⟨fun s body hc hlo hhi hlen hok => ?_, ?_, fun c slot => Storage.freeEntry_eq_some, ?_, fun d => ?_, ?_,
    fun c => c.mem_occupied, fun c size base => Storage.place_eq_some⟩
  · rw [exec_declarePackage hc, declarePackage_of_acceptable s hlo hhi hlen hok]
    refine ⟨fun hsome => ?_, fun hfind hfree => ?_, fun slot hfind hfree hplace => ?_,
      fun slot base hfind hfree hplace => ⟨?_, ?_⟩⟩
    · rw [if_pos hsome]
      rfl
    · rw [hfind, hfree]
      rfl
    · rw [hfind, hfree, hplace]
      rfl
    · rw [hfind, hfree, hplace]
      rfl
    · unfold State.addPackage State.modStc
      dsimp only
      rw [Storage.request_eq]
      dsimp only
      rw [modifyAt_getElem?, if_pos rfl, (Storage.freeEntry_eq_some hfree).1]
      rfl
  · rintro s _ d slot base rfl
    unfold State.addPackage State.modStc
    dsimp only
    refine ⟨?_, fun j hj => ?_, fun hstatus => Storage.request_queued slot hstatus⟩
    · rw [Storage.request_eq]
    · rw [Storage.request_eq]
      dsimp only
      rw [modifyAt_getElem?, if_neg hj]
  · rintro d base _ rfl
    exact ⟨rfl, rfl, rfl, rfl, rfl, rfl, rfl, layoutFrom_length d base d.reels,
      fun r x y hx hy => layoutFrom_getElem? d hx hy⟩
  · refine ⟨?_, fun h0 => ?_, ?_, ?_⟩
    · unfold Declaration.windowSize
      rfl
    · unfold Declaration.soundBlocks Machine.soundBlocks
      rw [h0, Nat.zero_mul, Nat.zero_mul]
    all_goals
      unfold Declaration.soundBlocks Machine.soundBlocks spf
      omega
  · rintro d _ rfl
    refine ⟨rfl, rfl, rfl, rfl, List.length_map .., fun r x hx => ?_⟩
    rw [newRecord_track hx, newRecord_track hx, newRecord_track hx]
    exact ⟨rfl, rfl, rfl⟩

/-! ### Ingest commands -/

/-- Passing a slot on changes a ticket's slot alone. -/
@[simp] theorem Assembler.passOn_chunks (p : Assembler) (slot : Nat) :
    (p.passOn slot).tickets.map Ticket.chunk = p.tickets.map Ticket.chunk := by
  unfold Assembler.passOn
  split
  · rfl
  · rename_i i t _
    exact map_modifyAt_eq (g := fun t : Ticket => { t with slot := some slot }) (fun _ => rfl) i p.tickets

@[simp] theorem Assembler.passOnAll_chunks (p : Assembler) (slots : List Nat) :
    (p.passOnAll slots).tickets.map Ticket.chunk = p.tickets.map Ticket.chunk := by
  unfold Assembler.passOnAll
  induction sortBy (fun a b => decide (a ≤ b)) slots generalizing p with
  | nil => rfl
  | cons a rest ih => rw [List.foldl_cons, ih, Assembler.passOn_chunks]

/-- Slots passed on change the slots and the tickets alone. -/
theorem Assembler.passOn_eq (p : Assembler) (slot : Nat) :
    p.passOn slot = { p with staging := (p.passOn slot).staging, tickets := (p.passOn slot).tickets } := by
  unfold Assembler.passOn
  split <;> rfl

theorem Assembler.passOnAll_eq (p : Assembler) (slots : List Nat) : p.passOnAll slots
    = { p with staging := (p.passOnAll slots).staging, tickets := (p.passOnAll slots).tickets } := by
  unfold Assembler.passOnAll
  induction sortBy (fun a b => decide (a ≤ b)) slots generalizing p with
  | nil => rfl
  | cons a rest ih =>
    rw [List.foldl_cons, ih, Assembler.passOn_eq]

theorem Assembler.passOnAll_setting (p : Assembler) (slots : List Nat) : (p.passOnAll slots).setting = p.setting := by
  rw [Assembler.passOnAll_eq]

theorem State.expireTickets_setting (s : State) : s.expireTickets.pka.setting = s.pka.setting := by
  unfold State.expireTickets
  dsimp only
  split
  · rfl
  · exact Assembler.passOnAll_setting _ _

theorem State.expireTickets_chunks (s : State) : s.expireTickets.pka.tickets.map Ticket.chunk
    = (s.pka.tickets.filter fun x => !(x.expired s.clock.ticks s.pka.setting)).map Ticket.chunk := by
  unfold State.expireTickets
  dsimp only
  split
  · rename_i hnone
    have hall : ∀ x ∈ s.pka.tickets, Ticket.expired s.clock.ticks s.pka.setting x = false := by
      simpa using hnone
    rw [List.filter_eq_self.mpr fun x hx => by rw [hall x hx]; rfl]
  · exact Assembler.passOnAll_chunks _ _

/-- Settles O23: each outcome is a branch of the command at its owner. -/
theorem ingestCommands : Obligations.IngestCommands := by
  refine ⟨⟨fun s body i e hc hlen h0 hfind => ?_, fun s body => ⟨fun hc hlen h0 => ?_, fun hc hlen h0 => ?_⟩,
    fun s body hc hlen => ?_⟩, fun s hc => ?_, fun s body i e r hc hlen h0 hfind hreel => ?_⟩
  · have hexec : exec .abortPackage s = _ := runCommand_fixed hc hlen fun body s => abortPackage (u16 body 0) s
    rw [hexec]
    unfold abortPackage
    rw [identity_eq _ _ h0, hfind]
    dsimp only
    refine ⟨fun hrefs => ?_, fun hrefs => ?_⟩
    · rw [if_pos hrefs]
      rfl
    · rw [if_neg (by omega)]
      rfl
  · have hexec : exec .abortPackage s = _ := runCommand_fixed hc hlen fun body s => abortPackage (u16 body 0) s
    rw [hexec, h0]
    rfl
  · have hexec : exec .queryPackage s = _ :=
      runCommand_fixed hc hlen fun body s => queryPackage (u16 body 0) (u8 body 2) s
    rw [hexec, h0]
    rfl
  · have hexec : exec .setIngest s = _ := runCommand_fixed hc hlen fun body s => setIngest (u8 body 0) s
    rw [hexec]
    refine ⟨fun h1 => ?_, fun h0 => ?_, fun hbig => ?_⟩
    · rw [h1]
      rfl
    · rw [h0]
      refine ⟨_, rfl, ?_, ?_⟩
      · rw [State.settle_setting]
        exact State.expireTickets_setting _
      · rw [State.settle_tickets]
        exact State.expireTickets_chunks _
    · obtain ⟨n, hn⟩ : ∃ n, u8 body 0 = n + 2 := ⟨u8 body 0 - 2, by omega⟩
      rw [hn]
      rfl
  · exact runCommand_fixed hc rfl fun _ s => .done (.windows s.stc.report) s
  · have hexec : exec .queryPackage s = _ :=
      runCommand_fixed hc hlen fun body s => queryPackage (u16 body 0) (u8 body 2) s
    rw [hexec]
    unfold queryPackage
    rw [identity_eq _ _ h0, hfind]
    dsimp only
    rw [hreel]
    rfl

/-! ### Received-range lists -/

/-- The form of a received-range list without its order of writing: no range empty, each before the next and apart. -/
theorem ascending_iff (l : List Span) :
    Ascending l ↔ (∀ a ∈ l, a.lo < a.hi) ∧ l.Pairwise fun a b => a.hi < b.lo := by
  induction l with
  | nil => simp [Ascending]
  | cons a rest ih =>
    cases rest with
    | nil => simp [Ascending]
    | cons b rest =>
      change a.lo < a.hi ∧ a.hi < b.lo ∧ Ascending (b :: rest) ↔ _
      rw [ih, List.forall_mem_cons (l := b :: rest), List.pairwise_cons (l := b :: rest)]
      refine ⟨fun ⟨ha, hab, hall, hpair⟩ => ⟨⟨ha, hall⟩, ?_, hpair⟩,
        fun ⟨⟨ha, hall⟩, hapart, hpair⟩ => ⟨ha, hapart b List.mem_cons_self, hall, hpair⟩⟩
      intro x hx
      rcases List.mem_cons.mp hx with rfl | hx
      · exact hab
      · exact hab.trans ((hall b List.mem_cons_self).trans ((List.pairwise_cons.mp hpair).1 x hx))

/-- An element inserted among others that it stands in order with. -/
theorem insertBy_pairwise_of {α : Type} {le : α → α → Bool} {R : α → α → Prop} (a : α) {l : List α}
    (hle : ∀ b ∈ l, le a b = true → R a b) (hgt : ∀ b ∈ l, le a b = false → R b a)
    (htrans : ∀ b ∈ l, ∀ c ∈ l, R a b → R b c → R a c) (h : l.Pairwise R) : (insertBy le a l).Pairwise R := by
  induction l with
  | nil => exact List.pairwise_singleton _ _
  | cons b rest ih =>
    obtain ⟨hb, hrest⟩ := List.pairwise_cons.mp h
    unfold insertBy
    split
    · rename_i hab
      refine List.pairwise_cons.mpr ⟨fun x hx => ?_, h⟩
      rcases List.mem_cons.mp hx with rfl | hmem
      · exact hle x hx hab
      · exact htrans b List.mem_cons_self x hx (hle b List.mem_cons_self hab) (hb x hmem)
    · rename_i hab
      refine List.pairwise_cons.mpr ⟨fun x hx => ?_, ih (fun x hx => hle x (List.mem_cons_of_mem _ hx))
        (fun x hx => hgt x (List.mem_cons_of_mem _ hx))
        (fun x hx y hy => htrans x (List.mem_cons_of_mem _ hx) y (List.mem_cons_of_mem _ hy)) hrest⟩
      rcases (mem_insertBy le a x rest).mp hx with rfl | hx
      · exact hgt b List.mem_cons_self (Bool.eq_false_of_not_eq_true hab)
      · exact hb x hx

/-- The join of ranges holds each of them. -/
theorem foldl_join_holds (l : List Span) (n : Span) :
    ((l.foldl Span.join n).lo ≤ n.lo ∧ n.hi ≤ (l.foldl Span.join n).hi)
      ∧ ∀ x ∈ l, (l.foldl Span.join n).lo ≤ x.lo ∧ x.hi ≤ (l.foldl Span.join n).hi := by
  induction l generalizing n with
  | nil => simp
  | cons a rest ih =>
    obtain ⟨⟨hlo, hhi⟩, hall⟩ := ih (n.join a)
    exact ⟨⟨hlo.trans (Nat.min_le_left _ _), (Nat.le_max_left _ _).trans hhi⟩, List.forall_mem_cons.mpr
      ⟨⟨hlo.trans (Nat.min_le_right _ _), (Nat.le_max_right _ _).trans hhi⟩, hall⟩⟩

/-- The join of ranges begins with one of them and ends with one. -/
theorem foldl_join_ends (l : List Span) (n : Span) :
    (∃ x ∈ n :: l, (l.foldl Span.join n).lo = x.lo) ∧ ∃ x ∈ n :: l, (l.foldl Span.join n).hi = x.hi := by
  induction l generalizing n with
  | nil => exact ⟨⟨n, List.mem_cons_self, rfl⟩, n, List.mem_cons_self, rfl⟩
  | cons a rest ih =>
    obtain ⟨⟨x, hx, hlo⟩, y, hy, hhi⟩ := ih (n.join a)
    refine ⟨?_, ?_⟩
    · rcases List.mem_cons.mp hx with rfl | hx
      · rcases Nat.le_total n.lo a.lo with hle | hle
        · exact ⟨n, List.mem_cons_self, hlo.trans (Nat.min_eq_left hle)⟩
        · exact ⟨a, List.mem_cons_of_mem _ List.mem_cons_self, hlo.trans (Nat.min_eq_right hle)⟩
      · exact ⟨x, List.mem_cons_of_mem _ (List.mem_cons_of_mem _ hx), hlo⟩
    · rcases List.mem_cons.mp hy with rfl | hy
      · rcases Nat.le_total n.hi a.hi with hle | hle
        · exact ⟨a, List.mem_cons_of_mem _ List.mem_cons_self, hhi.trans (Nat.max_eq_right hle)⟩
        · exact ⟨n, List.mem_cons_self, hhi.trans (Nat.max_eq_left hle)⟩
      · exact ⟨y, List.mem_cons_of_mem _ (List.mem_cons_of_mem _ hy), hhi⟩

theorem Span.touches_iff (a b : Span) : a.touches b = true ↔ a.lo ≤ b.hi ∧ b.lo ≤ a.hi := by
  simp [Span.touches]

/-- The range that a merge puts in: the join of the range with those it touches (R27). -/
def joined (l : List Span) (n : Span) : Span := (l.filter n.touches).foldl Span.join n

theorem mergeSpan_eq (l : List Span) (n : Span) : mergeSpan l n
    = insertBy (fun a b => a.lo ≤ b.lo) (joined l n) (l.filter fun r => !(n.touches r)) := rfl

theorem mem_others {l : List Span} {n x : Span} :
    x ∈ l.filter (fun r => !(n.touches r)) ↔ x ∈ l ∧ (x.hi < n.lo ∨ n.hi < x.lo) := by
  rw [List.mem_filter, Bool.not_eq_true', ← Bool.not_eq_true, Span.touches_iff]
  refine and_congr_right fun _ => ?_
  omega

theorem mem_touched {l : List Span} {n x : Span} : x ∈ l.filter n.touches ↔ x ∈ l ∧ n.lo ≤ x.hi ∧ x.lo ≤ n.hi := by
  rw [List.mem_filter, Span.touches_iff]

theorem joined_holds (l : List Span) (n : Span) : ((joined l n).lo ≤ n.lo ∧ n.hi ≤ (joined l n).hi)
    ∧ ∀ x ∈ l, n.lo ≤ x.hi → x.lo ≤ n.hi → (joined l n).lo ≤ x.lo ∧ x.hi ≤ (joined l n).hi :=
  ⟨(foldl_join_holds _ n).1, fun x hx hlo hhi => (foldl_join_holds _ n).2 x (mem_touched.mpr ⟨hx, hlo, hhi⟩)⟩

/-- The join begins and ends with the range itself or with a range it touches. -/
theorem joined_ends (l : List Span) (n : Span) :
    ((joined l n).lo = n.lo ∨ ∃ x ∈ l, (n.lo ≤ x.hi ∧ x.lo ≤ n.hi) ∧ (joined l n).lo = x.lo)
      ∧ ((joined l n).hi = n.hi ∨ ∃ x ∈ l, (n.lo ≤ x.hi ∧ x.lo ≤ n.hi) ∧ (joined l n).hi = x.hi) := by
  obtain ⟨⟨x, hx, hlo⟩, y, hy, hhi⟩ := foldl_join_ends (l.filter n.touches) n
  refine ⟨?_, ?_⟩
  · rcases List.mem_cons.mp hx with rfl | hx
    · exact .inl hlo
    · exact .inr ⟨x, (mem_touched.mp hx).1, (mem_touched.mp hx).2, hlo⟩
  · rcases List.mem_cons.mp hy with rfl | hy
    · exact .inl hhi
    · exact .inr ⟨y, (mem_touched.mp hy).1, (mem_touched.mp hy).2, hhi⟩

/-- The join is apart from every range that the range itself does not touch. -/
theorem joined_apart {l : List Span} {n x : Span} (hl : Ascending l) (hx : x ∈ l) (hside : x.hi < n.lo ∨ n.hi < x.lo) :
    x.hi < (joined l n).lo ∨ (joined l n).hi < x.lo := by
  obtain ⟨hvalid, hpair⟩ := (ascending_iff l).mp hl
  have hxv := hvalid x hx
  have hapart : ∀ y ∈ l, n.lo ≤ y.hi ∧ y.lo ≤ n.hi → x.hi < y.lo ∨ y.hi < x.lo := fun y hy ht => by
    have : Std.Symm fun a b : Span => a.hi < b.lo ∨ b.hi < a.lo := ⟨fun _ _ => Or.symm⟩
    refine (hpair.imp (S := fun a b => a.hi < b.lo ∨ b.hi < a.lo) .inl).forall hx hy ?_
    rintro rfl
    omega
  obtain ⟨hlow, hhigh⟩ := joined_ends l n
  rcases hside with hside | hside
  · rcases hlow with hlow | ⟨y, hy, ht, hlow⟩
    · exact .inl (hlow ▸ hside)
    · rcases hapart y hy ht with h | h
      · exact .inl (hlow ▸ h)
      · clear hhigh
        omega
  · rcases hhigh with hhigh | ⟨y, hy, ht, hhigh⟩
    · exact .inr (hhigh ▸ hside)
    · rcases hapart y hy ht with h | h
      · clear hlow
        omega
      · exact .inr (hhigh ▸ h)

/-- A unit of the join is of the range itself or of a range it touches. -/
theorem joined_unit {l : List Span} {n : Span} {u : Nat} (hlo : (joined l n).lo ≤ u) (hhi : u < (joined l n).hi) :
    (n.lo ≤ u ∧ u < n.hi) ∨ holdsUnit l u := by
  obtain ⟨hlow, hhigh⟩ := joined_ends l n
  by_cases hbelow : u < n.lo
  · rcases hlow with hlow | ⟨y, hy, ht, hlow⟩
    · exact absurd (hlow ▸ hlo) (Nat.not_le_of_lt hbelow)
    · exact .inr ⟨y, hy, hlow ▸ hlo, hbelow.trans_le ht.1⟩
  · by_cases habove : u < n.hi
    · exact .inl ⟨Nat.le_of_not_lt hbelow, habove⟩
    · rcases hhigh with hhigh | ⟨y, hy, ht, hhigh⟩
      · exact absurd (hhigh ▸ hhi) habove
      · exact .inr ⟨y, hy, ht.2.trans (Nat.le_of_not_lt habove), hhigh ▸ hhi⟩

/-- Settles O24: the join stands in order among the ranges it is apart from, and holds the units of those it replaces. -/
theorem mergeKeepsForm : Obligations.MergeKeepsForm := by
  intro l n hl hn
  obtain ⟨hvalid, hpair⟩ := (ascending_iff l).mp hl
  obtain ⟨⟨hlo, hhi⟩, htouched⟩ := joined_holds l n
  have hclear : ∀ x ∈ l.filter (fun r => !(n.touches r)), x.lo < x.hi ∧ (x.hi < (joined l n).lo ∨ (joined l n).hi < x.lo) :=
    fun x hx => ⟨hvalid x (mem_others.mp hx).1, joined_apart hl (mem_others.mp hx).1 (mem_others.mp hx).2⟩
  have hjoin : (joined l n).lo < (joined l n).hi := hlo.trans_lt (hn.trans_le hhi)
  rw [mergeSpan_eq]
  refine ⟨(ascending_iff _).mpr ⟨fun x hx => ?_, insertBy_pairwise_of _ (fun x hx hle => ?_) (fun x hx hgt => ?_)
    (fun x hx y hy h1 h2 => h1.trans ((hclear x hx).1.trans h2)) (hpair.sublist List.filter_sublist)⟩, ?_,
    fun u => ⟨?_, ?_⟩⟩
  · rcases (mem_insertBy _ _ _ _).mp hx with rfl | hx
    · exact hjoin
    · exact (hclear x hx).1
  · have := hclear x hx
    have := of_decide_eq_true hle
    omega
  · have := hclear x hx
    have := of_decide_eq_false hgt
    omega
  · rw [insertBy_length]
    exact Nat.succ_le_succ (List.length_filter_le _ _)
  · rintro ⟨x, hx, hu⟩
    rcases (mem_insertBy _ _ _ _).mp hx with rfl | hx
    · exact joined_unit hu.1 hu.2
    · exact .inr ⟨x, (mem_others.mp hx).1, hu⟩
  · rintro (hu | ⟨x, hx, hu⟩)
    · exact ⟨_, (mem_insertBy _ _ _ _).mpr (.inl rfl), hlo.trans hu.1, hu.2.trans_le hhi⟩
    · by_cases ht : n.lo ≤ x.hi ∧ x.lo ≤ n.hi
      · obtain ⟨hxlo, hxhi⟩ := htouched x hx ht.1 ht.2
        exact ⟨_, (mem_insertBy _ _ _ _).mpr (.inl rfl), hxlo.trans hu.1, hu.2.trans_le hxhi⟩
      · exact ⟨x, (mem_insertBy _ _ _ _).mpr (.inr (mem_others.mpr ⟨hx, by omega⟩)), hu⟩

end Sys2Proof.Machine
end

section
/-! PROOF. The commands of the showing counter, and the checks of a promotion (R52, R53, R56, R58, R69 to R71). -/

namespace Sys2Proof.Machine

open Sys2Proof

/-! ### LOAD_LICENCE -/

theorem u8_lt (b : List Byte) (i : Nat) : u8 b i < 256 := (b.getD i 0#8).isLt

theorem u16_lt (b : List Byte) (i : Nat) : u16 b i < 65536 := by
  have h0 := u8_lt b i
  have h1 := u8_lt b (i + 1)
  unfold u16
  omega

/-- A licence changed by a function that keeps its id is found changed, and every other as it was. -/
theorem Showings.find_modLicence (h : Showings) (id k : Nat) {f : Licence → Licence} (hf : ∀ c, c.id = id → (f c).id = id) :
    (h.modLicence id f).find k = if k = id then (h.find k).map f else h.find k := by
  unfold Showings.modLicence Showings.find
  dsimp only
  induction h.licences with
  | nil => simp
  | cons c rest ih =>
    rw [List.map_cons, List.find?_cons, List.find?_cons, ih]
    by_cases hid : c.id = id
    · rw [if_pos hid, hf c hid, hid]
      by_cases hk : k = id
      · simp [hk]
      · simp [hk, beq_eq_false_iff_ne.mpr (Ne.symm hk)]
    · rw [if_neg hid]
      by_cases hk : k = id
      · simp [hk, beq_eq_false_iff_ne.mpr hid]
      · simp [hk]

/-- A licence put in is the record of its id, and no other record changes (R53). -/
theorem Showings.find_putLicence (h : Showings) (c : Licence) (id : Nat) :
    (h.putLicence c).find id = if id = c.id then some c else h.find id := by
  unfold Showings.putLicence
  split
  · rename_i hknown
    obtain ⟨old, hold⟩ := Option.isSome_iff_exists.mp hknown
    rw [Showings.find_modLicence h c.id id fun _ _ => rfl]
    refine ite_congr rfl (fun hid => ?_) fun _ => rfl
    rw [hid, hold]
    rfl
  · rename_i hnew
    have hnone : h.find c.id = none := by simpa using hnew
    unfold Showings.find at *
    dsimp only
    rw [List.find?_append]
    by_cases hid : id = c.id
    · rw [hid, hnone, if_pos rfl]
      simp
    · rw [if_neg hid]
      simp [Ne.symm hid]

theorem exec_loadLicence {s : State} {body : List Byte} (h : s.Commanded 0x30 body) (hlen : body.length = 17) :
    exec .loadLicence s = .next (loadLicence body s).state.settle :=
  runCommand_fixed h hlen loadLicence

/-- A licence neither revoked nor behind its last instant is SPENT or VALID (R52). -/
theorem Licence.state_of_current (c : Licence) {booth : Option Nat} (hrev : c.revoked = false)
    (hin : ∀ now, booth = some now → now ≤ c.notAfter) :
    c.state booth = if 0 < c.maxShowings ∧ c.count = c.maxShowings then .spent else .valid := by
  unfold Licence.state
  rw [if_neg (by simp [hrev])]
  cases booth with
  | none => rfl
  | some now => exact if_neg (by simpa using hin now rfl)

/-- Settles O30: the clamped fields, and the first of the licence's states that applies. -/
theorem licenceLoaded : Obligations.LicenceLoaded := by
  refine ⟨fun s body hc hlen hid hpid hdates hheld hopen hroom => ⟨?_, ?_, fun id hne => ?_⟩, ?_, fun c booth => ?_⟩
  · rw [exec_loadLicence hc hlen]
    unfold loadLicence
    dsimp only
    rw [if_neg (by simp [hid, hpid]), if_neg (Nat.not_lt_of_le hdates), if_neg (by simp [hheld, hopen]),
      if_neg fun hfull => hroom.elim hfull.1 (Nat.not_lt_of_le hfull.2)]
    rfl
  · rw [Showings.find_putLicence, if_pos rfl]
  · rw [Showings.find_putLicence, if_neg hne]
  · rintro body _ rfl
    have hcount := u16_lt body 14
    unfold loadedLicence clampNat
    dsimp only
    refine ⟨rfl, rfl, rfl, rfl, ?_, rfl, fun h0 => ?_, fun hlim => ?_, ?_⟩
    · split <;> omega
    · rw [if_neg (by omega)]
      omega
    · rw [if_pos hlim]
      split <;> omega
    · split
      · omega
      · split <;> omega
  · refine ⟨fun hrev => if_pos hrev, fun now hrev hnow hafter => ?_, fun hrev hin => ?_⟩
    · unfold Licence.state
      rw [if_neg (by simp [hrev]), hnow]
      exact if_pos (decide_eq_true hafter)
    · have hstate := c.state_of_current hrev hin
      refine ⟨fun hlim hspent => ?_, fun hleft => ?_⟩
      · exact hstate.trans (if_pos ⟨hlim, hspent⟩)
      · exact hstate.trans (if_neg fun ⟨hlim, hspent⟩ => hleft.elim (fun h0 => by omega) fun hne => hne hspent)

/-! ### Promotion -/

/-- A promotion that every check lets pass. -/
theorem promotionFailure_of_checks {s : State} {lic pid now : Nat} {c : Licence} (hnow : s.clock.booth = some now)
    (hfind : s.shc.find lic = some c) (hpid : c.packageId = pid) (hrev : c.state (some now) ≠ .revoked)
    (hexp : c.state (some now) ≠ .expired) (hyet : c.notBefore ≤ now)
    (hspent : c.maxShowings = 0 ∨ c.count + s.shc.heldOf lic < c.maxShowings)
    (hocc : s.shc.occupancy < 256) (hseq : s.shc.nextSeq ≤ top32) : promotionFailure s lic pid = none := by
  unfold promotionFailure
  rw [hnow]
  dsimp only
  rw [hfind]
  dsimp only
  rw [if_neg (fun hne => hne hpid), if_neg hrev, if_neg hexp, if_neg (Nat.not_lt_of_le hyet), if_neg (by omega),
    if_neg (by omega)]

/-- Settles O32: the checks of R58, none of which fails. -/
theorem promotionChecks : Obligations.PromotionChecks := by
  intro s lic pid
  refine ⟨fun h => promotionFailure_eq_none h, ?_⟩
  rintro ⟨now, c, hnow, hfind, hpid, hrev, hexp, hyet, hspent, hocc, hseq⟩
  exact promotionFailure_of_checks hnow hfind hpid hrev hexp hyet hspent hocc hseq

/-! ### Reports, the log's collection and the mode -/

/-- Settles O34: each command at its owner, and what a collection keeps. -/
theorem showingCommands : Obligations.ShowingCommands := by
  refine ⟨fun s body c hc hlen hid hfind => ?_, fun s body hc hlen hfirst hseq => ?_, fun s body hc hlen => ?_,
    fun h n => ⟨rfl, List.filter_sublist, fun r => ?_⟩, fun s hc hmode hidle => ?_⟩
  · have hexec : exec .queryLicence s = _ := runCommand_fixed hc hlen fun body s => queryLicence (u16 body 0) s
    rw [hexec]
    unfold queryLicence
    rw [if_neg hid, hfind]
    rfl
  · have hexec : exec .readLog s = _ := runCommand_fixed hc hlen fun body s => readLog (u32 body 0) (u8 body 4) s
    rw [hexec]
    unfold readLog
    rw [if_neg (by omega)]
    rfl
  · exact runCommand_fixed hc hlen fun body s => collectLog (u32 body 0) s
  · change r ∈ h.log.filter _ ↔ _
    rw [List.mem_filter, Bool.or_eq_true, decide_eq_true_eq]
    unfold ShowRecord.isOpen
    rw [beq_iff_eq]
  · have hexec : exec .goLive s = _ := runCommand_fixed hc rfl fun _ s => goLive s
    have hall : fours.all (fun l => (s.lane l).pl.state == .idle) = true :=
      List.all_eq_true.mpr fun l _ => beq_iff_eq.mpr (hidle l)
    rw [hexec]
    unfold goLive
    rw [if_neg (by simp [hmode]), if_pos hall]
    rfl

end Sys2Proof.Machine
end

section
/-! PROOF. The notice unit's commands, the part's, and the arithmetic of slips, rates and samples (R133, R135 to R138,
R182, R184 to R187, R197 to R199). -/

namespace Sys2Proof.Machine

open Sys2Proof

/-! ### Notices -/

/-- New sets make a NOTICE due by what the pending set gains. -/
theorem Notices.became_withSets (u : Notices) (raised enabled : BitVec 44) :
    u.Became (u.withSets raised enabled) raised enabled := by
  refine ⟨rfl, rfl, rfl, rfl, ?_⟩
  change (u.outstanding || (u.master && ((raised &&& enabled) &&& ~~~ u.pending) != 0#44)) = true ↔ _
  rw [Bool.or_eq_true, Bool.and_eq_true, bne_iff_ne]
  exact Iff.rfl

/-- A command that carries a source set, of the right length and with no number above 43. -/
theorem runCommand_sources {s : State} {kind : Nat} {body : List Byte} (h : s.Commanded kind body)
    (hlen : body.length = 6) (hset : sourceSet body < 2 ^ 44) (k : BitVec 44 → State → Answer) :
    runCommand kind s (fun body s => sourceCommand body s (fun set => k set s))
      = .next (k (BitVec.ofNat 44 (sourceSet body)) s).state.settle := by
  rw [runCommand_eq _ h, sourceCommand, fixedLength_eq _ _ hlen, if_neg (Nat.not_le_of_lt hset)]

theorem runCommand_sources_refused {s : State} {kind : Nat} {body : List Byte} (h : s.Commanded kind body)
    (hlen : body.length = 6) (hset : 2 ^ 44 ≤ sourceSet body) (k : BitVec 44 → State → Answer) :
    runCommand kind s (fun body s => sourceCommand body s (fun set => k set s))
      = .next (s.answered (.refused .badValue)) := by
  rw [runCommand_eq _ h, sourceCommand, fixedLength_eq _ _ hlen, if_pos hset]
  rfl

/-- Settles O56: each command leaves new sets, whose gain makes a NOTICE due, or changes the master. -/
theorem noticeCommands : Obligations.NoticeCommands := by
  refine ⟨fun s body set hlen hsmall hset => ?_, fun s body hlen hbig => ⟨fun hc => ?_, fun hc => ?_, fun hc => ?_,
    fun hc => ?_⟩, fun s body hc hlen => ?_⟩
  · subst hset
    refine ⟨fun hc => ⟨_, runCommand_sources hc hlen hsmall fun set s => doneNotices s fun u => u.enable set,
        s.ntu.became_withSets _ _⟩,
      fun hc => ⟨_, runCommand_sources hc hlen hsmall fun set s => doneNotices s fun u => u.disable set,
        s.ntu.became_withSets _ _⟩,
      fun hc => ⟨_, runCommand_sources hc hlen hsmall fun set s => doneNotices s fun u => u.ack set,
        s.ntu.became_withSets _ _⟩, fun hc hmode => ?_, fun hc hmode => ?_⟩
    · refine ⟨s.ntu.raiseSet (BitVec.ofNat 44 (sourceSet body)), ?_, s.ntu.became_withSets _ _⟩
      have hexec : exec .injectNotice s = _ := runCommand_sources hc hlen hsmall injectNotice
      rw [hexec, injectNotice, if_neg (by simp [hmode])]
      rfl
    · have hexec : exec .injectNotice s = _ := runCommand_sources hc hlen hsmall injectNotice
      rw [hexec, injectNotice, if_pos hmode]
      rfl
  · exact runCommand_sources_refused hc hlen hbig fun set s => doneNotices s fun u => u.enable set
  · exact runCommand_sources_refused hc hlen hbig fun set s => doneNotices s fun u => u.disable set
  · exact runCommand_sources_refused hc hlen hbig fun set s => doneNotices s fun u => u.ack set
  · exact runCommand_sources_refused hc hlen hbig injectNotice
  · have hexec : exec .setMaster s = _ := runCommand_fixed hc hlen fun body s => setMaster (u8 body 0) s
    rw [hexec]
    refine ⟨fun h1 => ?_, fun h0 => ?_, fun hmore => ?_⟩
    · rw [h1]
      refine ⟨s.ntu.setMaster true, rfl, rfl, rfl, rfl, rfl, ?_⟩
      change (s.ntu.outstanding || s.ntu.pending != 0#44) = true ↔ _
      rw [Bool.or_eq_true, bne_iff_ne]
      exact Iff.rfl
    · rw [h0]
      exact ⟨s.ntu.setMaster false, rfl, rfl, rfl, rfl, rfl, rfl⟩
    · obtain ⟨n, hn⟩ : ∃ n, u8 body 0 = n + 2 := ⟨u8 body 0 - 2, by omega⟩
      rw [hn]
      rfl

/-! ### The part -/

theorem Showings.expires_iff (h : Showings) (before after : Option Nat) : h.Expires before after
    ↔ h.licences.any (fun c => (c.state before == .valid || c.state before == .spent) && c.state after == .expired)
      = true := by
  simp [Showings.Expires]

theorem State.expireLicences_of {s : State} {before after : Option Nat} (h : s.shc.Expires before after) :
    s.expireLicences before after = s.raise srcLicenceExpired := if_pos ((s.shc.expires_iff before after).mp h)

theorem State.expireLicences_of_not {s : State} {before after : Option Nat} (h : ¬ s.shc.Expires before after) :
    s.expireLicences before after = s := if_neg fun hany => h ((s.shc.expires_iff before after).mpr hany)

/-- A change of booth time raises LICENCE_EXPIRED or nothing, and moves the booth time alone besides (R52, R197). -/
theorem State.setBooth_eq (s : State) (now : Nat) :
    s.setBooth now = { s with clock := { s.clock with booth := some now }, ntu := (s.setBooth now).ntu } := by
  unfold State.setBooth State.expireLicences
  split <;> rfl

theorem State.setBooth_ntu_of {s : State} {now : Nat} (h : s.shc.Expires s.clock.booth (some now)) :
    (s.setBooth now).ntu.raised.getLsbD srcLicenceExpired = true := by
  unfold State.setBooth
  rw [State.expireLicences_of (s := { s with clock := { s.clock with booth := some now } }) h]
  exact State.raise_raised _ (show 40 < 44 by decide)

theorem State.setBooth_of_not {s : State} {now : Nat} (h : ¬ s.shc.Expires s.clock.booth (some now)) :
    s.setBooth now = { s with clock := { s.clock with booth := some now } } := by
  unfold State.setBooth
  exact State.expireLicences_of_not h

theorem exec_setTime {s : State} {body : List Byte} (h : s.Commanded 0x81 body) (hlen : body.length = 4) :
    exec .setTime s = .next ((({ s with clock := { s.clock with sub := 0 } } : State).setBooth (u32 body 0)).answered
      (.done (.time (u32 body 0) s.clock.booth))) :=
  runCommand_fixed h hlen fun body s => setTime (u32 body 0) s

/-- Settles O57: the commands at their owners; a change of booth time raises LICENCE_EXPIRED or nothing. -/
theorem partCommands : Obligations.PartCommands := by
  refine ⟨fun s tag hpin hnext => ?_, fun s body hc hlen => ⟨_, exec_setTime hc hlen, ?_⟩, fun s hc => ?_⟩
  · have hexec : exec .queryPart s
      = runCommand 0x80 s fun body s => fixedLength 0 body s (.done (.part (partReport s)) s) := rfl
    rw [hexec]
    unfold runCommand portChecks
    rw [live_eq _ hpin, hnext]
    dsimp only
    rw [if_neg (fun hne => hne rfl), if_neg (fun hne => hne.2 rfl)]
    rfl
  · have hset := ({ s with clock := { s.clock with sub := 0 } } : State).setBooth_eq (u32 body 0)
    unfold State.answered
    rw [State.settle_licences, State.settle_held, State.settle_link, State.settle_clock, State.settle_bcp]
    refine ⟨?_, ?_, ?_, ?_, ?_, ?_, ?_, fun hexp => ?_, fun hexp => ?_⟩
    · rw [hset]
      rfl
    · rw [hset]
      rfl
    · rw [hset]
      rfl
    · rw [hset]
      rfl
    · rw [hset]
      rfl
    · rw [hset]
      rfl
    · rw [hset]
      rfl
    · exact State.settle_raised
        (State.setBooth_ntu_of (s := { s with clock := { s.clock with sub := 0 } }) hexp)
    · rw [State.setBooth_of_not (s := { s with clock := { s.clock with sub := 0 } }) hexp]
  · exact runCommand_fixed hc rfl fun _ s => askSoftReset s

/-! ### Arithmetic -/

theorem slipOf_natAbs (e : Int) (most : Nat) : (slipOf e most).natAbs = min e.natAbs most := by
  unfold slipOf clampInt
  omega

/-- A slip that is not 0 has the error's sign. -/
theorem slipOf_pos_iff {e : Int} {most : Nat} (h : 0 < most) : 0 < slipOf e most ↔ 0 < e := by
  unfold slipOf clampInt
  omega

theorem slipSchedule_length (start samples : Nat) (x : Int) : (slipSchedule start samples x).length = x.natAbs := by
  simp [slipSchedule]

/-- The jth correction stands j equal parts of the frame interval behind the pulse (R133). -/
theorem slipSchedule_getElem? (start samples : Nat) {x : Int} {j : Nat} (h : j < x.natAbs) :
    (slipSchedule start samples x)[j]?
      = some ⟨start + (j + 1) * (samples / (x.natAbs + 1)), decide (0 < x)⟩ := by
  unfold slipSchedule
  rw [List.getElem?_map, List.getElem?_range h]
  rfl

theorem mem_slipSchedule {start samples : Nat} {x : Int} {k : Correction} (h : k ∈ slipSchedule start samples x) :
    ∃ j, j < x.natAbs ∧ k = ⟨start + (j + 1) * (samples / (x.natAbs + 1)), decide (0 < x)⟩ := by
  obtain ⟨j, hj, rfl⟩ := List.mem_map.mp h
  exact ⟨j, List.mem_range.mp hj, rfl⟩

/-- Division toward zero: the quotient's bounds on the side of each sign. -/
theorem tdiv_bounds {x b : Int} (hb : 0 < b) : (0 ≤ x → 0 ≤ x.tdiv b ∧ b * x.tdiv b ≤ x ∧ x < b * (x.tdiv b + 1))
    ∧ (x ≤ 0 → x.tdiv b ≤ 0 ∧ x ≤ b * x.tdiv b ∧ b * (x.tdiv b - 1) < x) := by
  have hsum := Int.mul_tdiv_add_tmod x b
  refine ⟨fun hx => ?_, fun hx => ?_⟩
  · have hlo := Int.tmod_nonneg b hx
    have hhi := Int.tmod_lt_of_pos x hb
    refine ⟨Int.tdiv_nonneg hx hb.le, by omega, ?_⟩
    rw [mul_add, mul_one]
    omega
  · have hlo := Int.tmod_nonneg b (Int.neg_nonneg.mpr hx)
    have hhi := Int.tmod_lt_of_pos (-x) hb
    rw [Int.neg_tmod] at hlo hhi
    refine ⟨?_, by omega, ?_⟩
    · have hneg := Int.tdiv_nonneg (Int.neg_nonneg.mpr hx) hb.le
      rw [Int.neg_tdiv] at hneg
      omega
    · rw [mul_sub, mul_one]
      omega

/-- Settles O60: the equal parts of the frame interval, and the bounds of each division. -/
theorem slipsAndRates : Obligations.SlipsAndRates := by
  refine ⟨fun start samples e most hmost hsamples => ?_, fun start samples e most n j hn hj hjn => ?_,
    fun length ticks hticks => ?_, fun measured rate x d hrate hx hd => ?_, fun x trim r gain => ?_⟩
  · have hn := slipOf_natAbs e most
    have hpart : 1 ≤ samples / (min e.natAbs most + 1) :=
      (Nat.one_le_div_iff (Nat.succ_pos _)).mpr (by omega)
    refine ⟨by rw [slipSchedule_length, hn], ?_, fun k hk => ?_⟩
    · rw [slipSchedule, List.pairwise_map]
      refine List.pairwise_lt_range.imp fun {a b} hab => ?_
      rw [hn]
      exact Nat.add_lt_add_left (Nat.mul_lt_mul_of_pos_right (Nat.succ_lt_succ hab) hpart) _
    · obtain ⟨j, hj, rfl⟩ := mem_slipSchedule hk
      rw [hn] at hj ⊢
      refine ⟨?_, ?_, ?_⟩
      · exact Nat.lt_add_of_pos_right (Nat.mul_pos (Nat.succ_pos j) hpart)
      · refine Nat.add_lt_add_left ?_ _
        calc (j + 1) * (samples / (min e.natAbs most + 1))
            ≤ min e.natAbs most * (samples / (min e.natAbs most + 1)) := Nat.mul_le_mul_right _ hj
          _ < (min e.natAbs most + 1) * (samples / (min e.natAbs most + 1)) :=
            Nat.mul_lt_mul_of_pos_right (Nat.lt_succ_self _) hpart
          _ ≤ samples := Nat.mul_div_le _ _
      · rw [decide_eq_true_eq]
        exact slipOf_pos_iff (by omega)
  · have hlt : j - 1 < (slipOf e most).natAbs := by
      rw [slipOf_natAbs]
      omega
    rw [slipSchedule_getElem? _ _ hlt, slipOf_natAbs, ← hn, Nat.sub_add_cancel hj]
    have hsign : 0 < slipOf e most ↔ 0 < e := slipOf_pos_iff (by omega)
    rw [decide_eq_decide.mpr hsign]
  · unfold measuredRate
    exact ⟨Nat.mul_div_le _ _, Nat.lt_mul_div_succ _ (by omega)⟩
  · subst hx hd
    exact tdiv_bounds (Int.natCast_pos.mpr hrate)
  · obtain ⟨hpos, hneg⟩ := tdiv_bounds (x := x * r) (b := 48) (by decide)
    have hr : (0 : Int) ≤ r := Int.natCast_nonneg r
    refine ⟨rampScale x r, (rampScale x r * gain + 32768).fdiv 65536, fun hx => hpos (mul_nonneg hx hr),
      fun hx => hneg (mul_nonpos_of_nonpos_of_nonneg hx hr), ?_⟩
    unfold emitSample clampInt
    rw [Int.fdiv_eq_ediv_of_nonneg _ (by decide)]
    generalize rampScale x r * gain = y
    omega

end Sys2Proof.Machine
end

section
/-! PROOF. What an operation on one lane leaves alone of the part and of the other lanes, and what the settling behind
it leaves alone of a lane whose fetcher is stopped. -/

namespace Sys2Proof.Machine

open Sys2Proof

/-! ### The frame of an operation on one lane -/

/-- From one state to another nothing but one lane, its reservations, the stores' tables and queues, the records of the
log, the hold flags, the raised sources and the outputs may differ. -/
structure State.Beside (s : State) (l : LaneId) (u : State) : Prop where
  pin : u.pin = s.pin := by exact rfl
  pending : u.pending = s.pending := by exact rfl
  clock : u.clock = s.clock := by exact rfl
  bcp : u.bcp = s.bcp := by exact rfl
  link : u.link = s.link := by exact rfl
  licences : u.shc.licences = s.shc.licences := by exact rfl
  nextSeq : u.shc.nextSeq = s.shc.nextSeq := by exact rfl
  mode : u.shc.mode = s.shc.mode := by exact rfl
  reservations : ∀ k, k ≠ l → u.shc.reservations.get k = s.shc.reservations.get k := by exact fun _ _ => rfl
  capacity : u.stc.capacity = s.stc.capacity := by exact rfl
  status : u.stc.status = s.stc.status := by exact rfl
  faults : u.stc.faults = s.stc.faults := by exact rfl
  load : u.stc.load = s.stc.load := by exact rfl
  flight : ∀ o ∈ s.stc.flight, o ∈ u.stc.flight := by exact fun _ h => h
  setting : u.pka.setting = s.pka.setting := by exact rfl
  discards : u.pka.discards = s.pka.discards := by exact rfl
  enabled : u.ntu.enabled = s.ntu.enabled := by exact rfl
  master : u.ntu.master = s.ntu.master := by exact rfl
  number : u.ntu.number = s.ntu.number := by exact rfl
  raised : ∀ n, s.ntu.raised.getLsbD n = true → u.ntu.raised.getLsbD n = true := by exact fun _ h => h
  others : ∀ k, k ≠ l → u.lane k = s.lane k := by exact fun _ _ => rfl

/-- The hold flags are the same besides. -/
structure State.Within (s : State) (l : LaneId) (u : State) : Prop extends s.Beside l u where
  held : u.held = s.held := by exact rfl

namespace State

variable {s u v : State} {l : LaneId}

theorem Beside.refl (s : State) (l : LaneId) : s.Beside l s := {}

theorem Beside.trans (h : s.Beside l u) (k : u.Beside l v) : s.Beside l v where
  pin := k.pin.trans h.pin
  pending := k.pending.trans h.pending
  clock := k.clock.trans h.clock
  bcp := k.bcp.trans h.bcp
  link := k.link.trans h.link
  licences := k.licences.trans h.licences
  nextSeq := k.nextSeq.trans h.nextSeq
  mode := k.mode.trans h.mode
  reservations := fun j hj => (k.reservations j hj).trans (h.reservations j hj)
  capacity := k.capacity.trans h.capacity
  status := k.status.trans h.status
  faults := k.faults.trans h.faults
  load := k.load.trans h.load
  flight := fun o ho => k.flight o (h.flight o ho)
  setting := k.setting.trans h.setting
  discards := k.discards.trans h.discards
  enabled := k.enabled.trans h.enabled
  master := k.master.trans h.master
  number := k.number.trans h.number
  raised := fun n hn => k.raised n (h.raised n hn)
  others := fun j hj => (k.others j hj).trans (h.others j hj)

theorem Within.refl (s : State) (l : LaneId) : s.Within l s := { toBeside := .refl s l }

theorem Within.trans (h : s.Within l u) (k : u.Within l v) : s.Within l v :=
  { toBeside := h.toBeside.trans k.toBeside, held := k.held.trans h.held }

theorem Within.ite {c : Prop} [Decidable c] (h : c → s.Within l u) (k : ¬ c → s.Within l v) :
    s.Within l (if c then u else v) := by
  split
  · exact h ‹_›
  · exact k ‹_›

/-! Each update of the state. -/

theorem Within.modLane (s : State) (l : LaneId) (f : Lane → Lane) : s.Within l (s.modLane l f) where
  others := fun k hk => Quad.get_set_ne _ _ hk

theorem Within.modPl (s : State) (l : LaneId) (f : Playout → Playout) : s.Within l (s.modPl l f) := .modLane s l _
theorem Within.modFtm (s : State) (l : LaneId) (f : Monitor → Monitor) : s.Within l (s.modFtm l f) := .modLane s l _
theorem Within.modSce (s : State) (l : LaneId) (f : CueEngine → CueEngine) : s.Within l (s.modSce l f) := .modLane s l _
theorem Within.modSne (s : State) (l : LaneId) (f : Sound → Sound) : s.Within l (s.modSne l f) := .modLane s l _

theorem Within.modFetch (s : State) (l : LaneId) (f : Fetcher → Fetcher) : s.Within l (s.modFetch l f) := .modPl s l _
theorem Within.modStats (s : State) (l : LaneId) (f : LaneStats → LaneStats) : s.Within l (s.modStats l f) := .modPl s l _

theorem Within.raise (s : State) (l : LaneId) (n : Nat) : s.Within l (s.raise n) where
  raised := fun _ h => raise_raised_of n h

theorem Within.raiseLane (s : State) (l k : LaneId) (n : Nat) : s.Within l (s.raiseLane k n) := .raise s l _

theorem Within.emit (s : State) (l : LaneId) (o : Output) : s.Within l (s.emit o) := {}

theorem Within.toScreen (s : State) (l k : LaneId) (c : ScreenCommand) : s.Within l (s.toScreen k c) := by
  unfold State.toScreen
  split
  · exact .refl s l
  · exact .ite (fun _ => .refl s l) fun _ => .emit s l _

theorem Within.foldl {α : Type} {f : State → α → State} (hf : ∀ (s : State) (a : α), s.Within l (f s a)) (as : List α) (s : State) :
    s.Within l (as.foldl f s) := by
  induction as generalizing s with
  | nil => exact .refl s l
  | cons a rest ih => exact (hf s a).trans (ih _)

theorem Within.toScreenAll (s : State) (l k : LaneId) (cs : List ScreenCommand) : s.Within l (s.toScreenAll k cs) :=
  .foldl (fun s c => .toScreen s l k c) cs s

theorem Within.cueStep (s : State) (l : LaneId) (f : CueEngine → CueOut) : s.Within l (s.cueStep l f) :=
  (Within.modSce s l _).trans (.toScreenAll _ l l _)

/-- The storage controller changed in its table, queues and drains alone. -/
theorem Within.modStc {s : State} (l : LaneId) {f : Storage → Storage}
    (hf : f s.stc = { s.stc with table := (f s.stc).table, queue := (f s.stc).queue, draining := (f s.stc).draining,
                                 guard := (f s.stc).guard, flight := (f s.stc).flight })
    (hflight : ∀ o ∈ s.stc.flight, o ∈ (f s.stc).flight) : s.Within l (s.modStc f) where
  capacity := by rw [modStc_stc, hf]
  status := by rw [modStc_stc, hf]
  faults := by rw [modStc_stc, hf]
  load := by rw [modStc_stc, hf]
  flight := hflight

/-- The assembler changed but for its setting and its discards. -/
theorem Within.modPka {s : State} (l : LaneId) {f : Assembler → Assembler} (hset : (f s.pka).setting = s.pka.setting)
    (hdis : (f s.pka).discards = s.pka.discards) : s.Within l (s.modPka f) where
  setting := hset
  discards := hdis

/-- The lane's reservations and the records of the log changed. -/
theorem Within.withShc {s : State} (l : LaneId) {h : Showings} (hlic : h.licences = s.shc.licences)
    (hseq : h.nextSeq = s.shc.nextSeq) (hmode : h.mode = s.shc.mode)
    (hres : ∀ k, k ≠ l → h.reservations.get k = s.shc.reservations.get k) : s.Within l { s with shc := h } where
  licences := hlic
  nextSeq := hseq
  mode := hmode
  reservations := hres

theorem Within.modReservations (s : State) (l : LaneId) (f : List Reservation → List Reservation) :
    s.Within l (s.modReservations l f) := .withShc l rfl rfl rfl fun _ hk => Quad.get_set_ne _ _ hk

theorem Within.reserve (s : State) (l : LaneId) (lic pid total : Nat) : s.Within l (s.reserve l lic pid total) := by
  cases hfind : s.shc.find lic with
  | none =>
    rw [State.reserve_of_not_found l pid total hfind]
    exact .refl s l
  | some c =>
    rw [State.reserve_of_find l pid total hfind]
    have hmade : s.Within l { s with
        shc := s.shc.withReservations l (s.shc.reservations.get l ++ [s.newReservation l lic pid total c]) } :=
      .withShc l rfl rfl rfl fun _ hk => Quad.get_set_ne _ _ hk
    exact .ite (fun _ => hmade.trans (.raise _ l _)) fun _ => hmade

/-! ### Settling by its moves -/

/-- What each move of a fetcher, each test of a cue point, each grant and the guard's rest keep, settling keeps. -/
theorem settle_induction {P : State → Prop} (hfetch : ∀ u l, P u → P (u.fetchOnce l).1)
    (hcue : ∀ u l, P u → P (u.testCued l)) (hgrant : ∀ u g, P u → P (u.grant g))
    (hrest : ∀ u x, P u → P (u.modStc fun c => c.restGuard x)) (h : P s) : P s.settle := by
  have hall : ∀ n u l, P u → P (u.fetchAll l n) := by
    intro n
    induction n with
    | zero => exact fun _ _ h => h
    | succ n ih =>
      intro u l hu
      have hmove := hfetch u l hu
      unfold State.fetchAll
      split
      · rename_i s' hs
        rw [hs] at hmove
        exact ih s' l hmove
      · rename_i s' hs
        rwa [hs] at hmove
  have hlanes : ∀ (ls : List LaneId) u, P u → P (ls.foldl (fun s l => (s.fetchAll l 128).testCued l) u) := by
    intro ls
    induction ls with
    | nil => exact fun _ h => h
    | cons l rest ih => exact fun u hu => ih _ (hcue _ l (hall 128 u l hu))
  have hdecisions : ∀ n u, P u → P (u.decisions n) := by
    intro n
    induction n with
    | zero => exact fun _ h => h
    | succ n ih =>
      intro u hu
      obtain ⟨-, hstop⟩ | ⟨g, -, -, -, hgo⟩ := u.decisions_succ n
      · rw [hstop]
        exact hlanes fours u hu
      · rw [hgo]
        exact ih _ (hgrant _ g (hlanes fours u hu))
  exact hrest _ _ (hdecisions 9 s h)

theorem Within.registerStall (s : State) (l k : LaneId) (pid reel : Nat) (tracks : List TrackKind) :
    s.Within l (s.registerStall k pid reel tracks) := .modStc l rfl fun _ h => h

theorem Within.takeUpReel (s : State) (l : LaneId) (pid item reel frames : Nat) :
    s.Within l (s.takeUpReel l pid item reel frames) := by
  unfold State.takeUpReel
  dsimp only
  split
  · exact .modSce s l _
  · exact ((Within.modSce s l _).trans (.modSce _ l _)).trans (.raiseLane _ l l _)
  · exact (Within.modSce s l _).trans (.modFetch _ l _)

theorem Within.fetchState (s : State) (l : LaneId) (x : FetchState) : s.Within l (s.fetchState l x) := .modFetch s l _

theorem Within.fetchAt (s : State) (l : LaneId) (c : Cursor) : s.Within l (s.fetchAt l c) := .modFetch s l _

theorem Within.fetchFrame (s : State) (l : LaneId) (i : Item) (pos : Pos) : s.Within l (s.fetchFrame l i pos) :=
  .modPl s l _

theorem Within.modItem (s : State) (l : LaneId) (uid : Nat) (f : Item → Item) : s.Within l (s.modItem l uid f) :=
  .modPl s l _

theorem Within.promoted (s : State) (l : LaneId) (i : Item) : s.Within l (s.promoted l i) :=
  (Within.modItem s l _ _).trans (.fetchAt _ l _)

theorem Within.block (s : State) (l : LaneId) (i : Item) (why : Reason) : s.Within l (s.block l i why) :=
  ((Within.modItem s l _ _).trans (.modStats _ l _)).trans (.fetchState _ l _)

theorem Within.takeUp (s : State) (l : LaneId) (i : Item) : s.Within l (s.takeUp l i).1 := by
  unfold State.takeUp
  split
  · exact .fetchState s l _
  · split
    · exact .fetchAt s l _
    · split
      · split
        · exact .block s l i _
        · exact (Within.reserve s l _ _ _).trans (.promoted _ l i)
      · exact .promoted s l i

theorem Within.fetchAtFrame (s : State) (l : LaneId) (i : Item) (pos : Pos) (taken : Bool) :
    s.Within l (s.fetchAtFrame l i pos taken).1 := by
  unfold State.fetchAtFrame
  dsimp only
  split
  · split
    · exact .fetchState s l _
    · exact (Within.modPl s l _).trans (.fetchAt _ l _)
  · split
    · split
      · exact (Within.modFetch s l _).trans (.takeUpReel _ l _ _ _ _)
      · exact .fetchState s l _
    · split
      · exact .fetchState s l _
      · split
        · exact ((Within.registerStall s l l _ _ _).trans (.modStats _ l _)).trans (.fetchState _ l _)
        · exact .fetchFrame s l i pos

/-- A move of a lane's fetcher. -/
theorem Within.fetchOnce (s : State) (l : LaneId) : s.Within l (s.fetchOnce l).1 := by
  unfold State.fetchOnce
  dsimp only
  split
  · exact .refl s l
  · split
    · exact .refl s l
    · split
      · exact .fetchState s l _
      · exact .takeUp s l _
    · split
      · exact .refl s l
      · exact .fetchAtFrame s l _ _ _

theorem Within.testCued (s : State) (l : LaneId) : s.Within l (s.testCued l) :=
  .ite (fun _ => (Within.modPl s l _).trans (.raiseLane _ l l _)) fun _ => .refl s l

theorem Within.issue (s : State) (l : LaneId) (o : Operation) (x : Output) : s.Within l (s.issue o x) := by
  refine (Within.modStc l ?_ ?_).trans (.emit _ l x)
  · unfold Storage.granted
    dsimp only
    split <;> rfl
  · unfold Storage.granted
    dsimp only
    split <;> exact fun o ho => List.mem_append_left _ ho

theorem Within.issueRead (s : State) (l : LaneId) (kind : OpKind) (first count : Nat) :
    s.Within l (s.issueRead kind first count) := .issue s l _ _

theorem Within.grantLane (s : State) (l : LaneId) : s.Within l (s.grantLane l) := by
  have hdrop : s.Within l (s.modFetch l fun f => { f with work := .nothing }) := .modFetch s l _
  unfold State.grantLane
  dsimp only
  split
  · exact .refl s l
  · split
    · exact hdrop
    · split
      · exact (Within.issueRead s l _ _ _).trans (.modFetch _ l _)
      · exact (Within.issueRead s l _ _ _).trans (.modFetch _ l _)
  · split
    · exact hdrop
    · exact (Within.issueRead s l _ _ _).trans (.modFetch _ l _)
  · split
    · exact hdrop
    · split
      · exact hdrop
      · split
        · exact hdrop
        · exact (Within.issueRead s l _ _ _).trans (.modFetch _ l _)

theorem Within.grantCatalogue (s : State) (l : LaneId) (q : SlotRequest) : s.Within l (s.grantCatalogue q) :=
  (Within.modStc (s := s) (f := fun c => { c with queue := c.queue.filter fun x => x.slot != q.slot }) l rfl
    fun _ h => h).trans (.issue _ l _ _)

theorem Within.grantChunk (s : State) (l : LaneId) (slot : Nat) : s.Within l (s.grantChunk slot) := by
  have horder : s.Within l (s.modPka fun p => { p with order := p.order.filter fun n => n != slot }) :=
    .modPka l rfl rfl
  unfold State.grantChunk
  dsimp only
  split
  · split
    · exact horder
    · exact (horder.trans (.modPka l rfl rfl)).trans (.issue _ l _ _)
  · exact horder

/-- A lane whose fetcher is stopped, with no read waiting, and that is not CUEING. -/
def Still (s : State) (l : LaneId) : Prop :=
  (s.lane l).pl.fetch.state = .stopped ∧ (s.lane l).pl.fetch.work = .nothing ∧ (s.lane l).pl.state ≠ .cueing

theorem Within.keeps_others (h : s.Within l u) {k : LaneId} (hk : k ≠ l) :
    u.lane k = s.lane k ∧ u.shc.reservations.get k = s.shc.reservations.get k :=
  ⟨h.others k hk, h.reservations k hk⟩

/-- A grant is made with the guard count set. -/
theorem grant_eq (s : State) (g : Grant) : ∃ v, (∀ k, s.Within k v) ∧ v.lanes = s.lanes
    ∧ s.grant g = match g with
      | .lane l => v.grantLane l
      | .catalogue q => v.grantCatalogue q
      | .chunk slot => v.grantChunk slot :=
  ⟨s.modStc fun c => { c with guard := guardAfter c.guard g (!s.pka.order.isEmpty) },
    fun k => .modStc k rfl fun _ h => h, rfl, rfl⟩

theorem grantLane_rests (h : (s.lane l).pl.fetch.work = .nothing) : s.grantLane l = s := by
  unfold State.grantLane
  dsimp only
  rw [h]

/-- A grant leaves alone a lane that has no read waiting. -/
theorem grant_still (g : Grant) (hwork : (u.lane l).pl.fetch.work = .nothing) :
    (u.grant g).lane l = u.lane l ∧ (u.grant g).shc.reservations.get l = u.shc.reservations.get l := by
  obtain ⟨v, hv, hlanes, hgrant⟩ := u.grant_eq g
  obtain ⟨j, hj⟩ := exists_ne l
  have hlane : v.lane l = u.lane l := by rw [State.lane, hlanes, State.lane]
  have hothers : ∀ k, k ≠ l → ∀ x, v.Within k x → x.lane l = u.lane l
      ∧ x.shc.reservations.get l = u.shc.reservations.get l := fun k hk x hx =>
    ((hv k).trans hx).keeps_others (Ne.symm hk)
  rw [hgrant]
  cases g with
  | lane k =>
    by_cases hk : k = l
    · rw [hk]
      dsimp only
      rw [grantLane_rests (by rw [hlane]; exact hwork)]
      exact ((hv j).keeps_others (Ne.symm hj))
    · exact hothers k hk _ (.grantLane v k)
  | catalogue q => exact hothers j hj _ (.grantCatalogue v j q)
  | chunk slot => exact hothers j hj _ (.grantChunk v j slot)

/-- Settling leaves alone a lane that is still, and its reservations. -/
theorem Still.settle (h : s.Still l) :
    s.settle.lane l = s.lane l ∧ s.settle.shc.reservations.get l = s.shc.reservations.get l := by
  refine settle_induction (P := fun u => u.lane l = s.lane l
    ∧ u.shc.reservations.get l = s.shc.reservations.get l) ?_ ?_ ?_ ?_ ⟨rfl, rfl⟩
  · intro u k ⟨hlane, hres⟩
    by_cases hk : k = l
    · rw [hk, fetchOnce_rests (.inl (by rw [hlane]; exact h.1))]
      exact ⟨hlane, hres⟩
    · obtain ⟨h1, h2⟩ := (Within.fetchOnce u k).keeps_others (Ne.symm hk)
      exact ⟨h1.trans hlane, h2.trans hres⟩
  · intro u k ⟨hlane, hres⟩
    by_cases hk : k = l
    · have hrest : u.testCued k = u := if_neg fun hc => h.2.2 (by rw [← hlane, ← hk]; exact hc.1)
      rw [hrest]
      exact ⟨hlane, hres⟩
    · obtain ⟨h1, h2⟩ := (Within.testCued u k).keeps_others (Ne.symm hk)
      exact ⟨h1.trans hlane, h2.trans hres⟩
  · intro u g ⟨hlane, hres⟩
    obtain ⟨h1, h2⟩ := grant_still (u := u) g (by rw [hlane]; exact h.2.1)
    exact ⟨h1.trans hlane, h2.trans hres⟩
  · exact fun u x h => h

/-! ### The frame of a lane's command -/

/-- The frame of a lane's operation, with commands answered, is that of its command, whose settling adds what LaneFrame
allows. -/
theorem Beside.settled (h : s.Beside l u) (r : List Outstanding → List Outstanding) {w x : State}
    (hw : w = u.modBcp fun b => { b with cmds := r b.cmds }) (hx : w.SettleFrame x) : LaneFrame s x l := by
  subst hw
  refine ⟨hx.pin.trans h.pin, hx.pending.trans h.pending, congrArg Clock.booth (hx.clock.trans h.clock),
    congrArg Clock.sub (hx.clock.trans h.clock), congrArg Clock.ticks (hx.clock.trans h.clock),
    congrArg Clock.secondDue (hx.clock.trans h.clock), ?_, hx.licences.trans h.licences, hx.nextSeq.trans h.nextSeq,
    hx.mode.trans h.mode, hx.capacity.trans h.capacity, hx.status.trans h.status, hx.faults.trans h.faults,
    hx.load.trans h.load, hx.setting.trans h.setting, hx.discards.trans h.discards, hx.link.trans h.link,
    hx.enabled.trans h.enabled, hx.master.trans h.master, hx.number.trans h.number, fun k hk => ?_⟩
  · rw [hx.bcp, ← h.bcp]
    rfl
  · have hpl := hx.pl k
    have hlane : (u.modBcp fun b => { b with cmds := r b.cmds }).lane k = s.lane k := h.others k hk
    have hftm := hx.ftm k
    have hsne := hx.sne k
    have hkinds := hx.kinds k
    rw [hlane] at hpl hftm hsne hkinds
    obtain ⟨hframe, hstate, -, hstats, -⟩ := hpl
    refine ⟨hftm, by rw [hsne], ?_, ?_, ?_, ?_, ?_, ?_, ?_, ?_, by rw [hstats],
      by rw [hstats], hkinds, hstate⟩
    all_goals rw [hframe]

theorem Beside.answered (h : s.Beside l u) (r : Reply) : LaneFrame s (u.answered r) l :=
  h.settled (answerFirst r) rfl (settle_frame _)

theorem Beside.settle (h : s.Beside l u) : LaneFrame s u.settle l := h.settled id rfl (settle_frame _)

end State
end Sys2Proof.Machine
end

section
/-! PROOF. What the operations of a lane send on the screens' links, and the frame of each (R74, R75, R84, R99 to R104,
R123, R126). -/

namespace Sys2Proof.Machine

open Sys2Proof

namespace State

variable {s u v : State} {l : LaneId} {f g : ScreenId → List ScreenCommand}

/-! ### The screens' links -/

theorem Sends.of_out (h : u.out = s.out) : s.Sends u fun _ => [] := ⟨[], by rw [h, List.append_nil], fun _ => rfl⟩

theorem Sends.trans (h : s.Sends u f) (k : u.Sends v g) : s.Sends v fun c => f c ++ g c := by
  obtain ⟨a, ha, hf⟩ := h
  obtain ⟨b, hb, hg⟩ := k
  refine ⟨a ++ b, by rw [hb, ha, List.append_assoc], fun c => ?_⟩
  rw [List.filterMap_append, hf, hg]

/-- What is sent, followed by nothing on a screen's link. -/
theorem Sends.then_none (h : s.Sends u f) (k : u.Sends v fun _ => []) : s.Sends v f := by
  have hboth := h.trans k
  simpa only [List.append_nil] using hboth

/-- Nothing on a screen's link, followed by what is sent. -/
theorem Sends.none_then (h : s.Sends u fun _ => []) (k : u.Sends v f) : s.Sends v f := h.trans k

/-- Outputs that are no screen commands. -/
theorem Sends.of_others {more : List Output} (h : u.out = s.out ++ more) (hnone : ∀ c x, Output.screen c x ∉ more) :
    s.Sends u fun _ => [] := by
  refine ⟨more, h, fun c => List.filterMap_eq_nil_iff.mpr fun o ho => ?_⟩
  cases o with
  | screen d x => exact absurd ho (hnone d x)
  | host _ | verdict _ _ _ | linkReset | soundBlock _ | capacityRead | storageRead _ _ | storageWrite _ _ _ => rfl

theorem Sends.answered (s : State) (r : Reply) : s.Sends (s.answered r) fun _ => [] := by
  obtain ⟨more, hmore, hnone⟩ := (s.answered_quiet r).out
  exact .of_others hmore hnone

theorem Sends.settle (s : State) : s.Sends s.settle fun _ => [] := by
  obtain ⟨more, hmore, hnone⟩ := s.settle_quiet.out
  exact .of_others hmore hnone

/-- One command on a screen's link. -/
theorem Sends.screen (s : State) (d : ScreenId) (x : ScreenCommand) :
    s.Sends (s.emit (.screen d x)) fun c => if d = c then [x] else [] := by
  refine ⟨[.screen d x], rfl, fun c => ?_⟩
  by_cases h : d = c <;> simp [Output.onScreen, h]

theorem onOwn_none (h : (s.lane l).pl.screen = none) (xs : List ScreenCommand) : s.onOwn l xs = fun _ => [] := by
  funext c
  exact if_neg fun hc => by
    rw [h] at hc
    exact nomatch hc.1

theorem onOwn_some {d : ScreenId} (h : (s.lane l).pl.screen = some d) (xs : List ScreenCommand) :
    s.onOwn l xs = fun c => if d = c ∧ s.screenHeld c = false then xs else [] := by
  funext c
  simp only [State.onOwn, h, Option.some.injEq]

theorem Sends.toScreen (s : State) (l : LaneId) (x : ScreenCommand) : s.Sends (s.toScreen l x) (s.onOwn l [x]) := by
  unfold State.toScreen
  split
  · rename_i h
    rw [onOwn_none h]
    exact .of_out rfl
  · rename_i d h
    rw [onOwn_some h]
    split
    · rename_i hheld
      convert Sends.of_out (s := s) rfl using 2 with c
      exact if_neg fun ⟨hc, hfree⟩ => by
        rw [← hc, hheld] at hfree
        cases hfree
    · rename_i hfree
      convert Sends.screen s d x using 2 with c
      by_cases hc : d = c
      · rw [if_pos ⟨hc, by rw [← hc]; exact Bool.eq_false_of_not_eq_true hfree⟩, if_pos hc]
      · rw [if_neg (fun h => hc h.1), if_neg hc]

theorem toScreen_lane (s : State) (l k : LaneId) (x : ScreenCommand) : (s.toScreen l x).lane k = s.lane k := by
  unfold State.toScreen
  split
  · rfl
  · split <;> rfl

theorem toScreen_held (s : State) (l : LaneId) (x : ScreenCommand) : (s.toScreen l x).held = s.held :=
  (Within.toScreen s l l x).held

/-- A screen is in HOLD by its flag and by the lanes' bindings. -/
theorem screenHeld_congr {c : ScreenId} (hheld : u.held = s.held)
    (hscreen : ∀ k, (u.lane k).pl.screen = (s.lane k).pl.screen) : u.screenHeld c = s.screenHeld c := by
  unfold State.screenHeld
  rw [hheld]
  simp only [hscreen]

theorem onOwn_congr (hheld : u.held = s.held) (hscreen : ∀ k, (u.lane k).pl.screen = (s.lane k).pl.screen)
    (xs : List ScreenCommand) : u.onOwn l xs = s.onOwn l xs := by
  funext c
  unfold State.onOwn
  rw [hscreen, screenHeld_congr hheld hscreen]

theorem onOwn_append (s : State) (l : LaneId) (xs ys : List ScreenCommand) (c : ScreenId) :
    s.onOwn l xs c ++ s.onOwn l ys c = s.onOwn l (xs ++ ys) c := by
  unfold State.onOwn
  split <;> rfl

theorem Sends.toScreenAll (s : State) (l : LaneId) (xs : List ScreenCommand) :
    s.Sends (s.toScreenAll l xs) (s.onOwn l xs) := by
  unfold State.toScreenAll
  induction xs generalizing s with
  | nil =>
    have hnone : s.onOwn l [] = fun _ => [] := funext fun c => ite_self _
    rw [hnone]
    exact .of_out rfl
  | cons x rest ih =>
    have hsent := (Sends.toScreen s l x).trans (ih (s.toScreen l x))
    rw [onOwn_congr (s.toScreen_held l x) fun k => by rw [toScreen_lane]] at hsent
    have hall : (fun c => s.onOwn l [x] c ++ s.onOwn l rest c) = s.onOwn l (x :: rest) :=
      funext fun c => onOwn_append s l [x] rest c
    rw [hall] at hsent
    exact hsent

theorem toScreenAll_lane (s : State) (l k : LaneId) (xs : List ScreenCommand) :
    (s.toScreenAll l xs).lane k = s.lane k := by
  unfold State.toScreenAll
  induction xs generalizing s with
  | nil => rfl
  | cons x rest ih => rw [List.foldl_cons, ih, toScreen_lane]

theorem lane_cueStep (s : State) (l k : LaneId) (f : CueEngine → CueOut) :
    (s.cueStep l f).lane k = if k = l then { s.lane k with sce := (f (s.lane l).sce).1 } else s.lane k := by
  unfold State.cueStep
  dsimp only
  rw [toScreenAll_lane]
  by_cases hk : k = l
  · rw [hk, if_pos rfl]
    exact Quad.get_set_same _ _ _
  · rw [if_neg hk]
    exact Quad.get_set_ne _ _ hk

theorem Sends.cueStep (s : State) (l : LaneId) (f : CueEngine → CueOut) :
    s.Sends (s.cueStep l f) (s.onOwn l (f (s.lane l).sce).2) := by
  have hsent := Sends.toScreenAll (s.modSce l fun _ => (f (s.lane l).sce).1) l (f (s.lane l).sce).2
  have hown := onOwn_congr (s := s) (u := s.modSce l fun _ => (f (s.lane l).sce).1) (l := l) rfl
    (fun k => by rw [modSce_lane_pl]) (f (s.lane l).sce).2
  rw [hown] at hsent
  exact Sends.none_then (.of_out rfl) hsent

/-! ### Operations that send nothing on a screen's link -/

/-- An operation on one lane that leaves the hold flags and sends nothing on a screen's link. -/
structure Silent (s : State) (l : LaneId) (u : State) : Prop extends s.Within l u where
  sends : s.Sends u fun _ => []

theorem Silent.of_out (h : s.Within l u) (hout : u.out = s.out) : s.Silent l u :=
  { toWithin := h, sends := .of_out hout }

theorem Silent.refl (s : State) (l : LaneId) : s.Silent l s := .of_out (.refl s l) rfl

theorem Silent.trans (h : s.Silent l u) (k : u.Silent l v) : s.Silent l v :=
  { toWithin := h.toWithin.trans k.toWithin, sends := h.sends.then_none k.sends }

theorem Silent.ite {c : Prop} [Decidable c] (h : c → s.Silent l u) (k : ¬ c → s.Silent l v) :
    s.Silent l (if c then u else v) := by
  split
  · exact h ‹_›
  · exact k ‹_›

theorem Silent.foldl {α : Type} {f : State → α → State} (hf : ∀ (s : State) (a : α), s.Silent l (f s a)) (as : List α)
    (s : State) : s.Silent l (as.foldl f s) := by
  induction as generalizing s with
  | nil => exact .refl s l
  | cons a rest ih => exact (hf s a).trans (ih _)

theorem Silent.modPl (s : State) (l : LaneId) (f : Playout → Playout) : s.Silent l (s.modPl l f) :=
  .of_out (.modPl s l f) rfl
theorem Silent.modFtm (s : State) (l : LaneId) (f : Monitor → Monitor) : s.Silent l (s.modFtm l f) :=
  .of_out (.modFtm s l f) rfl
theorem Silent.modSce (s : State) (l : LaneId) (f : CueEngine → CueEngine) : s.Silent l (s.modSce l f) :=
  .of_out (.modSce s l f) rfl
theorem Silent.modSne (s : State) (l : LaneId) (f : Sound → Sound) : s.Silent l (s.modSne l f) :=
  .of_out (.modSne s l f) rfl
theorem Silent.modLane (s : State) (l : LaneId) (f : Lane → Lane) : s.Silent l (s.modLane l f) :=
  .of_out (.modLane s l f) rfl
theorem Silent.raise (s : State) (l : LaneId) (n : Nat) : s.Silent l (s.raise n) := .of_out (.raise s l n) rfl
theorem Silent.raiseLane (s : State) (l k : LaneId) (n : Nat) : s.Silent l (s.raiseLane k n) := .raise s l _

/-- Something that is no screen command sent. -/
theorem Silent.emit (s : State) (l : LaneId) {o : Output} (ho : ∀ c x, o ≠ .screen c x) : s.Silent l (s.emit o) :=
  { toWithin := .emit s l o
    sends := .of_others rfl fun c x hx => ho c x (List.mem_singleton.mp hx).symm }

/-! Windows and the packages of items. -/

theorem Silent.request (s : State) (l : LaneId) (slot : Nat) : s.Silent l (s.modStc fun c => c.request slot) := by
  have hqueue := s.stc.request_eq slot
  refine .of_out (.modStc l ?_ ?_) rfl
  · rw [hqueue]
  · intro o ho
    rw [Storage.request_eq]
    exact ho

theorem Silent.settleOffer (s : State) (l : LaneId) (c : ChunkId) (x : Verdict) : s.Silent l (s.settleOffer c x) :=
  (Silent.emit s l fun _ _ h => Output.noConfusion h).trans (.of_out (.modPka l rfl rfl) rfl)

theorem Silent.passOnAll (s : State) (l : LaneId) (slots : List Nat) :
    s.Silent l (s.modPka fun p => p.passOnAll slots) := by
  refine .of_out (.modPka l ?_ ?_) rfl
  · rw [Assembler.passOnAll_eq]
  · rw [Assembler.passOnAll_eq]

theorem Silent.dropPackage (s : State) (l : LaneId) (pid : Nat) : s.Silent l (s.dropPackage pid) := by
  unfold State.dropPackage
  dsimp only
  exact ((Silent.of_out (.modPka l rfl rfl) rfl).trans (.foldl (fun s (h : ChunkId × Nat) => .settleOffer s l h.1 _) _ _)).trans
    (.passOnAll _ l _)

theorem Silent.release (s : State) (l : LaneId) (pid : Nat) : s.Silent l (s.release pid) := by
  unfold State.release
  split
  · exact .refl s l
  · exact ((Silent.of_out (.modStc l rfl fun _ h => h) rfl).trans (.request _ l _)).trans (.dropPackage _ l pid)

theorem Silent.addReference (s : State) (l : LaneId) (pid : Nat) : s.Silent l (s.addReference pid) :=
  .of_out (.modStc l rfl fun _ h => h) rfl

theorem Silent.dropReference (s : State) (l : LaneId) (pid : Nat) : s.Silent l (s.dropReference pid) := by
  have hcount : s.Silent l (s.modStc fun c => c.modWindow pid fun w => { w with refs := w.refs - 1 }) :=
    .of_out (.modStc l rfl fun _ h => h) rfl
  unfold State.dropReference
  dsimp only
  split
  · exact .ite (fun _ => hcount.trans (.release _ l pid)) fun _ => hcount
  · exact hcount

theorem Silent.dropItems (s : State) (l : LaneId) (items : List Item) : s.Silent l (s.dropItems items) := by
  refine .foldl (fun s i => ?_) items s
  split
  · exact .refl s l
  · exact .dropReference s l _

theorem Silent.removeItems (s : State) (l : LaneId) (leaves : Item → Bool) : s.Silent l (s.removeItems l leaves) :=
  (Silent.modPl s l _).trans (.dropItems _ l _)

theorem Silent.dropHead (s : State) (l : LaneId) : s.Silent l (s.dropHead l) := by
  unfold State.dropHead
  split
  · exact .refl s l
  · exact (Silent.modPl s l _).trans (.dropItems _ l _)

theorem Silent.dropStalls (s : State) (l k : LaneId) : s.Silent l (s.dropStalls k) :=
  .of_out (.modStc l rfl fun _ h => h) rfl

theorem Silent.stopFetch (s : State) (l : LaneId) (advance : Bool) : s.Silent l (s.stopFetch l advance) :=
  (Silent.modPl s l _).trans (.dropStalls _ l l)

/-! The monitor and the sound. -/

theorem Silent.raiseGate (s : State) (l : LaneId) (owner : GateOwner) : s.Silent l (s.raiseGate l owner) :=
  .ite (fun _ => .raiseLane s l l _) fun _ => .refl s l

theorem Silent.abortGate (s : State) (l : LaneId) (r : GateResult) : s.Silent l (s.abortGate l r) :=
  .ite (fun _ => (Silent.modFtm s l _).trans (.raiseGate _ l _)) fun _ => .refl s l

theorem Silent.beginWatch (s : State) (l : LaneId) : s.Silent l (s.beginWatch l) :=
  (Silent.abortGate s l _).trans (.modFtm _ l _)

theorem Silent.endWatch (s : State) (l : LaneId) (r : GateResult) : s.Silent l (s.endWatch l r) :=
  (Silent.ite (c := (s.lane l).ftm.watch ∧ (s.lane l).ftm.gate.owner = .watch) (fun _ => .abortGate s l r)
    fun _ => .refl s l).trans (.modFtm _ l fun m => { m with watch := false })

theorem Silent.laneFault (s : State) (l : LaneId) (x : LaneFault) : s.Silent l (s.laneFault l x) :=
  (Silent.modPl s l _).trans (.raiseLane _ l l _)

theorem Silent.enterPlaying (s : State) (l : LaneId) : s.Silent l (s.enterPlaying l) :=
  .ite (fun _ => (Silent.modPl s l _).trans (.beginWatch _ l)) fun _ => .modPl s l _

theorem Silent.failCheck (s : State) (l : LaneId) (x : LaneFault) : s.Silent l (s.failCheck l x) :=
  (Silent.modPl s l _).trans (.laneFault _ l x)

theorem Silent.verdictOf (s : State) (l : LaneId) (x : Bool) : s.Silent l (s.verdictOf l x) :=
  .ite (fun _ => .modFtm s l _) fun _ => (Silent.modFtm s l _).trans (.raiseLane _ l l _)

theorem Silent.setDivider (s : State) (l : LaneId) : s.Silent l (s.setDivider l) := by
  have habort : s.Silent l ((s.abortGate l .aborted).modFtm l fun m => { m with phase := 0 }) :=
    (Silent.abortGate s l _).trans (.modFtm _ l _)
  unfold State.setDivider
  dsimp only
  split
  · split
    · exact habort
    · exact habort.trans (.failCheck _ l _)
    · exact habort.trans (.modFtm _ l _)
  · exact habort

theorem Silent.setWatch (s : State) (l : LaneId) (on : Bool) : s.Silent l (s.setWatch l on) :=
  .ite (fun _ => .ite (fun _ => .beginWatch s l) fun _ => .refl s l) fun _ =>
    (Silent.endWatch s l _).trans (.ite (fun _ => (Silent.modFtm _ l _).trans (.raiseLane _ l l _)) fun _ => .refl _ l)

theorem Silent.endInjection (s : State) (l : LaneId) : s.Silent l (s.endInjection l) := .modFtm s l _

theorem Silent.rampDown (s : State) (l : LaneId) (toOff : Bool) : s.Silent l (s.rampDown l toOff) := .modLane s l _

/-! The showing counter. -/

theorem Silent.closeRecord (s : State) (l : LaneId) (r : Reservation) (cause : EndCause) :
    s.Silent l (s.closeRecord r cause) := by
  unfold State.closeRecord
  split
  · exact .refl s l
  all_goals exact .of_out (.withShc l rfl rfl rfl fun _ _ => rfl) rfl

theorem Silent.modReservations (s : State) (l : LaneId) (x : List Reservation → List Reservation) :
    s.Silent l (s.modReservations l x) := .of_out (.modReservations s l x) rfl

theorem Silent.showStop (s : State) (l : LaneId) (cause : EndCause) : s.Silent l (s.showStop l cause) :=
  (Silent.foldl (fun s r => .closeRecord s l r cause) _ s).trans (.modReservations _ l _)

theorem Silent.showItemEnd (s : State) (l : LaneId) : s.Silent l (s.showItemEnd l) := by
  unfold State.showItemEnd
  split
  · exact (Silent.closeRecord s l _ _).trans (.modReservations _ l _)
  · exact .refl s l

/-! Entries to PAUSED and IDLE, and the stop. -/

theorem Silent.enterIdle (s : State) (l : LaneId) : s.Silent l (s.enterIdle l) :=
  ((((Silent.rampDown s l true).trans (.endWatch _ l .aborted)).trans (.endInjection _ l)).trans
    (.stopFetch _ l false)).trans (.modPl _ l fun p =>
      { p with state := .idle, rate := none, next := none, pause := none, queue := p.queue.map Item.unblocked })

theorem Within.enterPaused (s : State) (l : LaneId) (cause : PauseCause) : s.Within l (s.enterPaused l cause) :=
  ((Within.modPl s l _).trans ((Silent.endWatch _ l cause.gateResult).trans (.rampDown _ l false)).toWithin).trans
    (.cueStep _ l fun e => e.paused cause)

theorem Silent.stopMonitor (s : State) (l : LaneId) : s.Silent l (s.stopMonitor l) :=
  ((Silent.ite (c := (s.lane l).pl.state = .starting) (fun _ => .abortGate s l .aborted)
    fun _ => .refl s l).trans (.endWatch _ l .aborted)).trans (.endInjection _ l)

theorem Silent.stopParts (s : State) (l : LaneId) (cause : EndCause) : s.Silent l (s.stopParts l cause) := by
  have hsound : s.Silent l (if cause = .held then s.modSne l Sound.ended else s.rampDown l true) :=
    .ite (fun _ => .modSne s l _) fun _ => .rampDown s l _
  have hshow := (hsound.trans (.stopFetch _ l true)).trans (.showStop _ l cause)
  exact Silent.ite (c := (s.lane l).pl.headBegun = true) (fun _ => hshow.trans (.dropHead _ l)) fun _ => hshow

theorem Within.stopLane (s : State) (l : LaneId) (cause : EndCause) : s.Within l (s.stopLane l cause) := by
  rw [stopLane_eq]
  exact ((((Silent.stopParts s l cause).trans (.stopMonitor _ l)).toWithin.trans (.modSce _ l _)).trans
    (.toScreen _ l l _)).trans (.modPl _ l _)

theorem Silent.completeReset (s : State) (l : LaneId) : s.Silent l (s.completeReset l) :=
  .ite (fun _ => (Silent.modPl s l _).trans (.raiseLane _ l l _)) fun _ => .refl s l

theorem Silent.resetParts (s : State) (l : LaneId) (cause : EndCause) (rebound : Bool) :
    s.Silent l (s.resetParts l cause rebound) := by
  have hremoved := ((Silent.stopFetch s l true).trans (.showStop _ l cause)).trans (.removeItems _ l fun _ => true)
  unfold State.resetParts
  exact ((hremoved.trans (.modFtm _ l _)).trans (.modSce _ l _)).trans (.modSne _ l _)

theorem Beside.enterHold (s : State) (l : LaneId) (c : ScreenId) : s.Beside l (s.enterHold c) := by
  unfold State.enterHold
  dsimp only
  split <;> exact {}

theorem Beside.holdBound (s : State) (l : LaneId) : s.Beside l (s.holdBound l) := by
  unfold State.holdBound
  split
  · exact .refl s l
  · exact .enterHold s l _

theorem Beside.beginReset (s : State) (l : LaneId) (cause : EndCause) (rebound : Bool) :
    s.Beside l (s.beginReset l cause rebound) := by
  rw [beginReset_eq]
  exact ((Silent.resetParts s l cause rebound).toBeside.trans (.holdBound _ l)).trans (Within.modPl _ l _).toBeside

theorem Sends.enterHold (s : State) (c : ScreenId) :
    s.Sends (s.enterHold c) fun d => if d = c ∧ s.screenHeld c = false then [.clear] else [] := by
  unfold State.enterHold
  dsimp only
  split
  · rename_i hheld
    have hnone : (fun d => if d = c ∧ s.screenHeld c = false then [ScreenCommand.clear] else []) = fun _ => [] :=
      funext fun d => if_neg fun hc => Bool.false_ne_true (hc.2.symm.trans hheld)
    rw [hnone]
    exact .of_out rfl
  · rename_i hfree
    refine Sends.then_none (u := s.emit (.screen c .clear)) ?_ (.of_out rfl)
    convert Sends.screen s c .clear using 2 with d
    simp [Bool.eq_false_of_not_eq_true hfree, eq_comm]

/-- The bound screen's entry to HOLD sends its one CLEAR as the lane's own (R75). -/
theorem Sends.holdBound (s : State) (l : LaneId) : s.Sends (s.holdBound l) (s.onOwn l [.clear]) := by
  unfold State.holdBound
  split
  · rename_i h
    rw [onOwn_none h]
    exact .of_out rfl
  · rename_i c h
    rw [onOwn_some h]
    convert Sends.enterHold s c using 2 with d
    by_cases hd : d = c
    · simp [hd]
    · simp [hd, Ne.symm hd]

end State
end Sys2Proof.Machine
end

section
/-! PROOF. What each operation of a lane leaves of the lane itself, and what a stop and a lane reset do to the log (R64,
R102, R104, R123, R126, R169). -/

namespace Sys2Proof.Machine

open Sys2Proof

/-! ### Commands of a lane -/

/-- A lane's command of its fixed length, on a lane that is not RESETTING, is its owner's answer settled. -/
theorem runCommand_lane {s : State} {kind n : Nat} {body : List Byte} {l : LaneId} (h : s.Commanded kind body)
    (hlen : body.length = n) (hl : u8 body 0 = l.val) (hfree : (s.lane l).pl.state ≠ .resetting)
    (k : List Byte → State → LaneId → Answer) :
    runCommand kind s (fun body s => laneCommand n body s (k body s)) = .next (k body s l).state.settle := by
  rw [runCommand_eq _ h, laneCommand_eq _ hlen hl hfree]

/-- The same for a command executed at an instant. -/
theorem runCommandAt_lane {s v : State} {kind n : Nat} {body : List Byte} {t : Instant} {l : LaneId}
    (h : s.Commanded kind body) (hlen : body.length = n) (hl : u8 body 0 = l.val) (hv : v = s.takeAt t)
    (hfree : (v.lane l).pl.state ≠ .resetting) (k : List Byte → State → LaneId → Answer) :
    runCommandAt kind t s (fun body s => laneCommand n body s (k body s)) = .next (k body v l).state.settle := by
  rw [runCommandAt_eq _ _ h, ← hv, laneCommand_eq _ hlen hl hfree]

theorem LaneState.ne_resetting_of_stoppable {x : LaneState} (h : x.stoppable = true) : x ≠ .resetting := by
  rintro rfl
  exact nomatch h

/-- A gate cut off if it is open (R123). -/
def Gate.cut (g : Gate) (r : GateResult) (now : Instant) : Gate := if g.state = .opened then g.abort r now else g

/-- A monitor whose watch no longer runs, its own gate cut off (R126). -/
def Monitor.unwatched (m : Monitor) (r : GateResult) (now : Instant) : Monitor :=
  { m with watch := false, gate := if m.watch ∧ m.gate.owner = .watch then m.gate.cut r now else m.gate }

/-- The hold flags with that of a screen, if there is one, set. -/
def heldWith (held : Quad Bool) : Option ScreenId → Quad Bool
  | none => held
  | some c => held.set c true

/-- Whether a reservation is that of a record (R57). -/
def Reservation.names (r : Reservation) (x : ShowRecord) : Bool :=
  r.stage == .showing x.seq || r.stage == .qualified x.seq

/-- A record closed before its item's end (R64). -/
def ShowRecord.cutOff (x : ShowRecord) (booth : Option Nat) (cause : EndCause) : ShowRecord :=
  { x with ended := booth, cause := some cause,
           outcome := if x.qualify.isSome then .countedEarlyEnd else .abandoned }

/-- A lane's own record behind a stop's first part: the fetcher stopped, the buffer discarded and a begun head gone. -/
def Playout.cutOff (p : Playout) : Playout :=
  { p with fetch := p.fetch.stop true, buffer := [], queue := if p.headBegun then p.queue.tail else p.queue }

theorem closeOutcome_of_cut {cause : EndCause} (h : cause ≠ .itemEnd) (qualified : Bool) :
    closeOutcome cause qualified = if qualified then .countedEarlyEnd else .abandoned := by
  cases cause with
  | itemEnd => exact absurd rfl h
  | stop | held | laneReset | softReset | revoked => cases qualified <;> rfl

namespace State

variable {s u v : State} {l : LaneId}

/-! ### An update that says the same of a lane -/

theorem modLane_congr {f g : Lane → Lane} (h : f (s.lane l) = g (s.lane l)) : s.modLane l f = s.modLane l g :=
  congrArg (fun n => { s with lanes := s.lanes.set l n }) h

theorem modLane_id {f : Lane → Lane} (h : f (s.lane l) = s.lane l) : s.modLane l f = s :=
  (modLane_congr (g := id) h).trans (congrArg (fun q => { s with lanes := q }) (Quad.set_get_self s.lanes l))

theorem modPl_congr {f g : Playout → Playout} (h : f (s.lane l).pl = g (s.lane l).pl) : s.modPl l f = s.modPl l g :=
  modLane_congr (congrArg (fun p => { s.lane l with pl := p }) h)

theorem modPl_id {f : Playout → Playout} (h : f (s.lane l).pl = (s.lane l).pl) : s.modPl l f = s :=
  modLane_id (congrArg (fun p => { s.lane l with pl := p }) h)

theorem modFtm_congr {f g : Monitor → Monitor} (h : f (s.lane l).ftm = g (s.lane l).ftm) :
    s.modFtm l f = s.modFtm l g :=
  modLane_congr (congrArg (fun p => { s.lane l with ftm := p }) h)

theorem modFtm_id {f : Monitor → Monitor} (h : f (s.lane l).ftm = (s.lane l).ftm) : s.modFtm l f = s :=
  modLane_id (congrArg (fun p => { s.lane l with ftm := p }) h)

/-! ### Windows and packages -/

/-- What the release of packages leaves: the lanes, the showing counter, the clock, the holds and the operations in
flight. -/
structure Packages (s u : State) : Prop where
  lanes : u.lanes = s.lanes := by exact rfl
  shc : u.shc = s.shc := by exact rfl
  clock : u.clock = s.clock := by exact rfl
  held : u.held = s.held := by exact rfl
  ntu : u.ntu = s.ntu := by exact rfl
  flight : u.stc.flight = s.stc.flight := by exact rfl

theorem Packages.refl (s : State) : s.Packages s := {}

theorem Packages.trans (h : s.Packages u) (k : u.Packages v) : s.Packages v where
  lanes := k.lanes.trans h.lanes
  shc := k.shc.trans h.shc
  clock := k.clock.trans h.clock
  held := k.held.trans h.held
  ntu := k.ntu.trans h.ntu
  flight := k.flight.trans h.flight

theorem Packages.lane (h : s.Packages u) (k : LaneId) : u.lane k = s.lane k := by rw [State.lane, h.lanes, State.lane]

theorem Packages.foldl {α : Type} {f : State → α → State} (hf : ∀ (s : State) (a : α), s.Packages (f s a))
    (as : List α) (s : State) : s.Packages (as.foldl f s) := by
  induction as generalizing s with
  | nil => exact .refl s
  | cons a rest ih => exact (hf s a).trans (ih _)

theorem Packages.dropPackage (s : State) (pid : Nat) : s.Packages (s.dropPackage pid) := by
  unfold State.dropPackage
  dsimp only
  have hverdict : ∀ (s : State) (h : ChunkId × Nat), s.Packages (s.settleOffer h.1 (.refused .noPackage)) :=
    fun _ _ => {}
  refine Packages.trans (Packages.foldl hverdict _ (s.modPka _) |> Packages.trans {}) {}

theorem Packages.release (s : State) (pid : Nat) : s.Packages (s.release pid) := by
  unfold State.release
  split
  · exact .refl s
  · refine Packages.trans (u := (s.modStc _).modStc _) { flight := ?_ } (.dropPackage _ pid)
    rw [modStc_stc, Storage.request_eq]
    rfl

theorem Packages.dropReference (s : State) (pid : Nat) : s.Packages (s.dropReference pid) := by
  have hcount : s.Packages (s.modStc fun c => c.modWindow pid fun w => { w with refs := w.refs - 1 }) := {}
  unfold State.dropReference
  dsimp only
  split
  · split
    · exact hcount.trans (.release _ pid)
    · exact hcount
  · exact hcount

theorem Packages.dropItems (s : State) (items : List Item) : s.Packages (s.dropItems items) := by
  refine .foldl (fun s i => ?_) items s
  split
  · exact .refl s
  · exact .dropReference s _

theorem removeItems_packages (s : State) (l : LaneId) (leaves : Item → Bool) :
    (s.modPl l fun p => { p with queue := p.queue.filter fun i => !leaves i }).Packages (s.removeItems l leaves) :=
  .dropItems _ _

theorem dropHead_packages (s : State) (l : LaneId) :
    (s.modPl l fun p => { p with queue := p.queue.tail }).Packages (s.dropHead l) := by
  unfold State.dropHead
  split
  · rename_i h
    have htail : (s.lane l).pl.queue.tail = (s.lane l).pl.queue := by rw [h]; rfl
    rw [modPl_id (by rw [htail])]
    exact .refl s
  · rename_i i rest h
    rw [modPl_congr (g := fun p => { p with queue := rest }) (by rw [h]; rfl)]
    exact .dropItems _ _

/-- A lane's source raised. -/
theorem raiseLane_raised (s : State) (l : LaneId) {n : Nat} (h : n < 9) :
    (s.raiseLane l n).ntu.raised.getLsbD (laneSource l n) = true :=
  raise_raised s (by have := l.isLt; unfold laneSource; omega)

/-! ### The lane behind each operation -/

theorem removeItems_own (s : State) (l : LaneId) (leaves : Item → Bool) : (s.removeItems l leaves).lane l
    = { s.lane l with pl := { (s.lane l).pl with queue := (s.lane l).pl.queue.filter fun i => !leaves i } } := by
  rw [(removeItems_packages s l leaves).lane, lane_modPl_same]

theorem dropHead_own (s : State) (l : LaneId) :
    (s.dropHead l).lane l = { s.lane l with pl := { (s.lane l).pl with queue := (s.lane l).pl.queue.tail } } := by
  rw [(dropHead_packages s l).lane, lane_modPl_same]

theorem stopFetch_own (s : State) (l : LaneId) (advance : Bool) : (s.stopFetch l advance).lane l = { s.lane l with
    pl := { (s.lane l).pl with fetch := (s.lane l).pl.fetch.stop advance, buffer := [] } } :=
  lane_modPl_same s l fun p => { p with fetch := p.fetch.stop advance, buffer := [] }

theorem rampDown_own (s : State) (l : LaneId) (toOff : Bool) :
    (s.rampDown l toOff).lane l = (s.lane l).rampDown s.clock.samples toOff := lane_modLane_same s l _

theorem abortGate_own (s : State) (l : LaneId) (r : GateResult) : (s.abortGate l r).lane l
    = { s.lane l with ftm := { (s.lane l).ftm with gate := (s.lane l).ftm.gate.cut r s.clock.now } } := by
  unfold State.abortGate Gate.cut
  dsimp only
  split
  · rw [raiseGate_lane]
    exact lane_modFtm_same s l _
  · rfl

theorem endWatch_own (s : State) (l : LaneId) (r : GateResult) : (s.endWatch l r).lane l
    = { s.lane l with ftm := (s.lane l).ftm.unwatched r s.clock.now } := by
  unfold State.endWatch Monitor.unwatched
  dsimp only
  rw [lane_modFtm_same]
  split
  · rw [abortGate_own]
  · rfl

theorem closeRecord_eq (s : State) (r : Reservation) (cause : EndCause) :
    s.closeRecord r cause = { s with shc := (s.closeRecord r cause).shc } := by
  unfold State.closeRecord
  split <;> rfl

theorem closeRecords_eq (rs : List Reservation) (s : State) (cause : EndCause) :
    rs.foldl (fun s r => s.closeRecord r cause) s
      = { s with shc := (rs.foldl (fun s r => s.closeRecord r cause) s).shc } := by
  induction rs generalizing s with
  | nil => rfl
  | cons r rest ih =>
    rw [List.foldl_cons, ih, closeRecord_eq]

/-- A stop of a lane's showings changes the showing counter alone. -/
theorem showStop_eq (s : State) (l : LaneId) (cause : EndCause) :
    s.showStop l cause = { s with shc := (s.showStop l cause).shc } := by
  unfold State.showStop State.modReservations
  rw [closeRecords_eq]

theorem showStop_lane (s : State) (l k : LaneId) (cause : EndCause) : (s.showStop l cause).lane k = s.lane k := by
  rw [showStop_eq]
  rfl

/-! ### The log behind a lane's stop (R64) -/

theorem closeRecord_shc (s : State) (r : Reservation) {cause : EndCause} (hcause : cause ≠ .itemEnd) :
    (s.closeRecord r cause).shc
      = { s.shc with log := s.shc.log.map fun x => if r.names x then x.cutOff s.clock.booth cause else x } := by
  unfold State.closeRecord
  split
  · rename_i h
    have hnone : ∀ x ∈ s.shc.log, (if r.names x then x.cutOff s.clock.booth cause else x) = x := fun x _ =>
      if_neg (by simp [Reservation.names, h])
    rw [List.map_congr_left hnone, List.map_id']
  all_goals
    rename_i seq h
    refine congrArg (fun log => { s.shc with log := log }) (List.map_congr_left fun x _ => ?_)
    by_cases hseq : x.seq = seq
    · have hnames : r.names x = true := by simp [Reservation.names, h, hseq]
      rw [if_pos hseq, if_pos hnames, ShowRecord.cutOff, ← closeOutcome_of_cut hcause]
    · have hnames : ¬ r.names x = true := by simp [Reservation.names, h, Ne.symm hseq]
      rw [if_neg hseq, if_neg hnames]

/-- The records that a list of reservations names are closed. -/
theorem closeRecords_shc (rs : List Reservation) (s : State) {cause : EndCause} (hcause : cause ≠ .itemEnd) :
    (rs.foldl (fun s r => s.closeRecord r cause) s).shc = { s.shc with
      log := s.shc.log.map fun x => if rs.any (fun r => r.names x) then x.cutOff s.clock.booth cause else x } := by
  induction rs generalizing s with
  | nil => simp
  | cons r rest ih =>
    rw [List.foldl_cons, ih, closeRecord_shc s r hcause, show (s.closeRecord r cause).clock = s.clock by rw [closeRecord_eq]]
    dsimp only
    rw [List.map_map]
    refine congrArg (fun log => { s.shc with log := log }) (List.map_congr_left fun x _ => ?_)
    rw [Function.comp_apply, List.any_cons]
    by_cases hr : r.names x = true
    · rw [if_pos hr, hr, Bool.true_or, if_pos rfl]
      exact ite_eq_right_iff.mpr fun _ => rfl
    · rw [if_neg hr, Bool.eq_false_of_not_eq_true hr, Bool.false_or]

/-- A stop of a lane closes its records and ends its reservations (R64, R65). -/
theorem showStop_shc (s : State) (l : LaneId) {cause : EndCause} (hcause : cause ≠ .itemEnd) :
    (s.showStop l cause).shc = { s.shc with
      log := s.shc.log.map fun x => if s.shc.namedBy l x then x.cutOff s.clock.booth cause else x
      reservations := s.shc.reservations.set l [] } := by
  unfold State.showStop State.modReservations
  dsimp only
  rw [closeRecords_shc _ s hcause]
  rfl

/-! ### The stop (R102) -/

theorem toScreen_shc (s : State) (l : LaneId) (x : ScreenCommand) : (s.toScreen l x).shc = s.shc := by
  unfold State.toScreen
  split
  · rfl
  · split <;> rfl

theorem toScreen_stc (s : State) (l : LaneId) (x : ScreenCommand) : (s.toScreen l x).stc = s.stc := by
  unfold State.toScreen
  split
  · rfl
  · split <;> rfl

theorem stopMonitor_own (s : State) (l : LaneId) :
    (s.stopMonitor l).lane l = { s.lane l with ftm := ((s.stopMonitor l).lane l).ftm }
      ∧ ((s.stopMonitor l).lane l).ftm.injection = none := by
  unfold State.stopMonitor State.endInjection
  dsimp only
  rw [lane_modFtm_same, endWatch_own]
  split
  · rw [abortGate_own]
    exact ⟨rfl, rfl⟩
  · exact ⟨rfl, rfl⟩

theorem stopMonitor_shc (s : State) (l : LaneId) : (s.stopMonitor l).shc = s.shc := by
  unfold State.stopMonitor State.endInjection
  dsimp only
  rw [modFtm_shc]
  obtain ⟨-, -, -, hend, -⟩ := endWatch_same (if (s.lane l).pl.state = .starting then s.abortGate l .aborted else s) l
    .aborted
  rw [hend]
  split
  · obtain ⟨-, -, -, habort, -⟩ := abortGate_same s l .aborted
    exact habort
  · rfl

theorem stopParts_own (s : State) (l : LaneId) (cause : EndCause) : (s.stopParts l cause).lane l = { s.lane l with
    pl := (s.lane l).pl.cutOff
    sne := if cause = .held then (s.lane l).sne.ended else ((s.lane l).rampDown s.clock.samples true).sne } := by
  have hsound : ∀ u : State, u = (if cause = .held then s.modSne l Sound.ended else s.rampDown l true) →
      u.lane l = { s.lane l with
        sne := if cause = .held then (s.lane l).sne.ended else ((s.lane l).rampDown s.clock.samples true).sne } := by
    rintro u rfl
    split
    · exact lane_modSne_same s l _
    · rw [rampDown_own]
      exact Lane.rampDown_eq _ _ _
  unfold State.stopParts Playout.cutOff
  dsimp only
  split
  · rw [dropHead_own, showStop_lane, stopFetch_own, hsound _ rfl]
  · rw [showStop_lane, stopFetch_own, hsound _ rfl]

theorem stopLane_own (s : State) (l : LaneId) (cause : EndCause) : (s.stopLane l cause).lane l
    = { pl := (s.lane l).pl.cutOff.stopped
        ftm := ((s.stopLane l cause).lane l).ftm
        sce := (s.lane l).sce.emptied
        sne := if cause = .held then (s.lane l).sne.ended else ((s.lane l).rampDown s.clock.samples true).sne }
      ∧ ((s.stopLane l cause).lane l).ftm.injection = none := by
  obtain ⟨hown, hinj⟩ := stopMonitor_own (s.stopParts l cause) l
  rw [stopLane_eq, lane_modPl_same, toScreen_lane, lane_modSce_same]
  refine ⟨?_, hinj⟩
  rw [hown, stopParts_own]

theorem stopLane_shc (s : State) (l : LaneId) {cause : EndCause} (hcause : cause ≠ .itemEnd) :
    (s.stopLane l cause).shc = { s.shc with
      log := s.shc.log.map fun x => if s.shc.namedBy l x then x.cutOff s.clock.booth cause else x
      reservations := s.shc.reservations.set l [] } := by
  have hshow : ∀ u : State, u.shc = s.shc → u.clock = s.clock → (((u.stopFetch l true).showStop l cause).shc
      = { s.shc with
        log := s.shc.log.map fun x => if s.shc.namedBy l x then x.cutOff s.clock.booth cause else x
        reservations := s.shc.reservations.set l [] }) := by
    intro u hshc hclock
    have hsame : (u.stopFetch l true).shc = s.shc := hshc
    have hclocks : (u.stopFetch l true).clock = s.clock := hclock
    rw [showStop_shc _ l hcause, hsame, hclocks]
  have hsound := hshow (if cause = .held then s.modSne l Sound.ended else s.rampDown l true)
    (by split <;> rfl) (by split <;> rfl)
  rw [stopLane_eq, modPl_shc, toScreen_shc, modSce_shc, stopMonitor_shc]
  unfold State.stopParts
  dsimp only
  split
  · rw [(dropHead_packages _ l).shc]
    exact hsound
  · exact hsound

/-- A lane behind its stop is still. -/
theorem stopLane_still (s : State) (l : LaneId) (cause : EndCause) : (s.stopLane l cause).Still l := by
  unfold State.Still
  rw [(stopLane_own s l cause).1]
  exact ⟨rfl, rfl, nofun⟩

theorem Sends.stopLane (s : State) (l : LaneId) (cause : EndCause) :
    s.Sends (s.stopLane l cause) (s.onOwn l [.clear]) := by
  have hparts := (Silent.stopParts s l cause).trans (.stopMonitor _ l)
  have hsent := Sends.toScreen (((s.stopParts l cause).stopMonitor l).modSce l CueEngine.emptied) l .clear
  have hown := onOwn_congr (s := s) (u := ((s.stopParts l cause).stopMonitor l).modSce l CueEngine.emptied) (l := l)
    hparts.held (fun k => by rw [modSce_lane_pl, stopMonitor_lane_pl, (Calm.stopParts s l cause).screen]) [.clear]
  rw [hown] at hsent
  rw [stopLane_eq]
  exact (Sends.none_then (hparts.sends.then_none (.of_out rfl)) hsent).then_none (.of_out rfl)

/-! ### The lane reset (R104, R105) -/

/-- The lane behind the start of its reset. -/
theorem resetParts_own (s : State) (l : LaneId) (cause : EndCause) (rebound : Bool) :
    (s.resetParts l cause rebound).lane l =
      { pl := { (s.lane l).pl with fetch := (s.lane l).pl.fetch.stop true, buffer := [], queue := [] }
        ftm := { (s.lane l).ftm.laneReset rebound with gate := (s.lane l).ftm.gate.cut .aborted s.clock.now }
        sce := CueEngine.reset
        sne := { (s.lane l).sne.ended with counts := .zero } } := by
  have hremoved := removeItems_own ((s.stopFetch l true).showStop l cause) l fun _ => true
  rw [showStop_lane, stopFetch_own] at hremoved
  have hclock : (((s.stopFetch l true).showStop l cause).removeItems l fun _ => true).clock = s.clock :=
    (((Silent.stopFetch s l true).trans (.showStop _ l cause)).trans (.removeItems _ l _)).clock
  have hnone : (s.lane l).pl.queue.filter (fun _ => !true) = [] := List.filter_eq_nil_iff.mpr fun _ _ => nofun
  unfold State.resetParts
  dsimp only
  rw [lane_modSne_same, lane_modSce_same, lane_modFtm_same, hremoved, hclock]
  dsimp only
  rw [hnone]
  rfl

theorem beginReset_own (s : State) (l : LaneId) (cause : EndCause) (rebound : Bool) :
    (s.beginReset l cause rebound).lane l = { (s.resetParts l cause rebound).lane l with
      pl := ((s.resetParts l cause rebound).lane l).pl.laneReset } := by
  rw [beginReset_eq, lane_modPl_same, holdBound_lane]

theorem resetParts_shc (s : State) (l : LaneId) {cause : EndCause} (hcause : cause ≠ .itemEnd) (rebound : Bool) :
    (s.resetParts l cause rebound).shc = { s.shc with
      log := s.shc.log.map fun x => if s.shc.namedBy l x then x.cutOff s.clock.booth cause else x
      reservations := s.shc.reservations.set l [] } := by
  unfold State.resetParts
  dsimp only
  rw [modSne_shc, modSce_shc, modFtm_shc, (removeItems_packages _ l _).shc, modPl_shc, showStop_shc _ l hcause]
  rfl

theorem holdBound_shc (s : State) (l : LaneId) : (s.holdBound l).shc = s.shc := by
  unfold State.holdBound
  split
  · rfl
  · rw [enterHold_eq]

theorem holdBound_stc (s : State) (l : LaneId) : (s.holdBound l).stc = s.stc := by
  unfold State.holdBound
  split
  · rfl
  · rw [enterHold_eq]

/-- The lane's bound screen is in HOLD, and no other flag has changed. -/
theorem holdBound_held (s : State) (l : LaneId) : (s.holdBound l).held = heldWith s.held (s.lane l).pl.screen := by
  unfold State.holdBound
  cases (s.lane l).pl.screen with
  | none => rfl
  | some c => exact enterHold_held s c

theorem resetParts_flight (s : State) (l : LaneId) (cause : EndCause) (rebound : Bool) :
    (s.resetParts l cause rebound).stc.flight = s.stc.flight := by
  unfold State.resetParts
  dsimp only
  rw [modSne_stc, modSce_stc, modFtm_stc, (removeItems_packages _ l _).flight, modPl_stc, showStop_eq]
  rfl

theorem beginReset_shc (s : State) (l : LaneId) {cause : EndCause} (hcause : cause ≠ .itemEnd) (rebound : Bool) :
    (s.beginReset l cause rebound).shc = { s.shc with
      log := s.shc.log.map fun x => if s.shc.namedBy l x then x.cutOff s.clock.booth cause else x
      reservations := s.shc.reservations.set l [] } := by
  rw [beginReset_eq, modPl_shc, holdBound_shc, resetParts_shc s l hcause]

theorem beginReset_flight (s : State) (l : LaneId) (cause : EndCause) (rebound : Bool) :
    (s.beginReset l cause rebound).stc.flight = s.stc.flight := by
  rw [beginReset_eq, modPl_stc, holdBound_stc, resetParts_flight]

theorem Sends.beginReset (s : State) (l : LaneId) (cause : EndCause) (rebound : Bool) :
    s.Sends (s.beginReset l cause rebound) (s.onOwn l [.clear]) := by
  have hparts := Silent.resetParts s l cause rebound
  have hsent := Sends.holdBound (s.resetParts l cause rebound) l
  obtain ⟨-, -, hscreen⟩ := resetParts_lane s l cause rebound
  rw [onOwn_congr hparts.held hscreen] at hsent
  rw [beginReset_eq]
  exact (Sends.none_then hparts.sends hsent).then_none (.of_out rfl)

/-- A RESETTING lane's reset completed, or waiting for its reads (R105). -/
theorem completeReset_own {s : State} (h : (s.lane l).pl.state = .resetting) : (s.completeReset l).lane l
    = { s.lane l with pl := { (s.lane l).pl with
        state := if s.stc.flight.any (Operation.ofLane l) then .resetting else .idle } } := by
  unfold State.completeReset
  by_cases hflight : s.stc.flight.any (Operation.ofLane l) = true
  · rw [if_neg (by simp [hflight]), if_pos hflight, ← h]
  · rw [if_pos ⟨h, by simpa using hflight⟩, if_neg hflight]
    exact lane_modPl_same s l fun p => { p with state := .idle }

theorem completeReset_shc (s : State) (l : LaneId) : (s.completeReset l).shc = s.shc := by
  unfold State.completeReset
  split <;> rfl

end State
end Sys2Proof.Machine
end

section
/-! PROOF. STOP, LANE_RESET, ASSIGN_LANE, HOLD_SCREEN and REVOKE_LICENCE (R54, R55, R75 to R77, R102, R104, R105). -/

namespace Sys2Proof.Machine

open Sys2Proof

namespace State

variable {s u v : State} {l : LaneId}

/-- An answered command leaves alone a lane that is still. -/
theorem Still.answered (h : u.Still l) (r : Reply) :
    (u.answered r).lane l = u.lane l ∧ (u.answered r).shc.reservations.get l = u.shc.reservations.get l :=
  Still.settle (s := u.reply r) h

theorem answered_held (u : State) (r : Reply) : (u.answered r).held = u.held := settle_held (u.reply r)

theorem answered_log (u : State) (r : Reply) : (u.answered r).shc.log = u.shc.log := settle_log (u.reply r)

theorem answered_licences (u : State) (r : Reply) : (u.answered r).shc.licences = u.shc.licences :=
  settle_licences (u.reply r)

theorem answered_raised (u : State) (r : Reply) {n : Nat} (h : u.ntu.raised.getLsbD n = true) :
    (u.answered r).ntu.raised.getLsbD n = true := settle_raised (s := u.reply r) h

/-- What a stop of a lane with a cause does to the log is what the claims say of it. -/
theorem StopClosesRecord.of_shc {cause : EndCause} {rs : Quad (List Reservation)} (h : u.shc = { s.shc with
      log := s.shc.log.map fun x => if s.shc.namedBy l x then x.cutOff s.clock.booth cause else x
      reservations := rs }) (r : Reply) : s.StopClosesRecord (u.answered r) l cause := by
  unfold State.StopClosesRecord
  rw [answered_log, h]
  rfl

end State

/-! ### STOP -/

theorem exec_stop {s v : State} {body : List Byte} {t : Instant} {l : LaneId} (hc : s.Commanded 0x4A body)
    (hlen : body.length = 1) (hl : u8 body 0 = l.val) (hv : v = s.takeAt t)
    (hstop : (v.lane l).pl.state.stoppable = true) :
    exec (.stop t) s = .next ((v.stopLane l .stop).answered
      (.done (.cleared (if (v.lane l).pl.headBegun then 1 else 0) ((v.stopLane l .stop).lane l).pl.queue.length))) := by
  have hexec : exec (.stop t) s = _ := runCommandAt_lane hc hlen hl hv (LaneState.ne_resetting_of_stoppable hstop)
    fun _ s l => stop l s
  rw [hexec]
  unfold stop
  dsimp only
  rw [if_pos hstop]
  rfl

/-- Settles O42: the lane behind its stop is still, so that the settling leaves it as the stop does. -/
theorem laneStopped : Obligations.LaneStopped := by
  intro s v body t l hc hlen hl hv hstop
  refine ⟨_, exec_stop hc hlen hl hv hstop, ?_⟩
  generalize Reply.done _ = r
  obtain ⟨hlane, hres⟩ := (v.stopLane_still l .stop).answered r
  obtain ⟨hown, hinj⟩ := v.stopLane_own l .stop
  have hshc := v.stopLane_shc l (cause := .stop) nofun
  have hpl : ((v.stopLane l .stop).lane l).pl = (v.lane l).pl.cutOff.stopped := by rw [hown]
  have hsce : ((v.stopLane l .stop).lane l).sce = (v.lane l).sce.emptied := by rw [hown]
  have hsne : ((v.stopLane l .stop).lane l).sne = ((v.lane l).rampDown v.clock.samples true).sne := by
    rw [hown]
    dsimp only
    rw [if_neg (by decide)]
  rw [hshc] at hres
  rw [hlane, hpl, hsce, hsne]
  refine ⟨(State.Within.stopLane v l .stop).toBeside.answered r,
    (State.answered_held _ r).trans (State.Within.stopLane v l .stop).held, rfl, rfl, rfl, rfl, rfl, rfl, rfl, rfl,
    hres.trans (Quad.get_set_same _ _ _), .of_shc hshc r, rfl, hinj, rfl,
    (State.Sends.stopLane v l .stop).then_none (.answered _ r), rfl, ?_⟩
  unfold Lane.rampDown
  dsimp only
  refine ⟨fun h => ?_, fun h => ?_, fun h => ?_, fun h => ?_⟩ <;> rw [h]
  · rw [Bool.or_true]
  · rfl

/-! ### LANE_RESET -/

theorem Gate.cut_not_opened (g : Gate) (r : GateResult) (now : Instant) : (g.cut r now).state ≠ .opened := by
  unfold Gate.cut
  split
  · exact nofun
  · assumption

namespace State

variable {s : State} {l : LaneId}

/-- The lane behind the start of its reset, its own record RESETTING. -/
theorem beginReset_lane_own (s : State) (l : LaneId) (cause : EndCause) (rebound : Bool) :
    (s.beginReset l cause rebound).lane l =
      { pl := { (s.lane l).pl with fetch := (s.lane l).pl.fetch.stop true, buffer := [], queue := [] }.laneReset
        ftm := { (s.lane l).ftm.laneReset rebound with gate := (s.lane l).ftm.gate.cut .aborted s.clock.now }
        sce := CueEngine.reset
        sne := { (s.lane l).sne.ended with counts := .zero } } := by
  rw [beginReset_own, resetParts_own]

theorem completeReset_held (s : State) (l : LaneId) : (s.completeReset l).held = s.held :=
  (Silent.completeReset s l).held

/-- With no read of the lane in flight the completed reset raises LANE_READY (R105). -/
theorem completeReset_raised (h : (s.lane l).pl.state = .resetting)
    (hflight : s.stc.flight.any (Operation.ofLane l) = false) :
    (s.completeReset l).ntu.raised.getLsbD (laneSource l srcLaneReady) = true := by
  unfold State.completeReset
  rw [if_pos ⟨h, by simpa using hflight⟩]
  exact raiseLane_raised _ l (by decide)

theorem beginReset_held (s : State) (l : LaneId) (cause : EndCause) (rebound : Bool) :
    (s.beginReset l cause rebound).held = heldWith s.held (s.lane l).pl.screen := by
  obtain ⟨-, -, hscreen⟩ := resetParts_lane s l cause rebound
  rw [beginReset_eq, modPl_held, holdBound_held, hscreen, (Silent.resetParts s l cause rebound).held]

end State

theorem exec_laneReset {s v : State} {body : List Byte} {t : Instant} {l : LaneId} (hc : s.Commanded 0x4D body)
    (hlen : body.length = 1) (hl : u8 body 0 = l.val) (hv : v = s.takeAt t)
    (hfree : (v.lane l).pl.state ≠ .resetting) :
    exec (.laneReset t) s = .next ((v.resetLane l .laneReset).answered
      (.done (.laneState ((v.resetLane l .laneReset).lane l).pl.state))) :=
  runCommandAt_lane hc hlen hl hv hfree fun _ s l => doneState l (s.resetLane l .laneReset)

/-- Settles O45: the lane behind its reset is still, IDLE or waiting for its reads. -/
theorem laneResetTaken : Obligations.LaneResetTaken := by
  intro s v body t l hc hlen hl hv hfree
  refine ⟨_, exec_laneReset hc hlen hl hv hfree, ?_⟩
  generalize Reply.done _ = r
  have hbegun := v.beginReset_lane_own l .laneReset false
  have hresetting : ((v.beginReset l .laneReset false).lane l).pl.state = .resetting := by
    rw [hbegun]
    rfl
  have hown : (v.resetLane l .laneReset).lane l = _ := State.completeReset_own hresetting
  rw [hbegun, State.beginReset_flight] at hown
  have hstill : (v.resetLane l .laneReset).Still l := by
    unfold State.Still
    rw [hown]
    refine ⟨rfl, rfl, ?_⟩
    dsimp only
    split <;> exact nofun
  have hbeside : v.Beside l (v.resetLane l .laneReset) :=
    (State.Beside.beginReset v l .laneReset false).trans (State.Silent.completeReset _ l).toBeside
  have hshc := (State.completeReset_shc (v.beginReset l .laneReset false) l).trans
    (v.beginReset_shc l (cause := .laneReset) nofun false)
  have hheld : (v.resetLane l .laneReset).held = _ :=
    (State.completeReset_held _ l).trans (v.beginReset_held l .laneReset false)
  obtain ⟨hlane, hres⟩ := hstill.answered r
  have hframe := hbeside.answered r
  refine ⟨hframe, ?_⟩
  rw [hlane, hown, hres]
  have hsent := ((State.Sends.beginReset v l .laneReset false).then_none
    (State.Silent.completeReset _ l).sends).then_none (.answered _ r)
  refine ⟨rfl, rfl, rfl, rfl, rfl, rfl, rfl, rfl, rfl, Gate.cut_not_opened _ _ _, rfl,
    by rw [State.resetLane, hshc]; exact Quad.get_set_same _ _ _, .of_shc hshc r,
    (State.settle_link _).trans hbeside.link, rfl, rfl, rfl, rfl, rfl, rfl, rfl, hsent, fun c hscreen => ?_, rfl,
    fun hflight => ?_⟩
  · rw [State.answered_held, hheld, hscreen]
    exact Quad.get_set_same _ _ _
  · refine State.answered_raised _ r (State.completeReset_raised hresetting ?_)
    rw [State.beginReset_flight]
    exact hflight

/-! ### ASSIGN_LANE -/

/-- A screen, if there is one, enters HOLD. -/
def State.holdTo (s : State) : Option ScreenId → State
  | none => s
  | some c => s.enterHold c

namespace State

variable {s : State} {l : LaneId}

theorem holdTo_lane (s : State) (c : Option ScreenId) (k : LaneId) : (s.holdTo c).lane k = s.lane k := by
  cases c with
  | none => rfl
  | some c => exact enterHold_lane s c k

theorem holdTo_held (s : State) (c : Option ScreenId) : (s.holdTo c).held = heldWith s.held c := by
  cases c with
  | none => rfl
  | some c => exact enterHold_held s c

theorem holdTo_shc (s : State) (c : Option ScreenId) : (s.holdTo c).shc = s.shc := by
  cases c with
  | none => rfl
  | some c =>
    rw [holdTo, enterHold_eq]

theorem Beside.holdTo (s : State) (l : LaneId) (c : Option ScreenId) : s.Beside l (s.holdTo c) := by
  cases c with
  | none => exact .refl s l
  | some c => exact .enterHold s l c

theorem heldWith_self {held : Quad Bool} {c : Option ScreenId} {x : ScreenId} (h : c = some x) :
    (heldWith held c).get x = true := by
  rw [h]
  exact Quad.get_set_same _ _ _

theorem heldWith_of {held : Quad Bool} {x : ScreenId} (c : Option ScreenId) (h : held.get x = true) :
    (heldWith held c).get x = true := by
  cases c with
  | none => exact h
  | some c =>
    by_cases hx : x = c
    · rw [hx]
      exact Quad.get_set_same _ _ _
    · exact (Quad.get_set_ne _ _ hx).trans h

/-- The lane bound anew, its reset not completed yet. -/
def rebound (s : State) (l : LaneId) (c : Option ScreenId) : State :=
  ((s.beginReset l .laneReset true).holdTo c).modPl l fun p => { p with screen := c }

theorem rebind_eq (s : State) (l : LaneId) (c : Option ScreenId) : s.rebind l c = (s.rebound l c).completeReset l := by
  cases c <;> rfl

theorem rebound_own (s : State) (l : LaneId) (c : Option ScreenId) : (s.rebound l c).lane l
    = { (s.beginReset l .laneReset true).lane l with
        pl := { ((s.beginReset l .laneReset true).lane l).pl with screen := c } } := by
  unfold State.rebound
  rw [lane_modPl_same, holdTo_lane]

theorem rebind_held (s : State) (l : LaneId) (c : Option ScreenId) :
    (s.rebind l c).held = heldWith (heldWith s.held (s.lane l).pl.screen) c := by
  rw [rebind_eq, completeReset_held, State.rebound, modPl_held, holdTo_held, beginReset_held]

theorem rebind_shc (s : State) (l : LaneId) (c : Option ScreenId) : (s.rebind l c).shc = { s.shc with
    log := s.shc.log.map fun x => if s.shc.namedBy l x then x.cutOff s.clock.booth .laneReset else x
    reservations := s.shc.reservations.set l [] } := by
  rw [rebind_eq, completeReset_shc, State.rebound, modPl_shc, holdTo_shc]
  exact s.beginReset_shc l (cause := .laneReset) nofun true

theorem Beside.rebind (s : State) (l : LaneId) (c : Option ScreenId) : s.Beside l (s.rebind l c) := by
  rw [rebind_eq]
  exact (((Beside.beginReset s l .laneReset true).trans (.holdTo _ l c)).trans
    (Within.modPl _ l fun p => { p with screen := c }).toBeside).trans (Silent.completeReset _ l).toBeside

end State

theorem exec_assignLane {s v : State} {body : List Byte} {t : Instant} {l : LaneId} (hc : s.Commanded 0x40 body)
    (hlen : body.length = 2) (hl : u8 body 0 = l.val) (hv : v = s.takeAt t)
    (hfree : (v.lane l).pl.state ≠ .resetting) :
    exec (.assignLane t) s = .next (assignLane l (u8 body 1) v).state.settle :=
  runCommandAt_lane hc hlen hl hv hfree fun body s l => assignLane l (u8 body 1) s

/-- An assignment to another screen that no other lane has, or to none, rebinds. -/
theorem assignLane_rebinds {v : State} {l : LaneId} {field : Nat} {c : Option ScreenId} (hfield : screenField field = some c)
    (hne : (v.lane l).pl.screen ≠ c) (hfree : ∀ x, c = some x → v.takenElsewhere l x = false) :
    assignLane l field v = doneState l (v.rebind l c) := by
  unfold assignLane
  rw [hfield]
  dsimp only
  rw [if_neg hne]
  cases c with
  | none => rfl
  | some x =>
    dsimp only
    rw [hfree x rfl]
    rfl

/-- Settles O35: the bound screen confirms, another one rebinds, and the lane bound anew is still. -/
theorem laneAssigned : Obligations.LaneAssigned := by
  intro s v body t l c hc hlen hl hv hfree hfield
  rw [exec_assignLane hc hlen hl hv hfree]
  refine ⟨fun hsame => ?_, fun hne htaken => ?_⟩
  · unfold assignLane
    rw [hfield]
    dsimp only
    rw [if_pos hsame]
    rfl
  · rw [assignLane_rebinds hfield hne htaken]
    refine ⟨((v.rebind l c).answered (.done (.laneState ((v.rebind l c).lane l).pl.state))), rfl, ?_⟩
    generalize Reply.done _ = r
    have hbound := v.rebound_own l c
    rw [State.beginReset_lane_own] at hbound
    have hresetting : ((v.rebound l c).lane l).pl.state = .resetting := by
      rw [hbound]
      rfl
    have hown := State.completeReset_own hresetting
    rw [← State.rebind_eq, hbound] at hown
    have hstill : (v.rebind l c).Still l := by
      unfold State.Still
      rw [hown]
      refine ⟨rfl, rfl, ?_⟩
      dsimp only
      split <;> exact nofun
    obtain ⟨hlane, -⟩ := hstill.answered r
    refine ⟨(State.Beside.rebind v l c).answered r, ?_⟩
    rw [hlane, hown, State.answered_held, State.rebind_held]
    refine ⟨rfl, rfl, rfl, rfl, rfl, rfl, rfl, rfl, fun x hx => State.heldWith_self hx,
      fun x hx => State.heldWith_of c (State.heldWith_self hx), ?_, .of_shc (State.rebind_shc v l c) r⟩
    dsimp only
    split
    · exact .inr rfl
    · exact .inl rfl

/-! ### HOLD_SCREEN -/

theorem exec_holdScreen {s v : State} {body : List Byte} {t : Instant} {l : LaneId} (hc : s.Commanded 0x41 body)
    (hlen : body.length = 1) (hl : u8 body 0 = l.val) (hv : v = s.takeAt t)
    (hfree : (v.lane l).pl.state ≠ .resetting) :
    exec (.holdScreen t) s = .next (holdScreen l v).state.settle :=
  runCommandAt_lane hc hlen hl hv hfree fun _ s l => holdScreen l s

/-- The lane stopped for a hold if it is presenting or preparing (R77). -/
def State.stoppedForHold (s : State) (l : LaneId) : State :=
  if (s.lane l).pl.state.stoppable then s.stopLane l .held else s

/-- The lane stopped, its sound ended and its screen in HOLD (R77, R170). -/
def State.putInHold (s : State) (l : LaneId) (c : ScreenId) : State :=
  ((s.stoppedForHold l).modSne l Sound.ended).enterHold c

theorem holdScreen_held {v : State} {l : LaneId} {c : ScreenId} (hscreen : (v.lane l).pl.screen = some c)
    (hfree : v.screenHeld c = false) : holdScreen l v = doneState l (v.putInHold l c) := by
  unfold holdScreen
  rw [hscreen]
  dsimp only
  rw [hfree]
  rfl

theorem LaneState.idle_of_not_stoppable {x : LaneState} (h : x.stoppable = false) (hne : x ≠ .resetting) : x = .idle := by
  cases x with
  | idle => rfl
  | resetting => exact absurd rfl hne
  | cueing | cued | starting | playing | paused => exact nomatch h

namespace State

variable {s : State} {l : LaneId} {c : ScreenId}

theorem holdBound_of_screen (h : (s.lane l).pl.screen = some c) : s.holdBound l = s.enterHold c := by
  unfold State.holdBound
  rw [h]

theorem Within.stoppedForHold (s : State) (l : LaneId) : s.Within l (s.stoppedForHold l) :=
  .ite (fun _ => .stopLane s l .held) fun _ => .refl s l

theorem stoppedForHold_screen (s : State) (l k : LaneId) :
    ((s.stoppedForHold l).lane k).pl.screen = (s.lane k).pl.screen := by
  unfold State.stoppedForHold
  split
  · exact (stopLane_lane s l k .held).2
  · rfl

theorem stoppedForHold_state (h : (s.lane l).pl.state ≠ .resetting) :
    ((s.stoppedForHold l).lane l).pl.state = .idle := by
  unfold State.stoppedForHold
  split
  · rw [(stopLane_lane s l l .held).1, if_pos rfl]
  · rename_i hstop
    exact LaneState.idle_of_not_stoppable (Bool.eq_false_of_not_eq_true hstop) h

theorem Sends.stoppedForHold (s : State) (l : LaneId) :
    s.Sends (s.stoppedForHold l) (s.onOwn l (if (s.lane l).pl.state.stoppable then [.clear] else [])) := by
  unfold State.stoppedForHold
  split
  · exact .stopLane s l .held
  · have hnone : s.onOwn l [] = fun _ => [] := funext fun c => ite_self _
    rw [hnone]
    exact .of_out rfl

theorem putInHold_lane (s : State) (l : LaneId) (c : ScreenId) : (s.putInHold l c).lane l
    = { (s.stoppedForHold l).lane l with sne := ((s.stoppedForHold l).lane l).sne.ended } := by
  unfold State.putInHold
  rw [enterHold_lane, lane_modSne_same]

theorem putInHold_held (s : State) (l : LaneId) (c : ScreenId) : (s.putInHold l c).held = s.held.set c true := by
  unfold State.putInHold
  rw [enterHold_held, modSne_held, (Within.stoppedForHold s l).held]

theorem putInHold_shc (s : State) (l : LaneId) (c : ScreenId) : (s.putInHold l c).shc = (s.stoppedForHold l).shc := by
  unfold State.putInHold
  rw [enterHold_eq]
  rfl

theorem Beside.putInHold (s : State) (l : LaneId) (c : ScreenId) : s.Beside l (s.putInHold l c) :=
  ((Within.stoppedForHold s l).toBeside.trans (Within.modSne _ l _).toBeside).trans (.enterHold _ l c)

/-- The stop's CLEAR, and behind it the hold's (R75, R77). -/
theorem Sends.putInHold (h : (s.lane l).pl.screen = some c) : s.Sends (s.putInHold l c)
    (s.onOwn l (if (s.lane l).pl.state.stoppable then [.clear, .clear] else [.clear])) := by
  have hscreen : (((s.stoppedForHold l).modSne l Sound.ended).lane l).pl.screen = some c := by
    rw [modSne_lane_pl, stoppedForHold_screen, h]
  have hhold := Sends.holdBound ((s.stoppedForHold l).modSne l Sound.ended) l
  rw [holdBound_of_screen hscreen, onOwn_congr (s := s) (by rw [modSne_held, (Within.stoppedForHold s l).held])
    fun k => by rw [modSne_lane_pl, stoppedForHold_screen]] at hhold
  have hboth := ((Sends.stoppedForHold s l).then_none (.of_out rfl)).trans hhold
  have hall : (fun c => s.onOwn l (if (s.lane l).pl.state.stoppable then [.clear] else []) c ++ s.onOwn l [.clear] c)
      = s.onOwn l (if (s.lane l).pl.state.stoppable then [.clear, .clear] else [.clear]) := by
    funext c
    rw [onOwn_append]
    split <;> rfl
  rw [hall] at hboth
  exact hboth

end State

theorem Sound.ended_state (n : Sound) : n.ended.state = .off := rfl

/-- Settles O36: the stop's CLEAR and the hold's, on the lane's own screen. -/
theorem screenHeld : Obligations.ScreenHeld := by
  intro s v body t l c hc hlen hl hv hfree hscreen hopen
  rw [exec_holdScreen hc hlen hl hv hfree, holdScreen_held hscreen hopen]
  refine ⟨(v.putInHold l c).answered (.done (.laneState ((v.putInHold l c).lane l).pl.state)), rfl, ?_⟩
  generalize Reply.done _ = r
  have hstate : ((v.putInHold l c).lane l).pl.state = .idle := by
    rw [State.putInHold_lane]
    exact State.stoppedForHold_state hfree
  have hsound : ((v.putInHold l c).lane l).sne.state = .off := by
    rw [State.putInHold_lane]
    rfl
  refine ⟨(State.Beside.putInHold v l c).answered r, ?_, ?_, ?_, (State.Sends.putInHold hscreen).then_none (.answered _ r),
    fun hstop => ?_, fun x hx => ?_⟩
  · have hsettled := State.settle_state_eq (s := (v.putInHold l c).reply r) (l := l)
      (by rw [State.lane_reply, hstate]; exact nofun)
    exact hsettled.trans hstate
  · rw [State.answered_held, State.putInHold_held]
    exact Quad.get_set_same _ _ _
  · exact (congrArg Sound.state (State.settle_sne ((v.putInHold l c).reply r) l)).trans hsound
  · have hstopped : v.stoppedForHold l = v.stopLane l .held := if_pos hstop
    have hshc := v.putInHold_shc l c
    rw [hstopped, v.stopLane_shc l (cause := .held) nofun] at hshc
    exact .of_shc hshc r
  · rw [State.answered_held, State.putInHold_held]
    exact Quad.get_set_ne _ _ hx

/-! ### REVOKE_LICENCE -/

/-- Each of a list of lanes stopped by a forced revoke (R55). -/
def State.stopAll (s : State) (ls : List LaneId) : State := ls.foldl (fun s l => s.stopLane l .revoked) s

/-- A lane that a stop has left: still, IDLE and without reservations. -/
def State.AtRest (s : State) (l : LaneId) : Prop :=
  s.Still l ∧ (s.lane l).pl.state = .idle ∧ s.shc.reservations.get l = []

namespace State

variable {s : State} {l : LaneId}

theorem stopLane_atRest (s : State) (l : LaneId) : (s.stopLane l .revoked).AtRest l := by
  refine ⟨s.stopLane_still l .revoked, ?_, ?_⟩
  · rw [(s.stopLane_own l .revoked).1]
    rfl
  · rw [s.stopLane_shc l (cause := .revoked) nofun]
    exact Quad.get_set_same _ _ _

theorem AtRest.stopLane (h : s.AtRest l) (k : LaneId) : (s.stopLane k .revoked).AtRest l := by
  by_cases hk : l = k
  · rw [hk]
    exact stopLane_atRest s k
  · obtain ⟨hlane, hres⟩ := (Within.stopLane s k .revoked).keeps_others hk
    unfold State.AtRest State.Still
    rw [hlane, hres]
    exact h

theorem stopAll_atRest (ls : List LaneId) (s : State) (h : l ∈ ls ∨ s.AtRest l) : (s.stopAll ls).AtRest l := by
  induction ls generalizing s with
  | nil => exact h.resolve_left (List.not_mem_nil)
  | cons k rest ih =>
    refine ih (s.stopLane k .revoked) ?_
    rcases h with h | h
    · rcases List.mem_cons.mp h with rfl | h
      · exact .inr (stopLane_atRest s l)
      · exact .inl h
    · exact .inr (h.stopLane k)

theorem stopAll_keeps (ls : List LaneId) (s : State) :
    (s.stopAll ls).shc.licences = s.shc.licences ∧ (s.stopAll ls).held = s.held := by
  induction ls generalizing s with
  | nil => exact ⟨rfl, rfl⟩
  | cons k rest ih =>
    obtain ⟨hlic, hheld⟩ := ih (s.stopLane k .revoked)
    have hwithin := Within.stopLane s k .revoked
    exact ⟨hlic.trans hwithin.licences, hheld.trans hwithin.held⟩

/-- The records that the stopped lanes' reservations name are closed (R64). -/
theorem stopAll_log (ls : List LaneId) (s : State) : (s.stopAll ls).shc.log = s.shc.log.map (fun x =>
    if ls.any (fun l => s.shc.namedBy l x) then x.cutOff s.clock.booth .revoked else x) := by
  induction ls generalizing s with
  | nil => simp [State.stopAll]
  | cons k rest ih =>
    have hstep : (s.stopAll (k :: rest)).shc.log = ((s.stopLane k .revoked).stopAll rest).shc.log := rfl
    have hnamed : ∀ l x, (s.stopLane k .revoked).shc.namedBy l x = if l = k then false else s.shc.namedBy l x := by
      intro l x
      unfold Showings.namedBy
      rw [s.stopLane_shc k (cause := .revoked) nofun]
      dsimp only
      split
      · rename_i hl
        rw [hl, Quad.get_set_same]
        rfl
      · rename_i hl
        rw [Quad.get_set_ne _ _ hl]
    rw [hstep, ih, (Within.stopLane s k .revoked).clock]
    simp only [hnamed]
    rw [s.stopLane_shc k (cause := .revoked) nofun]
    dsimp only
    rw [List.map_map]
    refine List.map_congr_left fun x _ => ?_
    rw [Function.comp_apply, List.any_cons]
    by_cases hk : s.shc.namedBy k x = true
    · rw [if_pos hk, hk, Bool.true_or, if_pos rfl]
      exact ite_eq_right_iff.mpr fun _ => rfl
    · have hfalse := Bool.eq_false_of_not_eq_true hk
      have hsame : ∀ l, (if l = k then false else s.shc.namedBy l x) = s.shc.namedBy l x := fun l => by
        split
        · rename_i hl
          rw [hl, hfalse]
        · rfl
      rw [if_neg hk, hfalse, Bool.false_or]
      simp only [hsame]

end State

theorem exec_revokeLicence {s v : State} {body : List Byte} {t : Instant} (hc : s.Commanded 0x31 body)
    (hlen : body.length = 3) (hv : v = s.takeAt t) :
    exec (.revokeLicence t) s = .next (revokeLicence (u16 body 0) (u8 body 2) v).state.settle := by
  have hexec : exec (.revokeLicence t) s = _ := runCommandAt_eq t
    (fun body s => fixedLength 3 body s (revokeLicence (u16 body 0) (u8 body 2) s)) hc
  rw [hexec, fixedLength_eq _ _ hlen, ← hv]

/-- A forced revoke of a licence in the table stops the lanes that use it and sets the flag (R55). -/
theorem revokeLicence_forced {v : State} {id : Nat} {c : Licence} (hid : id ≠ 0) (hfind : v.shc.find id = some c) :
    ∃ r, revokeLicence id 1 v = .done r ((v.stopAll (fours.filter (v.shc.uses id))).setRevoked id) := by
  refine ⟨.revoked (fours.filter (v.shc.uses id)).length ((fours.filter (v.shc.uses id)).filter v.shc.hasOpen).length, ?_⟩
  unfold revokeLicence
  rw [if_neg (by decide), identity_eq _ _ hid, hfind]
  rfl

theorem revokeLicence_plain {v : State} {id : Nat} {c : Licence} (hid : id ≠ 0) (hfind : v.shc.find id = some c) :
    revokeLicence id 0 v = if 0 < v.shc.heldOf id then .refused .badState v else .done (.revoked 0 0) (v.setRevoked id) := by
  unfold revokeLicence
  rw [if_neg (by decide), identity_eq _ _ hid, hfind]
  rfl

/-- Settles O31: a plain revoke at its owner, and a forced one as the stops of the lanes that use the licence. -/
theorem licenceRevoked : Obligations.LicenceRevoked := by
  intro s v body t hc hlen hv
  rw [exec_revokeLicence hc hlen hv]
  refine ⟨fun hforce hid => ?_, fun c hid hfind => ?_⟩
  · rw [hid]
    unfold revokeLicence
    rw [if_neg (by omega)]
    rfl
  refine ⟨fun hplain hheld => ?_, fun hplain hheld => ?_, fun hforced => ?_, fun hforced => ?_⟩
  · rw [hplain, revokeLicence_plain hid hfind, if_pos hheld]
    rfl
  · rw [hplain, revokeLicence_plain hid hfind, if_neg (by omega)]
    rfl
  · obtain ⟨r, hdone⟩ := revokeLicence_forced hid hfind
    rw [hforced, hdone]
    obtain ⟨hlic, hheld⟩ := v.stopAll_keeps (fours.filter (v.shc.uses (u16 body 0)))
    have hfinds : ∀ id, (((v.stopAll (fours.filter (v.shc.uses (u16 body 0)))).setRevoked (u16 body 0)).answered
        (.done r)).shc.find id = if id = u16 body 0 then (v.shc.find id).map (fun c => { c with revoked := true })
          else v.shc.find id := by
      intro id
      have hsame : (v.stopAll (fours.filter (v.shc.uses (u16 body 0)))).shc.find id = v.shc.find id := by
        rw [Showings.find, hlic, Showings.find]
      rw [Showings.find, State.answered_licences, ← hsame]
      exact Showings.find_modLicence _ _ id fun _ h => h
    refine ⟨((v.stopAll (fours.filter (v.shc.uses (u16 body 0)))).setRevoked (u16 body 0)).answered (.done r), rfl, ?_,
      fun id hne => ?_, (State.answered_held _ _).trans hheld, fun l huses => ?_⟩
    · refine (hfinds _).trans ?_
      rw [if_pos rfl, hfind]
      rfl
    · exact (hfinds id).trans (if_neg hne)
    · have hrest := v.stopAll_atRest (l := l) (fours.filter (v.shc.uses (u16 body 0)))
        (.inl (List.mem_filter.mpr ⟨mem_fours l, huses⟩))
      obtain ⟨hstill, hidle, hnone⟩ := hrest
      obtain ⟨hlane, hres⟩ := State.Still.answered (u := (v.stopAll (fours.filter (v.shc.uses (u16 body 0)))).setRevoked
        (u16 body 0)) hstill (.done r)
      rw [hlane, hres]
      exact ⟨hidle, hnone⟩
  · obtain ⟨r, hdone⟩ := revokeLicence_forced hid hfind
    rw [hforced, hdone]
    refine ⟨((v.stopAll (fours.filter (v.shc.uses (u16 body 0)))).setRevoked (u16 body 0)).answered (.done r), rfl,
      (State.answered_log _ (.done r)).trans ((v.stopAll_log _).trans ?_)⟩
    simp only [List.any_filter]
    rfl

end Sys2Proof.Machine
end

section
/-! PROOF. The reports of a lane, SET_CHANNEL, the gate commands and START (R95, R107, R116, R121, R122, R124, R125, R126,
R160, R164, R176). -/

namespace Sys2Proof.Machine

open Sys2Proof

namespace State

variable {u : State} {l : LaneId}

/-! ### A lane behind an answered command -/

theorem answered_ftm (u : State) (r : Reply) (l : LaneId) : ((u.answered r).lane l).ftm = (u.lane l).ftm :=
  settle_ftm (u.reply r) l

theorem answered_sne (u : State) (r : Reply) (l : LaneId) : ((u.answered r).lane l).sne = (u.lane l).sne :=
  settle_sne (u.reply r) l

theorem answered_pl (u : State) (r : Reply) (l : LaneId) : (u.lane l).pl.Fetches ((u.answered r).lane l).pl :=
  (settle_frame (u.reply r)).pl l

theorem answered_set (u : State) (r : Reply) (l : LaneId) : ((u.answered r).lane l).pl.set = (u.lane l).pl.set :=
  settle_set (u.reply r) l

theorem answered_next (u : State) (r : Reply) (l : LaneId) : ((u.answered r).lane l).pl.next = (u.lane l).pl.next :=
  settle_next (u.reply r) l

theorem answered_pause (u : State) (r : Reply) (l : LaneId) :
    ((u.answered r).lane l).pl.pause = (u.lane l).pl.pause := settle_pause (u.reply r) l

theorem answered_position (u : State) (r : Reply) (l : LaneId) :
    ((u.answered r).lane l).pl.position = (u.lane l).pl.position := settle_position (u.reply r) l

theorem answered_inGap (u : State) (r : Reply) (l : LaneId) :
    ((u.answered r).lane l).pl.inGap = (u.lane l).pl.inGap := settle_inGap (u.reply r) l

theorem answered_rate (u : State) (r : Reply) (l : LaneId) :
    ((u.answered r).lane l).pl.rate = (u.lane l).pl.rate := settle_rate (u.reply r) l

theorem answered_fault (u : State) (r : Reply) (l : LaneId) :
    ((u.answered r).lane l).pl.fault = (u.lane l).pl.fault := settle_fault (u.reply r) l

theorem answered_shown (u : State) (r : Reply) (l : LaneId) :
    ((u.answered r).lane l).pl.shown = (u.lane l).pl.shown := settle_shown (u.reply r) l

theorem answered_screen (u : State) (r : Reply) (l : LaneId) :
    ((u.answered r).lane l).pl.screen = (u.lane l).pl.screen := settle_screen (u.reply r) l

theorem answered_confirmed (u : State) (r : Reply) (l : LaneId) :
    ((u.answered r).lane l).pl.confirmed = (u.lane l).pl.confirmed := settle_confirmed (u.reply r) l

theorem answered_kinds (u : State) (r : Reply) (l : LaneId) :
    ((u.answered r).lane l).pl.queue.map Item.kind = (u.lane l).pl.queue.map Item.kind := settle_kinds (u.reply r) l

theorem answered_epoch (u : State) (r : Reply) (l : LaneId) :
    ((u.answered r).lane l).pl.fetch.epoch = (u.lane l).pl.fetch.epoch := (answered_pl u r l).epoch

theorem answered_state (r : Reply) (h : (u.lane l).pl.state ≠ .cueing) :
    ((u.answered r).lane l).pl.state = (u.lane l).pl.state := settle_state_eq (s := u.reply r) h

end State

/-! ### Reports (R107, R124, R160, R176) -/

/-- A report of a lane is taken in RESETTING too. -/
theorem onLane_eq_of_any {body : List Byte} {l : LaneId} (s : State) (k : LaneId → Answer) (hl : u8 body 0 = l.val) :
    onLane true body s k = k l := by
  have h4 : u8 body 0 < 4 := hl ▸ l.isLt
  have hlane : (⟨u8 body 0, h4⟩ : LaneId) = l := Fin.ext hl
  unfold onLane
  rw [dif_pos h4, hlane]
  exact if_neg fun h => nomatch h.2

/-- Settles O46: each report is the owner's answer. -/
theorem laneReported : Obligations.LaneReported := by
  intro s v body t l hlen hl hv
  refine ⟨fun hc => ?_, fun hc hfree => ?_, fun hc => ?_⟩
  · have hexec : exec .queryLane s = _ := runCommand_fixed hc hlen
      fun body s => onLane true body s fun l => .done (.lane (laneReport s l)) s
    rw [hexec, onLane_eq_of_any _ _ hl]
    rfl
  · exact runCommandAt_lane hc hlen hl hv hfree fun _ s l => .done (.gate (gateReport s l)) s
  · have hexec : exec (.querySound t) s = _ := runCommandAt_eq t (fun body s => fixedLength 1 body s
      (onLane true body s fun l => .done (.sound (soundReport s l)) s)) hc
    rw [hexec, fixedLength_eq _ _ hlen, onLane_eq_of_any _ _ hl, ← hv]
    rfl

/-! ### SET_CHANNEL (R164) -/

theorem setChannel_eq {v : State} {l : LaneId} {channel enable tag : Nat} (gain : Nat) (trim : Int)
    (hchannel : channel ≤ 15) (henable : enable ≤ 1) (htag : tag ≤ 15) :
    setChannel l channel enable tag gain trim v =
      if enable = 1 ∧ tagTaken (v.lane l).sne.map channel tag then .refused .badValue v
      else .done (.channel (min gain 131072) (clampInt (-4096) 4095 trim))
        (v.modSne l fun n => n.setEntry (v.clock.now == v.lastBase) channel
          ⟨enable == 1, tag, min gain 131072, clampInt (-4096) 4095 trim⟩) := by
  unfold setChannel
  rw [if_neg (by omega)]

/-- Settles O52: the entry set, and what the tick that runs keeps. -/
theorem channelSet : Obligations.ChannelSet := by
  intro s v body t l hc hlen hl hv hfree hchannel henable htag
  have hexec : exec (.setChannel t) s = _ := runCommandAt_lane hc hlen hl hv hfree
    fun body s l => setChannel l (u8 body 1) (u8 body 2) (u8 body 3) (u32 body 4) (s32 body 8) s
  rw [hexec, setChannel_eq _ _ hchannel henable htag]
  refine ⟨fun hon htaken => ?_, fun hok => ?_⟩
  · rw [if_pos ⟨hon, htaken⟩]
    rfl
  · have hfreeTag : ¬ (u8 body 2 = 1 ∧ tagTaken (v.lane l).sne.map (u8 body 1) (u8 body 3) = true) := by
      rintro ⟨hon, htaken⟩
      rcases hok with hoff | hfreeTag
      · omega
      · exact Bool.false_ne_true (hfreeTag.symm.trans htaken)
    rw [if_neg hfreeTag, Answer.state_done]
    generalize Reply.done _ = r
    generalize hentry : Channel.mk _ _ _ _ = c
    refine ⟨(v.modSne l fun n => n.setEntry (v.clock.now == v.lastBase) (u8 body 1) c).answered r, rfl,
      (State.Within.modSne v l _).toBeside.answered r, State.answered_held _ r, ?_⟩
    rw [State.answered_sne, State.answered_set, State.lane_modSne_same]
    refine ⟨rfl, fun hnow hbuilt => ?_, fun hnow => ?_, rfl, rfl⟩
    · exact if_pos (by rw [hnow, hbuilt]; simp)
    · exact if_neg (by simp [hnow])

/-! ### Gates (R121, R122) -/

theorem exec_gateStart {s : State} {body : List Byte} {l : LaneId} (hc : s.Commanded 0x50 body)
    (hlen : body.length = 2) (hl : u8 body 0 = l.val) (hfree : (s.lane l).pl.state ≠ .resetting) :
    exec .gateStart s = .next (gateStart l (u8 body 1) s).state.settle :=
  runCommand_lane hc hlen hl hfree fun body s l => gateStart l (u8 body 1) s

theorem gateStart_eq {s : State} {l : LaneId} {field : Nat} {length : Option Nat} (hlength : gateLength field = some length)
    (hstate : (s.lane l).pl.state ≠ .starting) (hwatch : (s.lane l).ftm.watch = false)
    (hgate : (s.lane l).ftm.gate.state ≠ .opened) :
    gateStart l field s = .done .empty (s.modGate l fun _ => Gate.start .host length) := by
  unfold gateStart
  rw [hlength]
  dsimp only
  rw [if_neg (by simp [hstate, hwatch, hgate])]

/-- A host gate stopped, with GATE raised (R122). -/
def State.gateStopped (s : State) (l : LaneId) : State :=
  (s.modGate l fun g => g.stopped (s.lane l).pl.rate s.clock.now).raiseLane l srcGate

theorem State.gateStopped_own (s : State) (l : LaneId) : ((s.gateStopped l).lane l).ftm
    = { (s.lane l).ftm with gate := (s.lane l).ftm.gate.stopped (s.lane l).pl.rate s.clock.now } :=
  congrArg Lane.ftm (State.lane_modFtm_same s l fun m =>
    { m with gate := m.gate.stopped (s.lane l).pl.rate s.clock.now })

theorem State.Within.gateStopped (s : State) (l : LaneId) : s.Within l (s.gateStopped l) :=
  (State.Within.modFtm s l _).trans (.raiseLane _ l l _)

theorem gateStop_eq {v : State} {l : LaneId} (hgate : (v.lane l).ftm.gate.state = .opened)
    (howner : (v.lane l).ftm.gate.owner = .host) :
    gateStop l v = .done (.gateStopped (((v.gateStopped l).lane l).ftm.gate.fields v.clock.now)) (v.gateStopped l) := by
  unfold gateStop
  dsimp only
  rw [if_pos ⟨hgate, howner⟩]
  rfl

theorem injectPulses_eq {v : State} {l : LaneId} (count q : Nat) (hmode : v.shc.mode = .rehearsal)
    (hstate : (v.lane l).pl.state ≠ .idle) (hinj : (v.lane l).ftm.injection = none) :
    injectPulses l count q v = .done (.injected (clampNat 1 65535 count) (clampNat 9999 999999 q))
      (v.modFtm l fun m => { m with injection := some ⟨clampNat 1 65535 count, clampNat 9999 999999 q,
        tickAt v.clock.now + clampNat 9999 999999 q + 1⟩ }) := by
  unfold injectPulses
  rw [if_neg (by rw [hmode]; exact nofun), if_neg hstate, if_neg (by rw [hinj]; exact nofun)]

/-- The three ends of a stopped gate (R122). -/
theorem stopped_ends (g : Gate) (rate : Option Nat) (now : Instant) :
    (g.length ≠ none → (g.stopped rate now).state = .aborted ∧ (g.stopped rate now).result = some .aborted
      ∧ (g.stopped rate now).pulses = g.pulses ∧ (g.stopped rate now).count = g.ticks now)
    ∧ (g.length = none → g.opened = true → 1 ≤ g.pulses →
      (g.stopped rate now).state = .done ∧ (g.stopped rate now).result = some .valid
        ∧ (g.stopped rate now).pulses = g.pulses ∧ (g.stopped rate now).count = g.count
        ∧ (g.stopped rate now).rate = some (measuredRate g.pulses g.count)
        ∧ (g.stopped rate now).deviation = rate.map (deviation (measuredRate g.pulses g.count)))
    ∧ (g.length = none → (g.opened = false ∨ g.pulses = 0) →
      (g.stopped rate now).state = .done ∧ (g.stopped rate now).result = some .noPulses
        ∧ (g.stopped rate now).count = g.ticks now) := by
  refine ⟨fun hlength => ?_, fun hlength hopened hpulses => ?_, fun hlength hnone => ?_⟩ <;> unfold Gate.stopped
  · obtain ⟨n, hn⟩ := Option.ne_none_iff_exists'.mp hlength
    rw [hn]
    exact ⟨rfl, rfl, rfl, rfl⟩
  · rw [hlength]
    dsimp only
    rw [if_pos ⟨hopened, hpulses⟩]
    exact ⟨rfl, rfl, rfl, rfl, rfl, rfl⟩
  · have hnot : ¬ (g.opened = true ∧ 1 ≤ g.pulses) := by
      rintro ⟨hopened, hpulses⟩
      rcases hnone with hclosed | hzero
      · exact Bool.false_ne_true (hclosed.symm.trans hopened)
      · omega
    rw [hlength]
    dsimp only
    rw [if_neg hnot]
    exact ⟨rfl, rfl, rfl⟩

/-- Settles O47: each command at its owner, and the three ends of a stopped gate. -/
theorem gateCommands : Obligations.GateCommands := by
  refine ⟨fun s body l length hc hlen hl hfree hstate hlength hwatch hgate => ?_,
    fun s v body t l hc hlen hl hv hfree hgate howner => ?_, stopped_ends,
    fun s v body t l hc hlen hl hv hfree hstate hmode hinj => ?_⟩
  · rw [exec_gateStart hc hlen hl hfree, gateStart_eq hlength hstate hwatch hgate, Answer.state_done]
    generalize Reply.done _ = r
    refine ⟨(s.modGate l fun _ => Gate.start .host length).answered r, rfl, (State.Within.modFtm s l _).toBeside.answered r,
      State.answered_held _ r, ?_, fun k hk => ?_⟩
    · rw [State.answered_ftm]
      exact congrArg Lane.ftm (State.lane_modFtm_same s l _)
    · rw [State.answered_ftm]
      exact congrArg Lane.ftm (State.lane_modFtm_ne s _ hk)
  · have hexec : exec (.gateStop t) s = _ := runCommandAt_lane hc hlen hl hv hfree fun _ s l => gateStop l s
    rw [hexec, gateStop_eq hgate howner, Answer.state_done]
    refine ⟨(v.gateStopped l).answered (.done (.gateStopped (((v.gateStopped l).lane l).ftm.gate.fields v.clock.now))),
      rfl, (State.Within.gateStopped v l).toBeside.answered _,
      (State.answered_held _ _).trans (State.Within.gateStopped v l).held, ?_⟩
    rw [State.answered_ftm, State.gateStopped_own]
    refine ⟨rfl, rfl, State.answered_raised _ _ (State.raiseLane_raised _ l (by decide)), ?_⟩
    have hcmds : ∀ r, ((v.gateStopped l).answered r).bcp.cmds = answerFirst r v.bcp.cmds := fun r =>
      congrArg ControlPort.cmds (State.settle_bcp ((v.gateStopped l).reply r))
    rw [hcmds, hv, State.takeAt_bcp]
  · have hexec : exec (.injectPulses t) s = _ := runCommandAt_lane hc hlen hl hv hfree
      fun body s l => injectPulses l (u16 body 1) (u32 body 3) s
    rw [hexec, injectPulses_eq _ _ hmode hstate hinj, Answer.state_done]
    generalize Reply.done _ = r
    refine ⟨State.answered _ r, rfl, (State.Within.modFtm v l _).toBeside.answered r, State.answered_held _ r, ?_⟩
    rw [State.answered_ftm, State.lane_modFtm_same]

/-! ### START (R95, R125, R126) -/

namespace State

variable {s : State} {l : LaneId}

/-- An open host gate that is aborted raises GATE (R123). -/
theorem abortGate_raised (r : GateResult) (hgate : (s.lane l).ftm.gate.state = .opened)
    (howner : (s.lane l).ftm.gate.owner = .host) :
    (s.abortGate l r).ntu.raised.getLsbD (laneSource l srcGate) = true := by
  unfold State.abortGate State.raiseGate
  rw [if_pos hgate, if_pos howner]
  exact raiseLane_raised _ l (by decide)

theorem beginWatch_own (s : State) (l : LaneId) : (s.beginWatch l).lane l
    = { s.lane l with ftm := { (s.lane l).ftm with watch := true, gate := Gate.start .watch (some 32) } } := by
  unfold State.beginWatch
  rw [lane_modFtm_same, abortGate_own]

theorem enterStarting_own (s : State) (l : LaneId) : (s.enterStarting l).lane l = { s.lane l with
    pl := { (s.lane l).pl with state := .starting }
    ftm := { (s.lane l).ftm with
      gate := Gate.start .check (some 8), lossTimer := some 0, lossFresh := Decidable.decide (s.nextBase ≤ s.clock.now) } } := by
  unfold State.enterStarting
  dsimp only
  rw [lane_modFtm_same, lane_modPl_same, abortGate_own]
  have hbase : ((s.abortGate l .aborted).modPl l fun p => { p with state := .starting }).atNextBase
      = Decidable.decide (s.nextBase ≤ s.clock.now) := by
    unfold State.atNextBase State.nextBase
    rw [modPl_clock, abortGate_clock]
  rw [hbase]
  rfl

theorem enterPlaying_own (s : State) (l : LaneId) : (s.enterPlaying l).lane l = { s.lane l with
    pl := { (s.lane l).pl with state := .playing }
    ftm := if (s.lane l).pl.set.rateWatch then
        { (s.lane l).ftm with watch := true, gate := Gate.start .watch (some 32) } else (s.lane l).ftm } := by
  unfold State.enterPlaying
  dsimp only
  rw [lane_modPl_same]
  dsimp only
  split
  · rw [beginWatch_own, lane_modPl_same]
  · rw [lane_modPl_same]

theorem Silent.enterStarting (s : State) (l : LaneId) : s.Silent l (s.enterStarting l) := by
  unfold State.enterStarting
  dsimp only
  exact ((Silent.abortGate s l .aborted).trans (.modPl _ l fun p => { p with state := .starting })).trans (.modFtm _ l _)

end State

/-- The lane started: STARTING where the rate check is on, else PLAYING (R95). -/
def State.started (s : State) (l : LaneId) : State :=
  if (s.lane l).pl.set.rateCheck then s.enterStarting l else s.enterPlaying l

theorem State.Silent.started (s : State) (l : LaneId) : s.Silent l (s.started l) :=
  .ite (fun _ => .enterStarting s l) fun _ => .enterPlaying s l

/-- An open host gate ends with a start that opens a gate (R125, R126). -/
theorem State.started_raised {v : State} {l : LaneId} (hgate : (v.lane l).ftm.gate.state = .opened)
    (howner : (v.lane l).ftm.gate.owner = .host)
    (hopens : (v.lane l).pl.set.rateCheck = true ∨ (v.lane l).pl.set.rateWatch = true) :
    (v.started l).ntu.raised.getLsbD (laneSource l srcGate) = true := by
  unfold State.started
  split
  · exact State.abortGate_raised .aborted hgate howner
  · rename_i hcheck
    have hwatch := hopens.resolve_left hcheck
    unfold State.enterPlaying
    dsimp only
    rw [State.lane_modPl_same]
    dsimp only
    rw [if_pos hwatch]
    exact State.abortGate_raised (s := v.modPl l fun p => { p with state := .playing }) .aborted
      (by rw [State.modPl_lane_ftm]; exact hgate) (by rw [State.modPl_lane_ftm]; exact howner)

theorem exec_start {s v : State} {body : List Byte} {t : Instant} {l : LaneId} (hc : s.Commanded 0x47 body)
    (hlen : body.length = 1) (hl : u8 body 0 = l.val) (hv : v = s.takeAt t) (hcued : (v.lane l).pl.state = .cued) :
    exec (.start t) s = .next (startLane l v).state.settle :=
  runCommandAt_lane hc hlen hl hv (by rw [hcued]; exact nofun) fun _ s l => startLane l s

theorem startLane_refused {v : State} {l : LaneId} {why : Reason} (hcued : (v.lane l).pl.state = .cued)
    (hwhy : startFailure v ((v.lane l).pl.queue.head?.bind Item.licence) = some why) :
    startLane l v = .refused why v := by
  unfold startLane
  dsimp only
  rw [if_neg (fun h => h hcued), hwhy]

theorem startLane_passed {v : State} {l : LaneId} (hcued : (v.lane l).pl.state = .cued)
    (hnone : startFailure v ((v.lane l).pl.queue.head?.bind Item.licence) = none) :
    startLane l v = doneState l (v.started l) := by
  unfold startLane
  dsimp only
  rw [if_neg (fun h => h hcued), hnone]
  rfl

/-- Settles O40: the time check of the head's licence, and the lane behind the start. -/
theorem laneStarted : Obligations.LaneStarted := by
  intro s v body t l hc hlen hl hv hcued
  rw [exec_start hc hlen hl hv hcued]
  refine ⟨fun hnone => ?_, fun hlic => by rw [hlic]; rfl, fun lic c hlic hfind => ?_⟩
  · rw [startLane_passed hcued hnone]
    refine ⟨(v.started l).answered (.done (.laneState ((v.started l).lane l).pl.state)), rfl,
      (State.Silent.started v l).toBeside.answered _, (State.answered_held _ _).trans (State.Silent.started v l).held, ?_⟩
    generalize Reply.done _ = r
    have hfree : ((v.started l).lane l).pl.state ≠ .cueing := by
      unfold State.started
      split
      · rw [State.enterStarting_own]
        exact nofun
      · rw [State.enterPlaying_own]
        exact nofun
    rw [State.answered_state r hfree, State.answered_ftm, State.answered_set, State.answered_next]
    refine ⟨fun hcheck => ?_, fun hcheck => ?_, fun hgate howner hopens =>
      State.answered_raised _ r (State.started_raised hgate howner hopens), ?_⟩
    · unfold State.started
      rw [if_pos hcheck, State.enterStarting_own]
      exact ⟨rfl, rfl⟩
    · unfold State.started
      rw [if_neg (by rw [hcheck]; exact nofun), State.enterPlaying_own]
      exact ⟨rfl, rfl⟩
    · unfold State.started
      split
      · rw [State.enterStarting_own]
        exact ⟨rfl, rfl⟩
      · rw [State.enterPlaying_own]
        exact ⟨rfl, rfl⟩
  · have hcheck : startFailure v (some lic) = if c.state v.clock.booth = .expired then some .licenceExpired
        else if (match v.clock.booth with
          | none => false
          | some b => b < c.notBefore) then some .licenceNotYet else none := by
      unfold startFailure
      dsimp only
      rw [hfind] <;> rfl
    refine ⟨fun hexp => ?_, fun b hb hexp hyet => ?_, fun b hb hexp hnow => ?_⟩
    · rw [startLane_refused hcued (why := .licenceExpired) (by rw [hlic, hcheck, if_pos hexp])]
      rfl
    · rw [startLane_refused hcued (why := .licenceNotYet) (by rw [hlic, hcheck, if_neg hexp, hb]; exact if_pos (decide_eq_true hyet))]
      rfl
    · rw [hcheck, if_neg hexp, hb]
      exact if_neg (by simpa using hnow)

end Sys2Proof.Machine
end

section
/-! PROOF. What the settling does to a lane's own record, step by step; CUE and SEEK (R67, R68, R90, R93, R94, R103). -/

namespace Sys2Proof.Machine

open Sys2Proof

/-! ### The steps of a lane's fetcher -/

/-- Where a cursor may stand behind a step: where it stood, at a later item's start, at the same frame with its reel
taken up, or behind a buffered frame (R86, R90, R91). -/
inductive Playout.CursorFrom (p : Playout) : Option Cursor → Prop
  | stays : p.CursorFrom p.fetch.cursor
  | later (uid : Nat) (i : Item) (h : p.fetch.cursor = some (.afterItem uid)) (hlater : uid < i.uid) :
      p.CursorFrom (some i.startCursor)
  | taken (uid : Nat) (pos : Pos) (t t' : Bool) (h : p.fetch.cursor = some (.frameOf uid pos t)) :
      p.CursorFrom (some (.frameOf uid pos t'))
  | behind (i : Item) (b : BufSlot) (hb : b ∈ p.buffer) (hi : b.item = i.uid) : p.CursorFrom (some (i.cursorAfter b.pos))

/-- What the moves of its fetcher make of a lane's record: the fetcher moved on and not stopped, items marked, a frame
taken into a slot at the cursor, the state at the cue point and the counts. -/
inductive Playout.Steps (p : Playout) : Playout → Prop
  | refl : p.Steps p
  | fetch {q : Playout} (f : Fetcher) (h : p.Steps q) (hstate : f.state = q.fetch.state ∨ f.state ≠ .stopped)
      (hcursor : q.CursorFrom f.cursor) : p.Steps { q with fetch := f }
  | mark {q : Playout} (uid : Nat) (g : Item → Item) (h : p.Steps q)
      (hg : ∀ i, (g i).uid = i.uid ∧ (g i).kind = i.kind ∧ (i.promoted = true → (g i).promoted = true)) :
      p.Steps { q with queue := q.queue.map (fun i => if i.uid = uid then g i else i) }
  | slot {q : Playout} (num : Nat) (i : Item) (pos : Pos) (t : Bool) (h : p.Steps q)
      (hat : q.fetch.cursor = some (.frameOf i.uid pos t)) : p.Steps { q with buffer := q.buffer ++ [newSlot num i pos] }
  | counts {q : Playout} (x : LaneState) (k : LaneStats) (h : p.Steps q) : p.Steps { q with state := x, stats := k }

namespace Playout.Steps

variable {p q r : Playout}

theorem trans (h : p.Steps q) (k : q.Steps r) : p.Steps r := by
  induction k with
  | refl => exact h
  | fetch f _ hstate hcursor ih => exact ih.fetch f hstate hcursor
  | mark uid g _ hg ih => exact ih.mark uid g hg
  | slot num i pos t _ hat ih => exact ih.slot num i pos t hat
  | counts x k _ ih => exact ih.counts x k

/-- A fetcher's state or waiting read set, its cursor as it was. -/
theorem fetchSame (h : p.Steps q) (f : Fetcher) (hstate : f.state = q.fetch.state ∨ f.state ≠ .stopped)
    (hcursor : f.cursor = q.fetch.cursor) : p.Steps { q with fetch := f } :=
  h.fetch f hstate (by rw [hcursor]; exact .stays)

end Playout.Steps

/-- A cue engine that has taken reels up: only its banks and its count of missing tracks may differ (R147). -/
def CueEngine.TakesUp (e f : CueEngine) : Prop := f = { e with bankA := f.bankA, bankB := f.bankB, missing := f.missing }

theorem CueEngine.TakesUp.refl (e : CueEngine) : e.TakesUp e := rfl

theorem CueEngine.TakesUp.trans {e f g : CueEngine} (h : e.TakesUp f) (k : f.TakesUp g) : e.TakesUp g := by
  unfold CueEngine.TakesUp at *
  rw [k, h]

namespace State

variable {s u : State} {l : LaneId}

theorem steps_of_same (h : u.lane l = s.lane l) : (s.lane l).pl.Steps (u.lane l).pl := by
  rw [h]
  exact .refl

/-- The lane's record behind an update of it. -/
theorem steps_modPl {p : Playout} {f : Playout → Playout} (h : p.Steps (f (s.lane l).pl)) :
    p.Steps ((s.modPl l f).lane l).pl := by
  rw [lane_modPl_same]
  exact h

theorem steps_takeUp (l : LaneId) {uid : Nat} {i : Item} (hcursor : (s.lane l).pl.fetch.cursor = some (.afterItem uid))
    (hlater : uid < i.uid) : (s.lane l).pl.Steps ((s.takeUp l i).1.lane l).pl := by
  have hblocked : ∀ u : State, (s.lane l).pl.Steps (u.lane l).pl →
      (s.lane l).pl.Steps ((u.fetchState l .blocked).lane l).pl := fun u h =>
    steps_modPl (h.fetchSame _ (.inr nofun) rfl)
  have hstart : ∀ u : State, (s.lane l).pl.Steps (u.lane l).pl →
      (u.lane l).pl.fetch.cursor = some (.afterItem uid) →
      (s.lane l).pl.Steps ((u.fetchAt l i.startCursor).lane l).pl := fun u h hc =>
    steps_modPl (h.fetch _ (.inr nofun) (.later uid i hc hlater))
  have hpromoted : ∀ u : State, u.lane l = s.lane l → (s.lane l).pl.Steps ((u.promoted l i).lane l).pl := by
    intro u hu
    refine hstart _ (steps_modPl ?_) ?_
    · rw [hu]
      exact .mark _ _ .refl fun _ => ⟨rfl, rfl, fun _ => rfl⟩
    · unfold State.modItem
      rw [lane_modPl_same, hu]
      exact hcursor
  unfold State.takeUp
  split
  · exact hblocked s .refl
  · split
    · exact hstart s .refl hcursor
    · split
      · rename_i lic pid _ _
        split
        · refine hblocked _ (steps_modPl (.counts _ _ (steps_modPl ?_)))
          exact .mark _ _ .refl fun _ => ⟨rfl, rfl, id⟩
        · refine hpromoted _ ?_
          cases hfind : s.shc.find lic with
          | none => rw [reserve_of_not_found l pid i.total hfind]
          | some c =>
            rw [reserve_of_find l pid i.total hfind]
            dsimp only
            split <;> rfl
      · exact hpromoted s rfl

theorem steps_takeUpReel (s : State) (l : LaneId) (pid item reel frames : Nat) :
    (s.lane l).pl.Steps ((s.takeUpReel l pid item reel frames).lane l).pl := by
  unfold State.takeUpReel
  dsimp only
  split
  · rw [modSce_lane_pl]
    exact .refl
  · rw [raiseLane, lane_raise, modSce_lane_pl, modSce_lane_pl]
    exact .refl
  · refine steps_modPl ?_
    rw [modSce_lane_pl]
    exact .fetchSame .refl _ (.inl rfl) rfl

theorem steps_fetchAtFrame {l : LaneId} {i : Item} {pos : Pos} {taken : Bool}
    (hcursor : (s.lane l).pl.fetch.cursor = some (.frameOf i.uid pos taken)) :
    (s.lane l).pl.Steps ((s.fetchAtFrame l i pos taken).1.lane l).pl := by
  have hwait : ∀ x, x ≠ .stopped → (s.lane l).pl.Steps ((s.fetchState l x).lane l).pl := fun x hx =>
    steps_modPl (.fetchSame .refl _ (.inr hx) rfl)
  unfold State.fetchAtFrame
  dsimp only
  split
  · split
    · exact hwait .full nofun
    · refine steps_modPl ?_
      rw [lane_modPl_same]
      refine .fetch _ (.slot _ i pos taken .refl hcursor) (.inr nofun) (.behind i
        (newSlot (s.lane l).pl.freeSlot i pos) ?_ rfl)
      exact List.mem_append_right _ (List.mem_singleton_self _)
  · split
    · split
      · refine .trans ?_ (steps_takeUpReel _ l _ _ _ _)
        exact steps_modPl (.fetch _ .refl (.inr nofun) (.taken _ _ _ true hcursor))
      · exact hwait .reelWait nofun
    · split
      · exact hwait .full nofun
      · split
        · refine steps_modPl (.fetchSame (steps_modPl (.counts _ _ ?_)) _ (.inr nofun) rfl)
          exact .refl
        · refine steps_modPl ?_
          exact .fetchSame (.slot _ i pos taken .refl hcursor) _ (.inr nofun) rfl

theorem steps_fetchOnce (s : State) (l : LaneId) : (s.lane l).pl.Steps ((s.fetchOnce l).1.lane l).pl := by
  unfold State.fetchOnce
  dsimp only
  split
  · exact .refl
  · cases hcursor : (s.lane l).pl.fetch.cursor with
    | none => exact .refl
    | some c =>
      cases c with
      | afterItem uid =>
        dsimp only
        cases hitem : (s.lane l).pl.itemAfter uid with
        | none => exact steps_modPl (.fetchSame .refl _ (.inr nofun) rfl)
        | some i => exact steps_takeUp l hcursor (by simpa using List.find?_some hitem)
      | frameOf uid pos taken =>
        dsimp only
        cases hitem : (s.lane l).pl.item uid with
        | none => exact .refl
        | some i =>
          have huid : i.uid = uid := by simpa using List.find?_some hitem
          exact steps_fetchAtFrame (by rw [hcursor, huid])

theorem steps_testCued (s : State) (l : LaneId) : (s.lane l).pl.Steps ((s.testCued l).lane l).pl := by
  unfold State.testCued
  dsimp only
  split
  · exact steps_modPl (f := fun p => { p with state := .cued }) (.counts _ _ .refl)
  · exact .refl

theorem slotSource_item {slot : Nat} {b : BufSlot} {i : Item} {e : TableEntry}
    (h : s.slotSource l slot = some (b, i, e)) : b ∈ (s.lane l).pl.buffer ∧ b.item = i.uid := by
  unfold State.slotSource at h
  dsimp only at h
  split at h
  · cases h
  · rename_i b' hb
    split at h
    · cases h
    · rename_i i' hi
      split at h
      · cases h
      · obtain ⟨_, -, heq⟩ := Option.map_eq_some_iff.mp h
        cases heq
        have huid : i.uid = b.item := by simpa using List.find?_some hi
        exact ⟨List.mem_of_find?_eq_some hb, huid.symm⟩

theorem steps_grantLane (s : State) (l : LaneId) : (s.lane l).pl.Steps ((s.grantLane l).lane l).pl := by
  have hwork : ∀ u : State, u.lane l = s.lane l → ∀ w, (s.lane l).pl.Steps
      ((u.modFetch l fun f => { f with work := w }).lane l).pl := fun u hu w => by
    refine steps_modPl ?_
    rw [hu]
    exact .fetchSame .refl _ (.inl rfl) rfl
  have hgranted : ∀ u : State, u.lane l = s.lane l → ∀ (i : Item) (b : BufSlot), b ∈ (s.lane l).pl.buffer →
      b.item = i.uid → (s.lane l).pl.Steps ((u.frameGranted l i b.pos).lane l).pl := fun u hu i b hb hi => by
    refine steps_modPl ?_
    rw [hu]
    exact .fetch _ .refl (.inl rfl) (.behind i b hb hi)
  unfold State.grantLane
  dsimp only
  split
  · exact .refl
  · split
    · exact hwork s rfl _
    · rename_i b i e hsource
      obtain ⟨hb, hi⟩ := slotSource_item hsource
      split
      · exact hwork _ rfl _
      · exact hgranted _ rfl i b hb hi
  · split
    · exact hwork s rfl _
    · rename_i b i e hsource
      obtain ⟨hb, hi⟩ := slotSource_item hsource
      exact hgranted _ rfl i b hb hi
  · split
    · exact hwork s rfl _
    · split
      · exact hwork s rfl _
      · split
        · exact hwork s rfl _
        · refine steps_modPl ?_
          exact .fetchSame .refl _ (.inl rfl) rfl

theorem steps_grant (s : State) (g : Grant) (l : LaneId) : (s.lane l).pl.Steps ((s.grant g).lane l).pl := by
  obtain ⟨v, -, hlanes, hgrant⟩ := s.grant_eq g
  obtain ⟨j, hj⟩ := exists_ne l
  have hv : v.lane l = s.lane l := by rw [State.lane, hlanes, State.lane]
  rw [hgrant, ← hv]
  cases g with
  | lane k =>
    by_cases hk : k = l
    · rw [hk]
      exact steps_grantLane v l
    · exact steps_of_same ((Within.grantLane v k).others l (Ne.symm hk))
  | catalogue q => exact steps_of_same ((Within.grantCatalogue v j q).others l (Ne.symm hj))
  | chunk slot => exact steps_of_same ((Within.grantChunk v j slot).others l (Ne.symm hj))

/-- The settling moves a lane's record by steps of its fetcher. -/
theorem steps_settle (s : State) (l : LaneId) : (s.lane l).pl.Steps (s.settle.lane l).pl := by
  refine settle_induction (P := fun u => (s.lane l).pl.Steps (u.lane l).pl) ?_ ?_ ?_ ?_ .refl
  · intro u k h
    by_cases hk : k = l
    · rw [hk]
      exact h.trans (steps_fetchOnce u l)
    · exact h.trans (steps_of_same ((Within.fetchOnce u k).others l (Ne.symm hk)))
  · intro u k h
    by_cases hk : k = l
    · rw [hk]
      exact h.trans (steps_testCued u l)
    · exact h.trans (steps_of_same ((Within.testCued u k).others l (Ne.symm hk)))
  · exact fun u g h => h.trans (steps_grant u g l)
  · exact fun u x h => h

/-! ### The cue engine behind the settling -/

/-- A reserved place in the log leaves the lanes as they are. -/
theorem reserve_lanes (s : State) (l : LaneId) (lic pid total : Nat) : (s.reserve l lic pid total).lanes = s.lanes := by
  cases hfind : s.shc.find lic with
  | none => rw [reserve_of_not_found l pid total hfind]
  | some c =>
    rw [reserve_of_find l pid total hfind]
    dsimp only
    split <;> rfl

theorem takeUp_sce (s : State) (l : LaneId) (i : Item) : ((s.takeUp l i).1.lane l).sce = (s.lane l).sce := by
  have hpromoted : ∀ u : State, ((u.promoted l i).lane l).sce = (u.lane l).sce := fun u =>
    (modPl_lane_sce _ l l _).trans (modPl_lane_sce u l l _)
  unfold State.takeUp
  split
  · exact modPl_lane_sce s l l _
  · split
    · exact modPl_lane_sce s l l _
    · split
      · split
        · exact (modPl_lane_sce _ l l _).trans ((modPl_lane_sce _ l l _).trans (modPl_lane_sce s l l _))
        · exact (hpromoted _).trans (by rw [State.lane, reserve_lanes, State.lane])
      · exact hpromoted s

theorem takeUpReel_sce (s : State) (l : LaneId) (pid item reel frames : Nat) :
    (s.lane l).sce.TakesUp ((s.takeUpReel l pid item reel frames).lane l).sce := by
  have hbank : ∀ f, (s.lane l).sce.TakesUp ((s.lane l).sce.modBank (s.lane l).sce.takeBank f) := fun f => by
    cases (s.lane l).sce.takeBank <;> rfl
  unfold State.takeUpReel
  dsimp only
  split
  · rw [lane_modSce_same]
    exact hbank fun _ => takenBank item reel frames (s.lane l).pl.set.subtitleOffset (subtitleTrack s pid reel)
  · rw [raiseLane, lane_raise, lane_modSce_same, lane_modSce_same]
    exact CueEngine.TakesUp.trans
      (hbank fun _ => takenBank item reel frames (s.lane l).pl.set.subtitleOffset (subtitleTrack s pid reel)) rfl
  · unfold State.modFetch
    rw [modPl_lane_sce, lane_modSce_same]
    exact hbank fun _ => takenBank item reel frames (s.lane l).pl.set.subtitleOffset (subtitleTrack s pid reel)

theorem fetchOnce_sce (s : State) (l : LaneId) : (s.lane l).sce.TakesUp ((s.fetchOnce l).1.lane l).sce := by
  have hsame : ∀ u : State, (u.lane l).sce = (s.lane l).sce → (s.lane l).sce.TakesUp (u.lane l).sce := fun u h => by
    rw [h]
    exact .refl _
  unfold State.fetchOnce
  dsimp only
  split
  · exact hsame s rfl
  · split
    · exact hsame s rfl
    · split
      · exact hsame _ (modPl_lane_sce s l l _)
      · exact hsame _ (takeUp_sce s l _)
    · split
      · exact hsame s rfl
      · unfold State.fetchAtFrame
        dsimp only
        split
        · split
          · exact hsame _ (modPl_lane_sce s l l _)
          · exact hsame _ ((modPl_lane_sce _ l l _).trans (modPl_lane_sce s l l _))
        · split
          · split
            · refine .trans (hsame _ (modPl_lane_sce s l l _)) (takeUpReel_sce _ l _ _ _ _)
            · exact hsame _ (modPl_lane_sce s l l _)
          · split
            · exact hsame _ (modPl_lane_sce s l l _)
            · split
              · exact hsame _ ((modPl_lane_sce _ l l _).trans (modPl_lane_sce _ l l _))
              · exact hsame _ (modPl_lane_sce s l l _)

theorem grant_sce (s : State) (g : Grant) (l : LaneId) : ((s.grant g).lane l).sce = (s.lane l).sce := by
  obtain ⟨v, -, hlanes, hgrant⟩ := s.grant_eq g
  obtain ⟨j, hj⟩ := exists_ne l
  have hv : v.lane l = s.lane l := by rw [State.lane, hlanes, State.lane]
  rw [hgrant, ← hv]
  cases g with
  | lane k =>
    by_cases hk : k = l
    · rw [hk]
      dsimp only
      unfold State.grantLane
      dsimp only
      split
      · rfl
      all_goals
        split
        · exact modPl_lane_sce v l l _
      · split
        · exact modPl_lane_sce _ l l _
        · exact modPl_lane_sce _ l l _
      · exact modPl_lane_sce _ l l _
      · split
        · exact modPl_lane_sce v l l _
        · split
          · exact modPl_lane_sce v l l _
          · exact modPl_lane_sce _ l l _
    · exact congrArg Lane.sce ((Within.grantLane v k).others l (Ne.symm hk))
  | catalogue q => exact congrArg Lane.sce ((Within.grantCatalogue v j q).others l (Ne.symm hj))
  | chunk slot => exact congrArg Lane.sce ((Within.grantChunk v j slot).others l (Ne.symm hj))

/-- The settling takes reels up on a cue engine and does no more to it. -/
theorem settle_sce (s : State) (l : LaneId) : (s.lane l).sce.TakesUp (s.settle.lane l).sce := by
  refine settle_induction (P := fun u => (s.lane l).sce.TakesUp (u.lane l).sce) ?_ ?_ ?_ ?_ (.refl _)
  · intro u k h
    by_cases hk : k = l
    · rw [hk]
      exact h.trans (fetchOnce_sce u l)
    · rw [(Within.fetchOnce u k).others l (Ne.symm hk)]
      exact h
  · intro u k h
    have hsame : ((u.testCued k).lane l).sce = (u.lane l).sce := by
      unfold State.testCued
      dsimp only
      split
      · exact modPl_lane_sce u k l fun p => { p with state := .cued }
      · rfl
    rw [hsame]
    exact h
  · intro u g h
    rw [grant_sce]
    exact h
  · exact fun u x h => h

end State
end Sys2Proof.Machine
end

section
/-! PROOF. CUE and SEEK (R58, R67, R68, R90, R93, R94, R103, R139, R157). -/

namespace Sys2Proof.Machine

open Sys2Proof

/-! ### What holds of a lane's record through the settling -/

/-- The head of a lane's queue is a promoted item of a serial number and a kind. -/
def Playout.HeadPromoted (p : Playout) (uid : Nat) (kind : ItemKind) : Prop :=
  ∃ h tail, p.queue = h :: tail ∧ h.uid = uid ∧ h.kind = kind ∧ h.promoted = true

theorem Playout.Steps.headPromoted {p q : Playout} {uid : Nat} {kind : ItemKind} (h : p.Steps q)
    (hp : p.HeadPromoted uid kind) : q.HeadPromoted uid kind := by
  induction h with
  | refl => exact hp
  | mark n g _ hg ih =>
    obtain ⟨i, tail, hqueue, huid, hkind, hpromoted⟩ := ih
    obtain ⟨hguid, hgkind, hgpromoted⟩ := hg i
    refine ⟨if i.uid = n then g i else i, tail.map fun i => if i.uid = n then g i else i, ?_, ?_⟩
    · dsimp only
      rw [hqueue]
      rfl
    · split
      · exact ⟨hguid.trans huid, hgkind.trans hkind, hgpromoted hpromoted⟩
      · exact ⟨huid, hkind, hpromoted⟩
  | fetch | slot | counts => assumption

theorem Playout.Steps.running {p q : Playout} (h : p.Steps q) (hp : p.fetch.state ≠ .stopped) :
    q.fetch.state ≠ .stopped := by
  induction h with
  | refl => exact hp
  | fetch f _ hstate _ ih =>
    rcases hstate with hsame | hne
    · rw [hsame]
      exact ih
    · exact hne
  | mark | slot | counts => assumption

/-- Whether a cursor stands at or behind a frame of an item. -/
def Cursor.AtOrBehind (uid t : Nat) : Cursor → Prop
  | .frameOf item pos _ => uid ≤ item ∧ (item = uid → t ≤ pos.frame)
  | .afterItem item => uid ≤ item

/-- A lane that has fetched nothing before a frame of an item, and presented nothing of it (R103). -/
structure Playout.FetchesFrom (p : Playout) (uid t : Nat) : Prop where
  buffer : ∀ b ∈ p.buffer, b.stage ≠ .presented ∧ uid ≤ b.item ∧ (b.item = uid → t ≤ b.pos.frame)
  cursor : ∀ c ∈ p.fetch.cursor, c.AtOrBehind uid t

theorem Item.posAt_frame (i : Item) (f : Nat) : (i.posAt f).frame = f := by
  unfold Item.posAt
  split <;> rfl

theorem Item.cursorAfter_atOrBehind {i : Item} {pos : Pos} {uid t : Nat} (hle : uid ≤ i.uid)
    (hpos : i.uid = uid → t ≤ pos.frame) : (i.cursorAfter pos).AtOrBehind uid t := by
  unfold Item.cursorAfter Item.after
  by_cases hlast : pos.frame + 1 < i.total
  · rw [if_pos hlast]
    refine ⟨hle, fun huid => ?_⟩
    rw [Item.posAt_frame]
    exact (hpos huid).trans (Nat.le_succ _)
  · rw [if_neg hlast]
    exact hle

theorem Item.startCursor_atOrBehind {i : Item} {uid : Nat} (t : Nat) (hlt : uid < i.uid) :
    i.startCursor.AtOrBehind uid t := by
  unfold Item.startCursor
  split
  · exact Nat.le_of_lt hlt
  · exact ⟨Nat.le_of_lt hlt, fun h => absurd h (by omega)⟩

theorem Playout.CursorFrom.atOrBehind {p : Playout} {c : Option Cursor} {uid t : Nat} (h : p.CursorFrom c)
    (hp : p.FetchesFrom uid t) : ∀ x ∈ c, x.AtOrBehind uid t := by
  cases h with
  | stays => exact hp.cursor
  | later u i hcursor hlater =>
    rintro x ⟨⟩
    exact Item.startCursor_atOrBehind t (Nat.lt_of_le_of_lt (hp.cursor _ hcursor) hlater)
  | taken u pos b b' hcursor =>
    rintro x ⟨⟩
    exact (hp.cursor (.frameOf u pos b) hcursor : Cursor.AtOrBehind uid t (.frameOf u pos b))
  | behind i b hb hi =>
    rintro x ⟨⟩
    obtain ⟨-, hle, hpos⟩ := hp.buffer b hb
    exact Item.cursorAfter_atOrBehind (hi ▸ hle) fun huid => hpos (hi.trans huid)

theorem Playout.Steps.fetchesFrom {p q : Playout} {uid t : Nat} (h : p.Steps q) (hp : p.FetchesFrom uid t) :
    q.FetchesFrom uid t := by
  induction h with
  | refl => exact hp
  | fetch f _ _ hcursor ih => exact ⟨ih.buffer, hcursor.atOrBehind ih⟩
  | slot num i pos taken _ hat ih =>
    refine ⟨fun b hb => ?_, ih.cursor⟩
    rcases List.mem_append.mp hb with hb | hb
    · exact ih.buffer b hb
    · obtain rfl := List.mem_singleton.mp hb
      obtain ⟨hle, hpos⟩ := ih.cursor _ hat
      refine ⟨?_, hle, hpos⟩
      unfold newSlot
      dsimp only
      split <;> exact nofun
  | mark _ _ _ _ ih => exact ⟨ih.buffer, ih.cursor⟩
  | counts _ _ _ ih => exact ⟨ih.buffer, ih.cursor⟩

/-- The settling only adds reservations, behind those a lane has (R57, R90). -/
theorem State.settle_reservations (s : State) (l : LaneId) :
    s.shc.reservations.get l <+: s.settle.shc.reservations.get l := by
  have hall : ∀ u, s.Settles u → s.shc.reservations.get l <+: u.shc.reservations.get l := by
    intro u h
    induction h with
    | refl => exact List.prefix_refl _
    | @reserved u k lic pid total _ _ ih =>
      refine ih.trans ?_
      cases hfind : u.shc.find lic with
      | none =>
        rw [State.reserve_of_not_found k pid total hfind]
      | some c =>
        have hset : ∀ rs : List Reservation, u.shc.reservations.get k <+: rs →
            u.shc.reservations.get l <+: (u.shc.reservations.set k rs).get l := by
          intro rs hrs
          by_cases hl : l = k
          · rw [hl, Quad.get_set_same]
            exact hrs
          · rw [Quad.get_set_ne _ _ hl]
        rw [State.reserve_of_find k pid total hfind]
        dsimp only
        split
        · exact hset _ (List.prefix_append _ _)
        · exact hset _ (List.prefix_append _ _)
    | playout | cues | storage | assembler | sent | raised => assumption
  exact hall _ s.settles_settle

/-! ### SEEK (R103, R157) -/

namespace State

theorem seekTo_own (s : State) (l : LaneId) (i : Item) (target : Nat) : (s.seekTo l i target).lane l =
    { s.lane l with
      pl := { (s.lane l).pl with
        buffer := [], next := some (i.posAt target), inGap := false
        fetch := { (s.lane l).pl.fetch.stop true with
          state := .running, cursor := some (.frameOf i.uid (i.posAt target) false) } }
      sce := (s.lane l).sce.seek.1
      sne := { (s.lane l).sne with seatPending := true } } := by
  unfold State.seekTo
  dsimp only
  rw [lane_modSne_same, lane_cueStep, if_pos rfl, lane_modPl_same, stopFetch_own]

theorem Within.seekTo (s : State) (l : LaneId) (i : Item) (target : Nat) : s.Within l (s.seekTo l i target) := by
  unfold State.seekTo
  exact (((Silent.stopFetch s l true).toWithin.trans (.modPl _ l _)).trans (.cueStep _ l _)).trans (.modSne _ l _)

theorem seekTo_shc (s : State) (l : LaneId) (i : Item) (target : Nat) : (s.seekTo l i target).shc = s.shc := by
  unfold State.seekTo
  dsimp only
  rw [modSne_shc, (cueStep_same _ l CueEngine.seek).2.2.2.1]
  rfl

end State

theorem exec_seek {s v : State} {body : List Byte} {t : Instant} {l : LaneId} {i : Item} {rest : List Item}
    (hc : s.Commanded 0x4B body) (hlen : body.length = 5) (hl : u8 body 0 = l.val) (hv : v = s.takeAt t)
    (hpaused : (v.lane l).pl.state = .paused) (hqueue : (v.lane l).pl.queue = i :: rest)
    (hplays : i.isIntermission = false) (hpromoted : i.promoted = true) :
    exec (.seek t) s = .next ((v.seekTo l i (min (u32 body 1) (i.total - 1))).answered
      (.done (.seekTarget (min (u32 body 1) (i.total - 1))))) := by
  have hexec : exec (.seek t) s = _ := runCommandAt_lane hc hlen hl hv (by rw [hpaused]; exact nofun)
    fun body s l => seek l (u32 body 1) s
  rw [hexec]
  unfold seek
  dsimp only
  rw [if_neg (fun h => h hpaused), hqueue]
  dsimp only
  rw [if_neg (by simp [hplays, hpromoted])]
  rfl

/-- Settles O43: the lane behind the seek fetches from the target, and so it does through the settling. -/
theorem laneSought : Obligations.LaneSought := by
  intro s v body t l i rest hc hlen hl hv hpaused hqueue hplays hpromoted
  refine ⟨_, exec_seek hc hlen hl hv hpaused hqueue hplays hpromoted, ?_⟩
  generalize min (u32 body 1) (i.total - 1) = target
  generalize Reply.done _ = r
  have hown := v.seekTo_own l i target
  have hwithin := State.Within.seekTo v l i target
  have hstate : ((v.seekTo l i target).lane l).pl.state ≠ .cueing := by
    rw [hown]
    dsimp only
    rw [hpaused]
    exact nofun
  have hfrom : ((v.seekTo l i target).lane l).pl.FetchesFrom i.uid target := by
    rw [hown]
    refine ⟨fun b hb => absurd hb List.not_mem_nil, ?_⟩
    rintro c ⟨⟩
    exact ⟨Nat.le_refl _, fun _ => (Item.posAt_frame i target).ge⟩
  have hsettled := (State.steps_settle ((v.seekTo l i target).reply r) l).fetchesFrom hfrom
  have hsce : ((v.seekTo l i target).lane l).sce.TakesUp (((v.seekTo l i target).answered r).lane l).sce :=
    State.settle_sce ((v.seekTo l i target).reply r) l
  refine ⟨hwithin.toBeside.answered r, (State.answered_held _ r).trans hwithin.held, ?_⟩
  rw [State.answered_next, State.answered_state r hstate, State.answered_pause, State.answered_position,
    State.answered_inGap, State.answered_epoch, State.answered_sne, State.answered_log, State.seekTo_shc, hsce, hown]
  refine ⟨rfl, hpaused, rfl, rfl, rfl, rfl, fun b hb => ?_, rfl, rfl, rfl⟩
  obtain ⟨hstage, -, hpos⟩ := hsettled.buffer b hb
  exact ⟨hstage, hpos⟩

/-! ### CUE (R58, R90, R93) -/

theorem exec_cue {s : State} {body : List Byte} {l : LaneId} (hc : s.Commanded 0x46 body) (hlen : body.length = 1)
    (hl : u8 body 0 = l.val) (hidle : (s.lane l).pl.state = .idle) :
    exec .cue s = .next (cueLane l s).state.settle :=
  runCommand_lane hc hlen hl (by rw [hidle]; exact nofun) fun _ s l => cueLane l s

/-- With the lane's checks passed a CUE is its head's promotion (R93). -/
theorem cueLane_eq {s : State} {l : LaneId} {c : ScreenId} {i : Item} {rest : List Item} {r : Nat}
    (hidle : (s.lane l).pl.state = .idle) (hscreen : (s.lane l).pl.screen = some c)
    (hconfirmed : (s.lane l).pl.confirmed = true) (hfree : s.screenHeld c = false)
    (hqueue : (s.lane l).pl.queue = i :: rest) (hplays : i.isIntermission = false)
    (hrate : (s.lane l).pl.queueRate = some r) :
    cueLane l s = (match promoteHead s l i with
      | .error why => .refused why (s.modStats l (fun k => { k with refused := satInc top32 k.refused }))
      | .ok s => .done .empty (s.modPl l (fun p => p.cueHead i))) := by
  have hheld : s.laneHeld l = false := by
    unfold State.laneHeld
    rw [hscreen]
    exact hfree
  unfold cueLane
  dsimp only
  rw [if_neg (fun h => h hidle), if_neg (by simp [hscreen, hconfirmed]), hheld, if_neg Bool.false_ne_true, hqueue]
  dsimp only
  rw [if_neg (by simp [hplays, hrate])] <;> rfl

/-- The promotion of a head leaves the lanes, and what it changes is the lane's own. -/
theorem promoteHead_ok {s s1 : State} {l : LaneId} {i : Item} (h : promoteHead s l i = .ok s1) :
    s1.lanes = s.lanes ∧ s.Within l s1 := by
  unfold promoteHead at h
  split at h
  · split at h
    · cases h
    · cases h
      exact ⟨State.reserve_lanes s l _ _ _, .reserve s l _ _ _⟩
  · cases h
    exact ⟨rfl, .refl s l⟩

/-- A reservation made at the tail of a lane's takes one more slot of the log (R57, R67). -/
theorem Showings.occupancy_reserved (h : Showings) (l : LaneId) {q : Reservation} (hq : q.stage = .promoted) :
    (h.withReservations l (h.reservations.get l ++ [q])).occupancy = h.occupancy + 1 := by
  have hslots := h.heldSlots_withReservations l (h.reservations.get l ++ [q])
  rw [List.countP_append] at hslots
  have hone : [q].countP (fun r => r.stage == .promoted) = 1 := by simp [hq]
  unfold Showings.occupancy
  have hlog : (h.withReservations l (h.reservations.get l ++ [q])).log = h.log := rfl
  rw [hlog]
  omega

/-- A head whose promotion passes is reserved with the mark of its frames and its licence (R58, R139). -/
theorem promoteHead_reserved {s : State} {l : LaneId} {c : ScreenId} {i : Item} {lic pid : Nat}
    (hscreen : (s.lane l).pl.screen = some c) (hlic : i.licence = some lic) (hpid : i.package = some pid)
    (hpass : promotionFailure s lic pid = none) :
    ∃ s1 q k, promoteHead s l i = .ok s1 ∧ s.shc.find lic = some k
      ∧ s1.shc.reservations.get l = s.shc.reservations.get l ++ [q] ∧ q.licenceId = lic
      ∧ q.packageId = pid ∧ q.screen = some c ∧ q.stage = .promoted
      ∧ q.mark = (i.reelFrames.sum * k.percent + 99) / 100
      ∧ (∀ m, m ≠ l → s1.shc.reservations.get m = s.shc.reservations.get m)
      ∧ s1.shc = { s.shc with reservations := s1.shc.reservations }
      ∧ s1.shc.occupancy = s.shc.occupancy + 1 ∧ s1 = { s with shc := s1.shc, ntu := s1.ntu }
      ∧ (s.shc.occupancy = 239 → s1.ntu.raised.getLsbD srcLogNearFull = true)
      ∧ (s.shc.occupancy ≠ 239 → s1.ntu = s.ntu) := by
  obtain ⟨now, k, -, hfind, -⟩ := promotionFailure_eq_none hpass
  have htotal : i.total = i.reelFrames.sum := by
    unfold Item.package at hpid
    unfold Item.total
    cases hkind : i.kind with
    | composition => rfl
    | black | intermission =>
      rw [hkind] at hpid
      cases hpid
  have hok : promoteHead s l i = .ok (s.reserve l lic pid i.total) := by
    unfold promoteHead
    rw [hlic, hpid]
    dsimp only
    rw [hpass]
  have hres := State.reserve_of_find l pid i.total hfind
  have hshc : (s.reserve l lic pid i.total).shc
      = s.shc.withReservations l (s.shc.reservations.get l ++ [s.newReservation l lic pid i.total k]) := by
    rw [hres]
    dsimp only
    split <;> rfl
  refine ⟨s.reserve l lic pid i.total, s.newReservation l lic pid i.total k, k, hok, hfind, ?_, rfl, rfl, hscreen, rfl,
    ?_, fun m hm => ?_, ?_, ?_, ?_, fun hnear => ?_, fun hnear => ?_⟩
  · rw [hshc]
    exact Quad.get_set_same _ _ _
  · rw [← htotal]
    rfl
  · rw [hshc]
    exact Quad.get_set_ne _ _ hm
  · rw [hshc]
    rfl
  · rw [hshc]
    exact s.shc.occupancy_reserved l rfl
  · rw [hres]
    dsimp only
    split <;> rfl
  · rw [hres]
    dsimp only
    rw [if_pos hnear]
    exact State.raise_raised _ (by decide)
  · rw [hres]
    dsimp only
    rw [if_neg hnear]

/-- Settles O39: the head's promotion and the lane's record, kept by the settling's steps. -/
theorem laneCued : Obligations.LaneCued := by
  intro s body l c i rest r hc hlen hl hidle hscreen hconfirmed hfree hqueue hplays hrate
  rw [exec_cue hc hlen hl hidle, cueLane_eq hidle hscreen hconfirmed hfree hqueue hplays hrate]
  refine ⟨fun s1 hok => ?_, fun why herr => ?_, fun lic pid hlic hpid hpass =>
    promoteHead_reserved hscreen hlic hpid hpass, fun hnone => ?_⟩
  · obtain ⟨hlanes, hwithin⟩ := promoteHead_ok hok
    have hlane : s1.lane l = s.lane l := by rw [State.lane, hlanes, State.lane]
    rw [hok]
    dsimp only
    rw [Answer.state_done]
    have hown : (s1.modPl l fun p => p.cueHead i).lane l = { s.lane l with pl := (s.lane l).pl.cueHead i } := by
      rw [State.lane_modPl_same, hlane]
    have hbeside : s.Within l (s1.modPl l fun p => p.cueHead i) := hwithin.trans (.modPl _ l _)
    have hres : (s1.modPl l fun p => p.cueHead i).shc = s1.shc := rfl
    have hntu : (s1.modPl l fun p => p.cueHead i).ntu = s1.ntu := rfl
    generalize s1.modPl l (fun p => p.cueHead i) = w at hown hbeside hres hntu ⊢
    have hhead : ((s.lane l).pl.cueHead i).HeadPromoted i.uid i.kind := by
      unfold Playout.HeadPromoted Playout.cueHead
      dsimp only
      rw [hqueue, List.map_cons, if_pos rfl]
      exact ⟨_, _, rfl, rfl, rfl, rfl⟩
    have hsteps := State.steps_settle (w.reply (.done .empty)) l
    rw [State.lane_reply, hown] at hsteps
    obtain ⟨h, tail, hheads, huid, hkind, hpromoted⟩ := hsteps.headPromoted hhead
    obtain ⟨more, hmore⟩ := State.settle_reservations (w.reply (.done .empty)) l
    refine ⟨w.answered (.done .empty), h, tail, more, rfl, hbeside.toBeside.answered _,
      (State.answered_held _ _).trans hbeside.held, ?_⟩
    rw [State.answered_rate, State.answered_fault, State.answered_shown, State.answered_inGap, State.answered_next,
      State.answered_position, hown]
    refine ⟨?_, hrate, rfl, rfl, rfl, rfl, rfl, hheads, huid, hkind, hpromoted, hsteps.running nofun, ?_, fun n hn => ?_⟩
    · have hcases := State.settle_state_cases (w.reply (.done .empty)) l
      rw [State.lane_reply, hown] at hcases
      rcases hcases with hsame | ⟨-, hcued⟩
      · exact .inl hsame
      · exact .inr hcued
    · rw [← hres]
      exact hmore.symm
    · exact State.answered_raised w _ (by rw [hntu]; exact hn)
  · rw [herr]
    rfl
  · unfold promoteHead
    rw [hnone]

end Sys2Proof.Machine
end

section
/-! PROOF. PAUSE and RESUME (R99 to R101, R155, R156, R165). -/

namespace Sys2Proof.Machine

open Sys2Proof

/-! ### A cue engine taken slot by slot (R153) -/

/-- One slot of an engine changed by itself, with at most one command. -/
def slotwise (g : Fin 4 → Option ActiveCue → Option ActiveCue) (cmd : Fin 4 → Option ActiveCue → Option ScreenCommand)
    (o : CueOut) (i : Fin 4) : CueOut :=
  ({ o.1 with active := o.1.active.set i (g i (o.1.active.get i)) }, o.2 ++ (cmd i (o.1.active.get i)).toList)

/-- The four slots in ascending order: each is changed by itself, and the commands stand in slot order. -/
theorem slotwise_fours (g : Fin 4 → Option ActiveCue → Option ActiveCue)
    (cmd : Fin 4 → Option ActiveCue → Option ScreenCommand) (e : CueEngine) :
    fours.foldl (slotwise g cmd) (e, []) = ({ e with active := Quad.ofFn fun k => g k (e.active.get k) },
      fours.filterMap fun k => cmd k (e.active.get k)) := by
  have hsent : (fours.filterMap fun k => cmd k (e.active.get k)) = fours.flatMap fun k => (cmd k (e.active.get k)).toList :=
    List.filterMap_eq_flatMap_toList _ _
  rw [hsent]
  simp [fours, slotwise, Quad.ofFn, Quad.get, Quad.set]

theorem CueEngine.slotwise_none (g : Fin 4 → Option ActiveCue → Option ActiveCue)
    (cmd : Fin 4 → Option ActiveCue → Option ScreenCommand) (o : CueOut) (i : Fin 4)
    (hg : g i (o.1.active.get i) = o.1.active.get i) (hcmd : cmd i (o.1.active.get i) = none) : slotwise g cmd o i = o := by
  unfold slotwise
  rw [hg, hcmd, Quad.set_get_self, Option.toList_none, List.append_nil]

/-- RESUME shows each hidden slot again at the opacity last sent (R156). -/
theorem unhideSlot_eq : unhideSlot = slotwise (fun _ a => a.map fun a => { a with hidden := false })
    (fun k a => a.bind fun a => if a.hidden then some (showCommand k a.cue a.opacity) else none) := by
  funext o i
  unfold unhideSlot
  cases ha : o.1.active.get i with
  | none =>
    refine (CueEngine.slotwise_none _ _ o i ?_ ?_).symm <;> rw [ha] <;> rfl
  | some a =>
    dsimp only
    by_cases hhidden : a.hidden = true
    · rw [if_pos hhidden, slotwise, ha]
      simp [hhidden]
    · rw [if_neg hhidden]
      refine (CueEngine.slotwise_none _ _ o i ?_ ?_).symm <;> rw [ha]
      · cases a
        simp_all
      · simp [hhidden]

theorem CueEngine.resumed_eq (e : CueEngine) : e.resumed =
    ({ e with active := Quad.ofFn fun k => (e.active.get k).map fun a => { a with hidden := false } },
      e.slotCommands fun k a => if a.hidden then some (showCommand k a.cue a.opacity) else none) := by
  unfold CueEngine.resumed
  rw [unhideSlot_eq, slotwise_fours]
  rfl

namespace State

variable {s u : State} {l : LaneId}

/-! ### PAUSED (R100, R155, R165) -/

theorem enterPaused_own (s : State) (l : LaneId) (cause : PauseCause) : (s.enterPaused l cause).lane l =
    { pl := { (s.lane l).pl with state := .paused, pause := some cause }
      ftm := (s.lane l).ftm.unwatched cause.gateResult s.clock.now
      sce := ((s.lane l).sce.paused cause).1
      sne := ((s.enterPaused l cause).lane l).sne }
    ∧ ((s.enterPaused l cause).lane l).sne.state ≠ .running := by
  have hpaused : ((s.modPl l fun p => { p with state := .paused, pause := some cause }).endWatch l cause.gateResult).lane l
      = { s.lane l with
          pl := { (s.lane l).pl with state := .paused, pause := some cause }
          ftm := (s.lane l).ftm.unwatched cause.gateResult s.clock.now } := by
    rw [endWatch_own, lane_modPl_same]
    rfl
  unfold State.enterPaused
  dsimp only
  rw [lane_cueStep, if_pos rfl, rampDown_own, hpaused]
  refine ⟨?_, (Lane.rampDown_sne _ _ _).2.2⟩
  rw [Lane.rampDown_eq]

theorem enterPaused_shc (s : State) (l : LaneId) (cause : PauseCause) : (s.enterPaused l cause).shc = s.shc := by
  obtain ⟨-, -, -, hshc, -⟩ := enterPaused_same s l cause
  exact hshc

/-- What a pause sends is what the engine sends on the lane's own screen. -/
theorem Sends.enterPaused (s : State) (l : LaneId) (cause : PauseCause) :
    s.Sends (s.enterPaused l cause) (s.onOwn l ((s.lane l).sce.paused cause).2) := by
  have hquiet : s.Silent l (((s.modPl l fun p => { p with state := .paused, pause := some cause }).endWatch l
      cause.gateResult).rampDown l false) :=
    ((Silent.modPl s l _).trans (.endWatch _ l _)).trans (.rampDown _ l _)
  have hcues := Sends.cueStep (((s.modPl l fun p => { p with state := .paused, pause := some cause }).endWatch l
    cause.gateResult).rampDown l false) l fun e => e.paused cause
  have hlane : ∀ k, ((((s.modPl l fun p => { p with state := .paused, pause := some cause }).endWatch l
      cause.gateResult).rampDown l false).lane k).pl.screen = (s.lane k).pl.screen := fun k => by
    by_cases hk : k = l
    · rw [hk, rampDown_own, Lane.rampDown_eq, endWatch_lane_pl, lane_modPl_same]
    · rw [hquiet.others k hk]
  have hsce : ((((s.modPl l fun p => { p with state := .paused, pause := some cause }).endWatch l
      cause.gateResult).rampDown l false).lane l).sce = (s.lane l).sce := by
    rw [rampDown_own, Lane.rampDown_eq, endWatch_own, lane_modPl_same]
  rw [hsce, onOwn_congr hquiet.held hlane] at hcues
  exact Sends.none_then hquiet.sends hcues

/-! ### PLAYING again (R101, R156) -/

theorem resumePlaying_own (s : State) (l : LaneId) : (s.resumePlaying l).lane l =
    { pl := { (s.lane l).pl with state := .playing, pause := none }
      ftm := ((s.resumePlaying l).lane l).ftm
      sce := (s.lane l).sce.resumed.1
      sne := { (s.lane l).sne with resumed := true } } := by
  unfold State.resumePlaying
  rw [lane_cueStep, if_pos rfl, enterPlaying_own, lane_modSne_same, lane_modPl_same]

theorem resumePlaying_shc (s : State) (l : LaneId) : (s.resumePlaying l).shc = s.shc := by
  unfold State.resumePlaying State.enterPlaying
  obtain ⟨-, -, -, hcues, -⟩ := cueStep_same ((((s.modPl l fun p => { p with pause := none }).modSne l fun u =>
    { u with resumed := true })).enterPlaying l) l CueEngine.resumed
  refine hcues.trans ?_
  unfold State.enterPlaying State.beginWatch
  dsimp only
  split
  · exact (abortGate_same _ l .aborted).2.2.2.1
  · rfl

theorem Silent.resumeUp (s : State) (l : LaneId) :
    s.Silent l ((((s.modPl l fun p => { p with pause := none }).modSne l fun u => { u with resumed := true })).enterPlaying
      l) :=
  ((Silent.modPl s l _).trans (.modSne _ l _)).trans (.enterPlaying _ l)

theorem Within.resumePlaying (s : State) (l : LaneId) : s.Within l (s.resumePlaying l) :=
  (Silent.resumeUp s l).toWithin.trans (.cueStep _ l _)

theorem Sends.resumePlaying (s : State) (l : LaneId) :
    s.Sends (s.resumePlaying l) (s.onOwn l (s.lane l).sce.resumed.2) := by
  have hquiet := Silent.resumeUp s l
  have hcues := Sends.cueStep ((((s.modPl l fun p => { p with pause := none }).modSne l fun u =>
    { u with resumed := true })).enterPlaying l) l CueEngine.resumed
  have hlane : ∀ k, (((((s.modPl l fun p => { p with pause := none }).modSne l fun u =>
      { u with resumed := true })).enterPlaying l).lane k).pl.screen = (s.lane k).pl.screen := fun k => by
    by_cases hk : k = l
    · rw [hk, enterPlaying_own, lane_modSne_same, lane_modPl_same]
    · rw [hquiet.others k hk]
  have hsce : (((((s.modPl l fun p => { p with pause := none }).modSne l fun u =>
      { u with resumed := true })).enterPlaying l).lane l).sce = (s.lane l).sce := by
    rw [enterPlaying_own, lane_modSne_same, lane_modPl_same]
  rw [hsce, onOwn_congr hquiet.held hlane] at hcues
  exact Sends.none_then hquiet.sends hcues

/-! ### The head examined (R99, R101) -/

theorem enterIdle_own (s : State) (l : LaneId) : ((s.enterIdle l).lane l).pl =
    { (s.lane l).pl with
      state := .idle, rate := none, next := none, pause := none, buffer := [],
      fetch := (s.lane l).pl.fetch.stop false, queue := (s.lane l).pl.queue.map Item.unblocked } := by
  unfold State.enterIdle State.endInjection
  dsimp only
  rw [lane_modPl_same, stopFetch_own, modFtm_lane_pl, endWatch_lane_pl, rampDown_own, Lane.rampDown_eq]

theorem enterIdle_shc (s : State) (l : LaneId) : (s.enterIdle l).shc = s.shc := by
  unfold State.enterIdle State.endInjection
  obtain ⟨-, -, -, hend, -⟩ := endWatch_same (s.rampDown l true) l .aborted
  exact hend

theorem enterIdle_still (s : State) (l : LaneId) : (s.enterIdle l).Still l := by
  unfold State.Still
  rw [enterIdle_own]
  exact ⟨rfl, rfl, nofun⟩

theorem examineHead_nil (h : (s.lane l).pl.queue = []) (target : Option Pos) : s.examineHead l target = s.enterIdle l := by
  unfold State.examineHead
  rw [h]

/-- The head taken as an INTERMISSION: gone from the queue, ITEM_DONE, and the lane PAUSED by it (R99). -/
def takeIntermission (s : State) (l : LaneId) : State :=
  ((s.dropHead l).raiseLane l srcItemDone).enterPaused l .intermission

theorem examineHead_intermission {i : Item} {rest : List Item} (h : (s.lane l).pl.queue = i :: rest)
    (hi : i.isIntermission = true) (target : Option Pos) : s.examineHead l target = s.takeIntermission l := by
  unfold State.examineHead
  rw [h]
  dsimp only
  rw [if_pos hi]
  rfl

theorem examineHead_blocked {i : Item} {rest : List Item} {why : Reason} (h : (s.lane l).pl.queue = i :: rest)
    (hi : i.isIntermission = false) (hb : i.blocked = some why) (target : Option Pos) :
    s.examineHead l target = (s.enterIdle l).laneFault l (.promotion why) := by
  unfold State.examineHead
  rw [h]
  dsimp only
  rw [if_neg (by rw [hi]; exact Bool.false_ne_true), hb]

theorem takeIntermission_own (s : State) (l : LaneId) : ((s.takeIntermission l).lane l).pl =
    { (s.lane l).pl with state := .paused, pause := some .intermission, queue := (s.lane l).pl.queue.tail } := by
  have hown := (enterPaused_own ((s.dropHead l).raiseLane l srcItemDone) l .intermission).1
  unfold State.takeIntermission
  rw [hown, raiseLane, lane_raise, dropHead_own]

theorem takeIntermission_shc (s : State) (l : LaneId) : (s.takeIntermission l).shc = s.shc := by
  unfold State.takeIntermission
  rw [enterPaused_shc, raiseLane, raise_shc, (dropHead_packages s l).shc]
  rfl

theorem Within.takeIntermission (s : State) (l : LaneId) : s.Within l (s.takeIntermission l) :=
  ((Silent.dropHead s l).trans (.raiseLane _ l l _)).toWithin.trans (.enterPaused _ l _)

/-- The pause behind an INTERMISSION keeps ITEM_DONE raised. -/
theorem takeIntermission_raised (s : State) (l : LaneId) :
    (s.takeIntermission l).ntu.raised.getLsbD (laneSource l srcItemDone) = true :=
  (Within.enterPaused _ l .intermission).raised _ (raiseLane_raised _ l (by decide))

theorem laneFault_own (s : State) (l : LaneId) (x : LaneFault) :
    (s.laneFault l x).lane l = { s.lane l with pl := { (s.lane l).pl with fault := some x } } :=
  lane_modPl_same s l fun p => { p with fault := some x }

end State

/-! ### RESUME by what stands at the head (R99, R101) -/

theorem State.resumeLane_of_pause {s : State} {l : LaneId} (h : (s.lane l).pl.pause ≠ some .intermission) :
    s.resumeLane l = s.resumePlaying l := by
  rw [State.resumeLane_eq, if_neg (fun hc => h hc.1), if_neg h]

theorem State.resumeLane_of_stops {s : State} {l : LaneId} (h : (s.lane l).pl.pause = some .intermission)
    (hstops : (s.lane l).pl.headPasses = false) : s.resumeLane l = s.examineHead l none := by
  rw [State.resumeLane_eq, if_pos ⟨h, by rw [hstops]; rfl⟩]

theorem State.resumeLane_of_passes {s : State} {l : LaneId} {i : Item} {rest : List Item}
    (h : (s.lane l).pl.pause = some .intermission) (hqueue : (s.lane l).pl.queue = i :: rest)
    (hplays : i.isIntermission = false) (hfree : i.blocked = none) :
    s.resumeLane l = (s.modPl l fun p =>
      { p with next := some ((s.lane l).pl.next.getD (i.posAt 0)) }).resumePlaying l := by
  have hpasses : (s.lane l).pl.headPasses = true := (Playout.headPasses_iff _).mpr ⟨i, rest, hqueue, hplays, hfree⟩
  rw [State.resumeLane_eq, if_neg (by simp [hpasses]), if_pos h, State.examineHead_of_passing hqueue hplays hfree]

/-! ### The commands -/

/-- The lane of a paused or playing command is not RESETTING. -/
theorem exec_pause {s v : State} {body : List Byte} {t : Instant} {l : LaneId} (hc : s.Commanded 0x48 body)
    (hlen : body.length = 1) (hl : u8 body 0 = l.val) (hv : v = s.takeAt t)
    (hplaying : (v.lane l).pl.state = .playing) :
    exec (.pause t) s = .next ((v.enterPaused l .host).answered (.done .empty)) := by
  have hexec : exec (.pause t) s = _ := runCommandAt_lane hc hlen hl hv (by rw [hplaying]; exact nofun)
    fun _ s l => pauseLane l s
  rw [hexec]
  unfold pauseLane
  rw [if_pos hplaying]
  rfl

theorem exec_resume {s v : State} {body : List Byte} {t : Instant} {l : LaneId} (hc : s.Commanded 0x49 body)
    (hlen : body.length = 1) (hl : u8 body 0 = l.val) (hv : v = s.takeAt t) (hpaused : (v.lane l).pl.state = .paused) :
    exec (.resume t) s = .next ((v.resumeLane l).answered (.done (.laneState ((v.resumeLane l).lane l).pl.state))) := by
  have hexec : exec (.resume t) s = _ := runCommandAt_lane hc hlen hl hv (by rw [hpaused]; exact nofun)
    fun _ s l => resume l s
  rw [hexec]
  unfold resume
  rw [if_pos hpaused]
  rfl

/-- Settles O41: the pause's own lane, and the RESUME by what stands at the head. -/
theorem lanePausedAndResumed : Obligations.LanePausedAndResumed := by
  refine ⟨fun s v body t l hc hlen hl hv hplaying => ?_, fun s v body t l hc hlen hl hv hpaused => ⟨fun hcause => ?_,
    fun hcause hqueue => ?_, fun i rest hcause hqueue => ?_⟩⟩
  · refine ⟨_, exec_pause hc hlen hl hv hplaying, ?_⟩
    generalize Reply.done _ = r
    obtain ⟨hown, hsound⟩ := v.enterPaused_own l .host
    have hwithin := State.Within.enterPaused v l .host
    have hsent := (State.Sends.enterPaused v l .host).then_none (.answered _ r)
    have hnone : v.onOwn l ((v.lane l).sce.paused .host).2 = fun _ => [] := funext fun c => ite_self _
    have hsce : ((v.enterPaused l .host).lane l).sce.TakesUp (((v.enterPaused l .host).answered r).lane l).sce :=
      State.settle_sce ((v.enterPaused l .host).reply r) l
    have hpl : ((v.enterPaused l .host).lane l).pl = { (v.lane l).pl with state := .paused, pause := some .host } := by
      rw [hown]
    have hftm : ((v.enterPaused l .host).lane l).ftm = (v.lane l).ftm.unwatched .aborted v.clock.now := by rw [hown]; rfl
    have hactive : ((v.enterPaused l .host).lane l).sce = (v.lane l).sce := by rw [hown]; rfl
    rw [hnone] at hsent
    rw [hactive] at hsce
    refine ⟨hwithin.toBeside.answered r, ?_⟩
    rw [State.answered_state r (by rw [hpl]; exact nofun), State.answered_pause, State.answered_next,
      State.answered_position, State.answered_rate, State.answered_ftm, State.answered_sne, State.answered_log,
      State.answered_held, State.enterPaused_shc, hsce, hpl, hftm]
    exact ⟨rfl, rfl, rfl, rfl, rfl, rfl, hsound, rfl, hwithin.held, rfl, hsent⟩
  · refine ⟨_, exec_resume hc hlen hl hv hpaused, ?_⟩
    rw [State.resumeLane_of_pause hcause]
    generalize Reply.done _ = r
    have hown := v.resumePlaying_own l
    have hwithin := State.Within.resumePlaying v l
    have hsent := (State.Sends.resumePlaying v l).then_none (.answered _ r)
    have hsce : ((v.resumePlaying l).lane l).sce.TakesUp (((v.resumePlaying l).answered r).lane l).sce :=
      State.settle_sce ((v.resumePlaying l).reply r) l
    have hpl : ((v.resumePlaying l).lane l).pl = { (v.lane l).pl with state := .playing, pause := none } := by rw [hown]
    have hsne : ((v.resumePlaying l).lane l).sne = { (v.lane l).sne with resumed := true } := by rw [hown]
    have hcues : ((v.resumePlaying l).lane l).sce = (v.lane l).sce.resumed.1 := by rw [hown]
    rw [hcues, CueEngine.resumed_eq] at hsce
    rw [CueEngine.resumed_eq] at hsent
    refine ⟨hwithin.toBeside.answered r, ?_⟩
    rw [State.answered_state r (by rw [hpl]; exact nofun), State.answered_pause, State.answered_next, State.answered_sne,
      State.answered_held, hsce, hpl, hsne]
    exact ⟨hwithin.held, rfl, rfl, rfl, rfl, fun k => Quad.get_ofFn _ k, hsent⟩
  · refine ⟨_, exec_resume hc hlen hl hv hpaused, ?_⟩
    rw [State.resumeLane_of_stops hcause (by unfold Playout.headPasses; rw [hqueue]), State.examineHead_nil hqueue]
    generalize Reply.done _ = r
    have hwithin := (State.Silent.enterIdle v l).toWithin
    refine ⟨hwithin.toBeside.answered r, (State.answered_held _ r).trans hwithin.held, ?_⟩
    rw [State.answered_state r (by rw [State.enterIdle_own]; exact nofun), State.answered_rate, State.enterIdle_own]
    exact ⟨rfl, rfl⟩
  · refine ⟨_, exec_resume hc hlen hl hv hpaused, ?_⟩
    cases hplays : i.isIntermission with
    | true =>
      rw [State.resumeLane_of_stops hcause (by unfold Playout.headPasses; rw [hqueue]; dsimp only; rw [hplays]; rfl),
        State.examineHead_intermission hqueue hplays]
      generalize Reply.done _ = r
      have hwithin := State.Within.takeIntermission v l
      refine ⟨hwithin.toBeside.answered r, (State.answered_held _ r).trans hwithin.held,
        (State.answered_log _ r).trans (congrArg Showings.log (v.takeIntermission_shc l)), fun _ => ?_, nofun, nofun⟩
      rw [State.answered_state r (by rw [State.takeIntermission_own]; exact nofun), State.answered_pause,
        State.answered_kinds, State.takeIntermission_own, hqueue]
      exact ⟨rfl, rfl, rfl, State.answered_raised _ r (v.takeIntermission_raised l)⟩
    | false =>
      cases hblocked : i.blocked with
      | some why =>
        rw [State.resumeLane_of_stops hcause (by unfold Playout.headPasses; rw [hqueue]; dsimp only; rw [hplays, hblocked]; rfl),
          State.examineHead_blocked hqueue hplays hblocked]
        generalize Reply.done _ = r
        have hwithin := ((State.Silent.enterIdle v l).trans (.laneFault _ l (.promotion why))).toWithin
        have hown := State.laneFault_own (v.enterIdle l) l (.promotion why)
        have hstill : ((v.enterIdle l).laneFault l (.promotion why)).Still l := by
          unfold State.Still
          rw [hown]
          exact v.enterIdle_still l
        obtain ⟨hlane, -⟩ := hstill.answered r
        refine ⟨hwithin.toBeside.answered r, (State.answered_held _ r).trans hwithin.held,
          (State.answered_log _ r).trans (congrArg Showings.log (v.enterIdle_shc l)), nofun, fun _ _ hsame => ?_, nofun⟩
        cases hsame
        rw [hlane, hown, State.enterIdle_own]
        exact ⟨rfl, rfl, rfl, rfl, State.answered_raised _ r (State.raiseLane_raised _ l (by decide))⟩
      | none =>
        rw [State.resumeLane_of_passes hcause hqueue hplays hblocked]
        generalize Reply.done _ = r
        have hnext : v.Within l (v.modPl l fun p => { p with next := some ((v.lane l).pl.next.getD (i.posAt 0)) }) :=
          .modPl v l _
        have hlane := State.lane_modPl_same v l fun p => { p with next := some ((v.lane l).pl.next.getD (i.posAt 0)) }
        have hlog : (v.modPl l fun p => { p with next := some ((v.lane l).pl.next.getD (i.posAt 0)) }).shc = v.shc := rfl
        generalize v.modPl l (fun p => { p with next := some ((v.lane l).pl.next.getD (i.posAt 0)) }) = w at hnext hlane hlog ⊢
        have hwithin := hnext.trans (.resumePlaying w l)
        have hown := w.resumePlaying_own l
        rw [hlane] at hown
        refine ⟨hwithin.toBeside.answered r, (State.answered_held _ r).trans hwithin.held, ?_, nofun, nofun, fun _ _ => ?_⟩
        · rw [State.answered_log, State.resumePlaying_shc, hlog]
        · have hpl : ((w.resumePlaying l).lane l).pl = { (v.lane l).pl with
              state := .playing, pause := none, next := some ((v.lane l).pl.next.getD (i.posAt 0)) } := by rw [hown]
          have hsne : ((w.resumePlaying l).lane l).sne = { (v.lane l).sne with resumed := true } := by rw [hown]
          rw [State.answered_state r (by rw [hpl]; exact nofun), State.answered_pause, State.answered_next,
            State.answered_sne, State.answered_kinds, hpl, hsne]
          exact ⟨rfl, rfl, rfl, rfl, rfl⟩

end Sys2Proof.Machine
end

section
/-! PROOF. The expiry of the loss timer and the overflow of a gate (R112, R113, R120, R123, R125, R127, R155). -/

namespace Sys2Proof.Machine

open Sys2Proof

/-! ### The frame of events in a row -/

theorem LaneFrame.trans {s u v : State} {l : LaneId} (h : LaneFrame s u l) (k : LaneFrame u v l) : LaneFrame s v l := by
  obtain ⟨h1, h2, h3, h4, h5, h6, h7, h8, h9, h10, h11, h12, h13, h14, h15, h16, h17, h18, h19, h20, h21⟩ := h
  obtain ⟨k1, k2, k3, k4, k5, k6, k7, k8, k9, k10, k11, k12, k13, k14, k15, k16, k17, k18, k19, k20, k21⟩ := k
  refine ⟨k1.trans h1, k2.trans h2, k3.trans h3, k4.trans h4, k5.trans h5, k6.trans h6, by rw [k7, h7], k8.trans h8,
    k9.trans h9, k10.trans h10, k11.trans h11, k12.trans h12, k13.trans h13, k14.trans h14, k15.trans h15,
    k16.trans h16, k17.trans h17, k18.trans h18, k19.trans h19, k20.trans h20, fun j hj => ?_⟩
  obtain ⟨a1, a2, a3, a4, a5, a6, a7, a8, a9, a10, a11, a12, a13, hstate⟩ := h21 j hj
  obtain ⟨b1, b2, b3, b4, b5, b6, b7, b8, b9, b10, b11, b12, b13, kstate⟩ := k21 j hj
  refine ⟨b1.trans a1, b2.trans a2, b3.trans a3, b4.trans a4, b5.trans a5, b6.trans a6, b7.trans a7, b8.trans a8,
    b9.trans a9, b10.trans a10, b11.trans a11, b12.trans a12, b13.trans a13, ?_⟩
  rcases kstate with kstate | ⟨kcueing, kcued⟩
  · rw [kstate]
    exact hstate
  · rcases hstate with hstate | ⟨-, hcued⟩
    · exact .inr ⟨hstate.symm.trans kcueing, kcued⟩
    · rw [kcueing] at hcued
      cases hcued

/-- The clock moves on, the sound with it (R171). -/
theorem LaneFrame.clockTo (s : State) (t : Instant) (l : LaneId) : LaneFrame s (s.clockTo t) l := by
  refine ⟨rfl, rfl, rfl, rfl, rfl, rfl, rfl, rfl, rfl, rfl, rfl, rfl, rfl, rfl, rfl, rfl, rfl, rfl, rfl, rfl,
    fun k _ => ?_⟩
  rw [State.clockTo_lane_pl, State.clockTo_lane_ftm, State.clockTo_lane_map]
  exact ⟨rfl, rfl, rfl, rfl, rfl, rfl, rfl, rfl, rfl, rfl, rfl, rfl, rfl, .inl rfl⟩

/-! ### Hidden cues (R155) -/

/-- A loss or a gap hides each slot that is not hidden (R155). -/
theorem hideSlot_eq : hideSlot = slotwise (fun _ a => a.map fun a => { a with hidden := true })
    (fun k a => a.bind fun a => if a.hidden then none else some (.hide k.val)) := by
  funext o i
  unfold hideSlot
  cases ha : o.1.active.get i with
  | none =>
    refine (CueEngine.slotwise_none _ _ o i ?_ ?_).symm <;> rw [ha] <;> rfl
  | some a =>
    dsimp only
    by_cases hhidden : a.hidden = true
    · rw [if_pos hhidden]
      refine (CueEngine.slotwise_none _ _ o i ?_ ?_).symm <;> rw [ha]
      · cases a
        simp_all
      · simp [hhidden]
    · rw [if_neg hhidden, slotwise, ha]
      simp [hhidden]

/-- What a loss or a gap does to the engine (R155). -/
theorem CueEngine.paused_hides (e : CueEngine) {cause : PauseCause} (h : cause = .pulseLost ∨ cause = .gap) :
    e.paused cause =
      ({ e with active := Quad.ofFn fun k => (e.active.get k).map fun a => { a with hidden := true } },
        e.slotCommands fun k a => if a.hidden then none else some (.hide k.val)) := by
  have hfold : e.paused cause = fours.foldl hideSlot (e, []) := by
    rcases h with rfl | rfl <;> rfl
  rw [hfold, hideSlot_eq, slotwise_fours]
  rfl

/-! ### The loss timer's expiry (R112, R113) -/

/-- A monitor whose loss timer has expired, its open gate cut off (R112, R123). -/
def Monitor.lost (m : Monitor) (now : Instant) : Monitor :=
  { m with lossTimer := none, lossFresh := false, absent := true, lossExpiries := satInc top16 m.lossExpiries
           gate := m.gate.cut .noPulses now }

theorem Gate.cut_opened {g : Gate} (r : GateResult) (now : Instant) (h : g.state = .opened) : g.cut r now = g.abort r now :=
  if_pos h

theorem Gate.cut_closed {g : Gate} (r : GateResult) (now : Instant) (h : g.state ≠ .opened) : g.cut r now = g :=
  if_neg h

/-- A gate cut off once is not cut off again. -/
theorem Gate.cut_cut (g : Gate) (r q : GateResult) (now : Instant) : (g.cut r now).cut q now = g.cut r now :=
  Gate.cut_closed q now (g.cut_not_opened r now)

theorem Monitor.unwatched_gate (m : Monitor) {g : Gate} (r q : GateResult) (now : Instant) (h : m.gate = g.cut r now) :
    (m.unwatched q now).gate = g.cut r now := by
  unfold Monitor.unwatched
  dsimp only
  rw [h]
  split
  · rw [Gate.cut_cut]
  · rfl

namespace State

variable {s u : State} {l : LaneId}

/-- The monitor's part of a loss (R112, R123). -/
def lossMarked (s : State) (l : LaneId) : State :=
  (s.modFtm l (fun m =>
    { m with lossTimer := none, lossFresh := false, absent := true,
             lossExpiries := satInc top16 m.lossExpiries })).abortGate l .noPulses

theorem lossMarked_own (s : State) (l : LaneId) :
    (s.lossMarked l).lane l = { s.lane l with ftm := (s.lane l).ftm.lost s.clock.now } := by
  unfold State.lossMarked
  rw [abortGate_own, lane_modFtm_same]
  rfl

theorem Silent.lossMarked (s : State) (l : LaneId) : s.Silent l (s.lossMarked l) :=
  (Silent.modFtm s l _).trans (.abortGate _ l .noPulses)

theorem lossExpiry_starting (h : (s.lane l).pl.state = .starting) :
    s.lossExpiry l = (s.lossMarked l).failCheck l .noPulses := by
  have hstate : ((s.lossMarked l).lane l).pl.state = .starting := by
    rw [lossMarked_own]
    exact h
  unfold State.lossMarked at *
  unfold State.lossExpiry
  dsimp only
  rw [hstate]

theorem lossExpiry_playing (h : (s.lane l).pl.state = .playing) :
    s.lossExpiry l = ((s.lossMarked l).enterPaused l .pulseLost).laneFault l .pulseLost := by
  have hstate : ((s.lossMarked l).lane l).pl.state = .playing := by
    rw [lossMarked_own]
    exact h
  unfold State.lossMarked at *
  unfold State.lossExpiry
  dsimp only
  rw [hstate]

theorem lossExpiry_resting (h : (s.lane l).pl.state ≠ .starting) (h' : (s.lane l).pl.state ≠ .playing) :
    s.lossExpiry l = s.lossMarked l := by
  have hstate : ((s.lossMarked l).lane l).pl.state = (s.lane l).pl.state := by rw [lossMarked_own]
  rw [← hstate] at h h'
  unfold State.lossMarked at *
  unfold State.lossExpiry
  dsimp only
  split
  · rename_i hs
    exact absurd hs h
  · rename_i hs
    exact absurd hs h'
  all_goals rfl

theorem Within.lossExpiry (s : State) (l : LaneId) : s.Within l (s.lossExpiry l) := by
  by_cases hstarting : (s.lane l).pl.state = .starting
  · rw [lossExpiry_starting hstarting]
    exact ((Silent.lossMarked s l).trans (.failCheck _ l _)).toWithin
  · by_cases hplaying : (s.lane l).pl.state = .playing
    · rw [lossExpiry_playing hplaying]
      exact ((Silent.lossMarked s l).toWithin.trans (.enterPaused _ l _)).trans (Silent.laneFault _ l _).toWithin
    · rw [lossExpiry_resting hstarting hplaying]
      exact (Silent.lossMarked s l).toWithin

theorem failCheck_own (s : State) (l : LaneId) (x : LaneFault) :
    (s.failCheck l x).lane l = { s.lane l with pl := { (s.lane l).pl with state := .cued, fault := some x } } := by
  unfold State.failCheck
  rw [laneFault_own, lane_modPl_same]

theorem lossExpiry_starting_own (h : (s.lane l).pl.state = .starting) : (s.lossExpiry l).lane l = { s.lane l with
    ftm := (s.lane l).ftm.lost s.clock.now
    pl := { (s.lane l).pl with state := .cued, fault := some .noPulses } } := by
  rw [lossExpiry_starting h, failCheck_own, lossMarked_own]

theorem lossExpiry_playing_own (h : (s.lane l).pl.state = .playing) : (s.lossExpiry l).lane l =
    { pl := { (s.lane l).pl with state := .paused, pause := some .pulseLost, fault := some .pulseLost }
      ftm := ((s.lane l).ftm.lost s.clock.now).unwatched .noPulses s.clock.now
      sce := ((s.lane l).sce.paused .pulseLost).1
      sne := ((s.lossExpiry l).lane l).sne } := by
  have hown := ((s.lossMarked l).enterPaused_own l .pulseLost).1
  rw [lossMarked_own] at hown
  rw [lossExpiry_playing h, laneFault_own]
  conv_lhs => rw [hown, (Silent.lossMarked s l).clock]
  rfl

theorem lossExpiry_resting_own (h : (s.lane l).pl.state ≠ .starting) (h' : (s.lane l).pl.state ≠ .playing) :
    (s.lossExpiry l).lane l = { s.lane l with ftm := (s.lane l).ftm.lost s.clock.now } := by
  rw [lossExpiry_resting h h', lossMarked_own]

/-- The monitor behind an expiry (R112, R123). -/
theorem lossExpiry_ftm (s : State) (l : LaneId) : ((s.lossExpiry l).lane l).ftm.lossTimer = none
    ∧ ((s.lossExpiry l).lane l).ftm.absent = true
    ∧ ((s.lossExpiry l).lane l).ftm.lossExpiries = satInc top16 (s.lane l).ftm.lossExpiries
    ∧ ((s.lossExpiry l).lane l).ftm.gate = (s.lane l).ftm.gate.cut .noPulses s.clock.now := by
  by_cases hstarting : (s.lane l).pl.state = .starting
  · rw [lossExpiry_starting_own hstarting]
    exact ⟨rfl, rfl, rfl, rfl⟩
  · by_cases hplaying : (s.lane l).pl.state = .playing
    · rw [lossExpiry_playing_own hplaying]
      exact ⟨rfl, rfl, rfl, Monitor.unwatched_gate _ _ _ _ rfl⟩
    · rw [lossExpiry_resting_own hstarting hplaying]
      exact ⟨rfl, rfl, rfl, rfl⟩

theorem Sends.lossExpiry_playing (h : (s.lane l).pl.state = .playing) :
    s.Sends (s.lossExpiry l) (s.onOwn l ((s.lane l).sce.paused .pulseLost).2) := by
  have hmarked := Silent.lossMarked s l
  have hsent := Sends.enterPaused (s.lossMarked l) l .pulseLost
  have hscreen : ∀ k, ((s.lossMarked l).lane k).pl.screen = (s.lane k).pl.screen := fun k => by
    by_cases hk : k = l
    · rw [hk, lossMarked_own]
    · rw [hmarked.others k hk]
  rw [onOwn_congr hmarked.held hscreen, lossMarked_own] at hsent
  rw [State.lossExpiry_playing h]
  exact (Sends.none_then hmarked.sends hsent).then_none (Silent.laneFault _ l _).sends

theorem Silent.lossExpiry (h : (s.lane l).pl.state ≠ .playing) : s.Silent l (s.lossExpiry l) := by
  by_cases hstarting : (s.lane l).pl.state = .starting
  · rw [lossExpiry_starting hstarting]
    exact (Silent.lossMarked s l).trans (.failCheck _ l _)
  · rw [lossExpiry_resting hstarting h]
    exact .lossMarked s l

/-! ### What fell due (R112) -/

/-- The lanes' overdue expiries: one lane's is its own, behind the lanes before it. -/
theorem lossFold_lane (ls : List LaneId) (hls : ls.Nodup) (s : State) (l : LaneId) :
    ∃ w : State, w.lane l = s.lane l ∧ (ls.foldl (fun s l => if (s.lane l).lossDue then s.lossExpiry l else s) s).lane l
      = if l ∈ ls ∧ (s.lane l).lossDue = true then (w.lossExpiry l).lane l else s.lane l := by
  induction ls generalizing s with
  | nil => exact ⟨s, rfl, (if_neg fun h => absurd h.1 List.not_mem_nil).symm⟩
  | cons k rest ih =>
    obtain ⟨hnot, hrest⟩ := List.nodup_cons.mp hls
    obtain ⟨w, hw, hfold⟩ := ih hrest (if (s.lane k).lossDue then s.lossExpiry k else s)
    rw [List.foldl_cons, hfold]
    by_cases hk : l = k
    · refine ⟨s, rfl, ?_⟩
      rw [if_neg fun h => hnot (hk ▸ h.1), hk]
      split
      · rename_i hdue
        rw [if_pos ⟨List.mem_cons_self, hdue⟩]
      · rename_i hdue
        rw [if_neg fun h => hdue h.2]
    · have hsame : (if (s.lane k).lossDue then s.lossExpiry k else s).lane l = s.lane l := by
        split
        · exact (Within.lossExpiry s k).others l hk
        · rfl
      rw [hsame] at hw hfold ⊢
      refine ⟨w, hw, ?_⟩
      have hmem : l ∈ k :: rest ↔ l ∈ rest := by simp [hk]
      simp only [hmem]

theorem boothSecond_lanes (s : State) : s.boothSecond.lanes = s.lanes := by
  unfold State.boothSecond State.setBooth State.expireLicences
  dsimp only
  split
  · rfl
  · split
    · split <;> rfl
    · rfl

theorem expireTickets_lanes (s : State) : s.expireTickets.lanes = s.lanes := by
  unfold State.expireTickets
  dsimp only
  split <;> rfl

/-- What was overdue leaves of a lane its expiry, if it stood (R112). -/
theorem takeOverdue_lane (s : State) (l : LaneId) : ∃ w : State, w.lane l = s.lane l
    ∧ s.takeOverdue.lane l = if (s.lane l).lossDue then (w.lossExpiry l).lane l else s.lane l := by
  have hsecond : (if s.clock.secondDue then s.boothSecond else s).lane l = s.lane l := by
    split
    · rw [State.lane, boothSecond_lanes, State.lane]
    · rfl
  obtain ⟨w, hw, hfold⟩ := lossFold_lane fours (by decide) (if s.clock.secondDue then s.boothSecond else s) l
  rw [hsecond] at hw hfold
  simp only [mem_fours, true_and] at hfold
  refine ⟨w, hw, ?_⟩
  have htickets : ∀ x : State, (if x.ticketDue then x.expireTickets else x).lane l = x.lane l := by
    intro x
    split
    · rw [State.lane, expireTickets_lanes, State.lane]
    · rfl
  exact (htickets _).trans hfold

/-! ### Gate overflow (R120, R125, R127) -/

theorem modGate_own (s : State) (l : LaneId) (f : Gate → Gate) :
    (s.modGate l f).lane l = { s.lane l with ftm := { (s.lane l).ftm with gate := f (s.lane l).ftm.gate } } :=
  lane_modFtm_same s l fun m => { m with gate := f m.gate }

/-- A gate that has overflowed (R120). -/
def overflowed (s : State) (l : LaneId) : State := s.modGate l fun g => g.doneWith .overflow gateTop

theorem gateOverflow_host (h : (s.lane l).ftm.gate.owner = .host) :
    s.gateOverflow l = (s.overflowed l).raiseLane l srcGate := by
  unfold State.gateOverflow
  dsimp only
  rw [h]
  exact if_pos rfl

theorem gateOverflow_check (h : (s.lane l).ftm.gate.owner = .check) :
    s.gateOverflow l = (s.overflowed l).failCheck l .rateMismatch := by
  unfold State.gateOverflow
  dsimp only
  rw [h]
  rfl

theorem gateOverflow_watch (h : (s.lane l).ftm.gate.owner = .watch) : s.gateOverflow l
    = ((s.overflowed l).verdictOf l true).modGate l fun _ => Gate.start .watch (some 32) := by
  unfold State.gateOverflow
  dsimp only
  rw [h]
  rfl

theorem Silent.overflowed (s : State) (l : LaneId) : s.Silent l (s.overflowed l) :=
  .modFtm s l fun m => { m with gate := m.gate.doneWith .overflow gateTop }

theorem Silent.gateOverflow (s : State) (l : LaneId) : s.Silent l (s.gateOverflow l) := by
  cases howner : (s.lane l).ftm.gate.owner with
  | host =>
    rw [gateOverflow_host howner]
    exact (Silent.overflowed s l).trans (.raiseLane _ l l _)
  | check =>
    rw [gateOverflow_check howner]
    exact (Silent.overflowed s l).trans (.failCheck _ l _)
  | watch =>
    rw [gateOverflow_watch howner]
    exact ((Silent.overflowed s l).trans (.verdictOf _ l _)).trans (.modFtm _ l _)

theorem verdictOf_own (s : State) (l : LaneId) (out : Bool) : (s.verdictOf l out).lane l = { s.lane l with
    ftm := { (s.lane l).ftm with watchGates := satInc top32 (s.lane l).ftm.watchGates, rateOut := out } } := by
  unfold State.verdictOf
  dsimp only
  split
  · exact lane_modFtm_same s l _
  · exact lane_modFtm_same s l fun m => { m with watchGates := satInc top32 m.watchGates, rateOut := out }

/-! ### A monitor's timed event -/

/-- A timed event that is due by its monitor, before and behind what was overdue, is taken at its instant. -/
theorem atInstant_eq {s v : State} {l : LaneId} {due : Monitor → Option Instant} {i : Instant} (k : State → State)
    (hpin : s.pin = false) (hdue : due (s.lane l).ftm = some i) (hhorizon : i ≤ s.horizon) (hv : v = s.caughtUp i)
    (hstill : due (v.lane l).ftm = some i) :
    atInstant s l due k = .next (k (v.clockTo (max v.clock.now i))).settle := by
  subst hv
  unfold atInstant
  rw [live_eq _ hpin, hdue]
  dsimp only
  rw [if_pos ⟨hhorizon, hstill⟩]

/-! ### The loss timers at a base tick (R112) -/

theorem lossTick_ftm (s : State) (l : LaneId) : (s.lossTick.lane l).ftm = (s.lane l).ftm.lossTick := by
  have hfold : ∀ (ls : List LaneId) (u : State), ls.Nodup →
      ((ls.foldl (fun s l => s.modFtm l Monitor.lossTick) u).lane l).ftm
        = if l ∈ ls then (u.lane l).ftm.lossTick else (u.lane l).ftm := by
    intro ls
    induction ls with
    | nil => exact fun u _ => (if_neg List.not_mem_nil).symm
    | cons k rest ih =>
      intro u hls
      obtain ⟨hnot, hrest⟩ := List.nodup_cons.mp hls
      rw [List.foldl_cons, ih _ hrest, lane_modFtm]
      by_cases hk : l = k
      · rw [if_pos hk, hk, if_neg hnot, if_pos List.mem_cons_self]
      · have hmem : l ∈ k :: rest ↔ l ∈ rest := by simp [hk]
        simp only [if_neg hk, hmem]
  exact (hfold fours s (by decide)).trans (if_pos (mem_fours l))

/-- A base tick counts in each monitor's loss timer and does no more to it (R112). -/
theorem baseTick_ftm (s : State) (l : LaneId) : (s.baseTick.lane l).ftm = (s.lane l).ftm.lossTick := by
  rw [lane_baseTick]
  unfold State.tickEnded
  rw [lossTick_ftm, (Steady.closeTicks (s.produceTo (48 * (s.clock.ticks + 1)))).ftm, lane_produceTo, Lane.samples_ftm]

end State

/-! ### The rows -/

theorem exec_pulseLossExpiry {s : State} {l : LaneId} (hpin : s.pin = false) (hdue : (s.lane l).lossDue = true) :
    exec (.pulseLossExpiry l) s = .next (s.lossExpiry l).settle := by
  have hexec : exec (.pulseLossExpiry l) s = execPulseLossExpiry l s := rfl
  rw [hexec, execPulseLossExpiry, live_eq _ hpin, if_pos hdue]

/-- PULSE_LOSS_EXPIRY by the lane's state (R112, R113, R123, R155). -/
theorem lossExpiry_settled {s : State} {l : LaneId} :
    LaneFrame s (s.lossExpiry l).settle l ∧ (s.lossExpiry l).settle.held = s.held
      ∧ ((s.lossExpiry l).settle.lane l).ftm.lossTimer = none ∧ ((s.lossExpiry l).settle.lane l).ftm.absent = true
      ∧ ((s.lossExpiry l).settle.lane l).ftm.lossExpiries = satInc top16 (s.lane l).ftm.lossExpiries
      ∧ ((s.lane l).ftm.gate.state = .opened → ((s.lossExpiry l).settle.lane l).ftm.gate.state = .aborted
        ∧ ((s.lossExpiry l).settle.lane l).ftm.gate.result = some .noPulses) := by
  obtain ⟨htimer, habsent, hcount, hgate⟩ := s.lossExpiry_ftm l
  have hwithin := State.Within.lossExpiry s l
  refine ⟨hwithin.toBeside.settle, (State.settle_held _).trans hwithin.held, ?_⟩
  rw [State.settle_ftm]
  refine ⟨htimer, habsent, hcount, fun hopen => ?_⟩
  rw [hgate, Gate.cut_opened _ _ hopen]
  exact ⟨rfl, rfl⟩

/-- A lane that is not PLAYING shows its cues on, and sends nothing, at an expiry. -/
theorem lossExpiry_sce {s : State} {l : LaneId} (h : (s.lane l).pl.state ≠ .playing) :
    ((s.lossExpiry l).lane l).sce = (s.lane l).sce := by
  by_cases hstarting : (s.lane l).pl.state = .starting
  · rw [State.lossExpiry_starting_own hstarting]
  · rw [State.lossExpiry_resting_own hstarting h]

/-- GATE_OVERFLOW at its instant (R120). -/
theorem exec_gateOverflow {s v : State} {l : LaneId} {i : Instant} (hpin : s.pin = false)
    (hdue : (s.lane l).ftm.overflowAt = some i) (hhorizon : i ≤ s.horizon) (hv : v = s.caughtUp i)
    (hstill : (v.lane l).ftm.overflowAt = some i) :
    exec (.gateOverflow l) s = .next ((v.clockTo (max v.clock.now i)).gateOverflow l).settle := by
  have hexec : exec (.gateOverflow l) s = atInstant s l Monitor.overflowAt fun s => s.gateOverflow l := rfl
  rw [hexec]
  exact State.atInstant_eq _ hpin hdue hhorizon hv hstill

/-- The overflow by the gate's owner (R120, R125, R127). -/
theorem gateOverflow_settled {v w : State} {l : LaneId} (hw : LaneFrame v w l) (hheld : w.held = v.held)
    (hftm : (w.lane l).ftm = (v.lane l).ftm) :
    LaneFrame v (w.gateOverflow l).settle l ∧ (w.gateOverflow l).settle.held = v.held
      ∧ ((v.lane l).ftm.gate.owner ≠ .watch → ((w.gateOverflow l).settle.lane l).ftm.gate.state = .done
        ∧ ((w.gateOverflow l).settle.lane l).ftm.gate.result = some .overflow
        ∧ ((w.gateOverflow l).settle.lane l).ftm.gate.count = 16777215
        ∧ ((w.gateOverflow l).settle.lane l).ftm.gate.pulses = (v.lane l).ftm.gate.pulses)
      ∧ ((v.lane l).ftm.gate.owner = .host →
        (w.gateOverflow l).settle.ntu.raised.getLsbD (laneSource l srcGate) = true)
      ∧ ((v.lane l).ftm.gate.owner = .check → ((w.gateOverflow l).settle.lane l).pl.state = .cued
        ∧ ((w.gateOverflow l).settle.lane l).pl.fault = some .rateMismatch)
      ∧ ((v.lane l).ftm.gate.owner = .watch → ((w.gateOverflow l).settle.lane l).ftm.rateOut = true
        ∧ ((w.gateOverflow l).settle.lane l).ftm.gate = Gate.start .watch (some 32)) := by
  have hwithin := (State.Silent.gateOverflow w l).toWithin
  have hover : (w.overflowed l).lane l = _ := State.modGate_own w l _
  refine ⟨hw.trans hwithin.toBeside.settle, (State.settle_held _).trans (hwithin.held.trans hheld), ?_⟩
  rw [← hftm, State.settle_ftm, State.settle_fault]
  refine ⟨fun howner => ?_, fun howner => ?_, fun howner => ?_, fun howner => ?_⟩
  · cases hown : (w.lane l).ftm.gate.owner with
    | host =>
      rw [State.gateOverflow_host hown, State.raiseLane, State.lane_raise, hover]
      exact ⟨rfl, rfl, rfl, rfl⟩
    | check =>
      rw [State.gateOverflow_check hown, State.failCheck_own, hover]
      exact ⟨rfl, rfl, rfl, rfl⟩
    | watch => exact absurd hown howner
  · rw [State.gateOverflow_host howner]
    exact State.settle_raised (State.raiseLane_raised _ l (by decide))
  · rw [State.gateOverflow_check howner, State.failCheck_own]
    refine ⟨?_, rfl⟩
    have hcued : (((w.overflowed l).failCheck l .rateMismatch).lane l).pl.state = .cued := by
      rw [State.failCheck_own]
    have hkept := State.settle_state_eq (s := (w.overflowed l).failCheck l .rateMismatch) (l := l)
      (by rw [hcued]; exact nofun)
    exact hkept.trans hcued
  · rw [State.gateOverflow_watch howner, State.modGate_own, State.verdictOf_own]
    exact ⟨rfl, rfl⟩

/-- Settles O49: the expiry by the lane's state, what was overdue, the count of base ticks and the overflow. -/
theorem monitorTimesOut : Obligations.MonitorTimesOut := by
  refine ⟨fun s l hpin hdue => ?_, fun s l t hdue hbehind => ?_, fun s u w l m hpin hw hm hexec => ?_,
    fun s v l i hpin hdue hhorizon hv hstill => ?_⟩
  · obtain ⟨hframe, hheld, htimer, habsent, hcount, hgate⟩ := lossExpiry_settled (s := s) (l := l)
    have hsce := (s.lossExpiry l).settle_sce l
    have hsent := State.Sends.settle (s.lossExpiry l)
    refine ⟨_, exec_pulseLossExpiry hpin hdue, hframe, hheld, htimer, habsent, hcount, hgate, fun hplaying => ?_,
      fun hnot => ?_, fun hstarting => ?_, fun hrest => ?_⟩
    · have hown := State.lossExpiry_playing_own hplaying
      have hpl : ((s.lossExpiry l).lane l).pl = { (s.lane l).pl with
          state := .paused, pause := some .pulseLost, fault := some .pulseLost } := by rw [hown]
      have hcues : ((s.lossExpiry l).lane l).sce = ((s.lane l).sce.paused .pulseLost).1 := by rw [hown]
      have hscreen := (State.Sends.lossExpiry_playing hplaying).then_none hsent
      rw [hcues, CueEngine.paused_hides _ (.inl rfl)] at hsce
      rw [CueEngine.paused_hides _ (.inl rfl)] at hscreen
      rw [State.settle_state_eq (s := s.lossExpiry l) (l := l) (by rw [hpl]; exact nofun), State.settle_pause, State.settle_fault, hpl, hsce]
      exact ⟨rfl, rfl, rfl, fun k => Quad.get_ofFn _ k, hscreen⟩
    · rw [hsce, lossExpiry_sce hnot]
      exact ⟨rfl, (State.Silent.lossExpiry hnot).sends.then_none hsent⟩
    · have hpl : ((s.lossExpiry l).lane l).pl = { (s.lane l).pl with state := .cued, fault := some .noPulses } := by
        rw [State.lossExpiry_starting_own hstarting]
      rw [State.settle_state_eq (s := s.lossExpiry l) (l := l) (by rw [hpl]; exact nofun), State.settle_fault, hpl]
      exact ⟨rfl, rfl⟩
    · have hnot : (s.lane l).pl.state ≠ .starting ∧ (s.lane l).pl.state ≠ .playing ∧ (s.lane l).pl.state ≠ .cueing := by
        rcases hrest with h | h | h | h <;> rw [h] <;> exact ⟨nofun, nofun, nofun⟩
      obtain ⟨hstarting, hplaying, hcueing⟩ := hnot
      have hpl : ((s.lossExpiry l).lane l).pl = (s.lane l).pl := by
        rw [State.lossExpiry_resting_own hstarting hplaying]
      rw [State.settle_state_eq (s := s.lossExpiry l) (l := l) (by rw [hpl]; exact hcueing), State.settle_fault, hpl]
      exact ⟨rfl, rfl⟩
  · obtain ⟨w, hw, htaken⟩ := s.takeOverdue_lane l
    rw [if_pos hdue] at htaken
    obtain ⟨htimer, habsent, hcount, -⟩ := w.lossExpiry_ftm l
    have hcaught : s.takeAt t = s.takeOverdue.clockTo (s.takenAt t) := by
      unfold State.takeAt State.caughtUp
      rw [if_pos hbehind]
    rw [hcaught, State.clockTo_lane_ftm, State.clockTo_lane_pl, htaken]
    refine ⟨htimer, habsent, hcount.trans (by rw [hw]), fun hplaying => ?_, fun hstarting => ?_⟩
    · rw [State.lossExpiry_playing_own (by rw [hw]; exact hplaying)]
      exact ⟨rfl, rfl, rfl⟩
    · rw [State.lossExpiry_starting_own (by rw [hw]; exact hstarting)]
      exact ⟨rfl, rfl⟩
  · have hnext : exec .baseTick s = .next (s.takeOverdue.takeTimed 8).baseTick.settle := live_eq _ hpin
    obtain rfl := State.next_inj (hexec.symm.trans hnext)
    rw [State.settle_ftm, State.baseTick_ftm, ← hw, ← hm]
    rfl
  · refine ⟨_, exec_gateOverflow hpin hdue hhorizon hv hstill, ?_⟩
    exact gateOverflow_settled (.clockTo v _ l) rfl (State.clockTo_lane_ftm v _ l)

end Sys2Proof.Machine
end

section
/-! PROOF. SET_LANE: one setting, and what it does to the monitor (R106, R112, R115, R126, R127). -/

namespace Sys2Proof.Machine

open Sys2Proof

/-! ### The divider and the rate watch -/

/-- A gate behind a setting of the divider: an open one is cut off, a watch gate followed by a new one (R115, R126). -/
def Gate.redivided (g : Gate) (now : Instant) : Gate :=
  if g.state ≠ .opened then g else if g.owner = .watch then Gate.start .watch (some 32) else g.abort .aborted now

/-- A lane's playout behind a setting of the divider: an open check gate ends STARTING (R115). -/
def Playout.redivided (p : Playout) (g : Gate) : Playout :=
  if g.state = .opened ∧ g.owner = .check then { p with state := .cued, fault := some .rateMismatch } else p

theorem Gate.redivided_closed {g : Gate} (now : Instant) (h : g.state ≠ .opened) : g.redivided now = g := if_pos h

theorem Gate.redivided_watch {g : Gate} (now : Instant) (h : g.state = .opened) (howner : g.owner = .watch) :
    g.redivided now = Gate.start .watch (some 32) := (if_neg (not_not_intro h)).trans (if_pos howner)

theorem Gate.redivided_cut {g : Gate} (now : Instant) (h : g.state = .opened) (howner : g.owner ≠ .watch) :
    g.redivided now = g.abort .aborted now := (if_neg (not_not_intro h)).trans (if_neg howner)

theorem Playout.redivided_check {p : Playout} {g : Gate} (h : g.state = .opened) (howner : g.owner = .check) :
    p.redivided g = { p with state := .cued, fault := some .rateMismatch } := if_pos ⟨h, howner⟩

theorem Playout.redivided_kept {p : Playout} {g : Gate} (h : ¬ (g.state = .opened ∧ g.owner = .check)) :
    p.redivided g = p := if_neg h

theorem Monitor.unwatched_eq (m : Monitor) (r : GateResult) (now : Instant) : m.unwatched r now = { m with
    watch := false
    gate := if m.watch = true ∧ m.gate.owner = .watch ∧ m.gate.state = .opened then m.gate.abort r now else m.gate } := by
  unfold Monitor.unwatched Gate.cut
  simp only [← ite_and, and_assoc]

namespace State

variable {s : State} {l : LaneId}

theorem laneFault_raised (s : State) (l : LaneId) (x : LaneFault) :
    (s.laneFault l x).ntu.raised.getLsbD (laneSource l srcLaneFault) = true := raiseLane_raised _ l (by decide)

theorem setDivider_closed (h : (s.lane l).ftm.gate.state ≠ .opened) :
    s.setDivider l = s.modFtm l fun m => { m with phase := 0 } := by
  unfold State.setDivider State.abortGate
  dsimp only
  rw [if_neg h, if_neg h]

/-- An open gate aborted and the phase cleared. -/
def dividerAborted (s : State) (l : LaneId) : State :=
  (s.abortGate l .aborted).modFtm l fun m => { m with phase := 0 }

theorem setDivider_host (h : (s.lane l).ftm.gate.state = .opened) (howner : (s.lane l).ftm.gate.owner = .host) :
    s.setDivider l = s.dividerAborted l := by
  unfold State.setDivider State.dividerAborted
  dsimp only
  rw [if_pos h, howner]

theorem setDivider_check (h : (s.lane l).ftm.gate.state = .opened) (howner : (s.lane l).ftm.gate.owner = .check) :
    s.setDivider l = (s.dividerAborted l).failCheck l .rateMismatch := by
  unfold State.setDivider State.dividerAborted
  dsimp only
  rw [if_pos h, howner]

theorem setDivider_watch (h : (s.lane l).ftm.gate.state = .opened) (howner : (s.lane l).ftm.gate.owner = .watch) :
    s.setDivider l = (s.dividerAborted l).modGate l fun _ => Gate.start .watch (some 32) := by
  unfold State.setDivider State.dividerAborted
  dsimp only
  rw [if_pos h, howner]

theorem setDivider_own (s : State) (l : LaneId) : (s.setDivider l).lane l = { s.lane l with
    ftm := { (s.lane l).ftm with phase := 0, gate := (s.lane l).ftm.gate.redivided s.clock.now }
    pl := (s.lane l).pl.redivided (s.lane l).ftm.gate } := by
  by_cases hopen : (s.lane l).ftm.gate.state = .opened
  · have habort : (s.dividerAborted l).lane l = { s.lane l with
        ftm := { (s.lane l).ftm with phase := 0, gate := (s.lane l).ftm.gate.abort .aborted s.clock.now } } := by
      rw [dividerAborted, lane_modFtm_same, abortGate_own, Gate.cut, if_pos hopen]
    cases howner : (s.lane l).ftm.gate.owner with
    | host =>
      rw [setDivider_host hopen howner, habort, Gate.redivided_cut _ hopen (by rw [howner]; exact nofun),
        Playout.redivided_kept (by rw [howner]; exact nofun ∘ And.right)]
    | check =>
      rw [setDivider_check hopen howner, failCheck_own, habort, Gate.redivided_cut _ hopen (by rw [howner]; exact nofun),
        Playout.redivided_check hopen howner]
    | watch =>
      rw [setDivider_watch hopen howner, modGate_own, habort, Gate.redivided_watch _ hopen howner,
        Playout.redivided_kept (by rw [howner]; exact nofun ∘ And.right)]
  · rw [setDivider_closed hopen, lane_modFtm_same, Gate.redivided_closed _ hopen, Playout.redivided_kept (hopen ∘ And.left)]

theorem setDivider_host_raised (h : (s.lane l).ftm.gate.state = .opened) (howner : (s.lane l).ftm.gate.owner = .host) :
    (s.setDivider l).ntu.raised.getLsbD (laneSource l srcGate) = true := by
  rw [setDivider_host h howner]
  exact abortGate_raised _ h howner

theorem setDivider_check_raised (h : (s.lane l).ftm.gate.state = .opened) (howner : (s.lane l).ftm.gate.owner = .check) :
    (s.setDivider l).ntu.raised.getLsbD (laneSource l srcLaneFault) = true := by
  rw [setDivider_check h howner]
  exact laneFault_raised _ l _

theorem setWatch_on (s : State) (l : LaneId) : (s.setWatch l true).lane l = { s.lane l with
    ftm := if (s.lane l).pl.state = .playing ∧ (s.lane l).ftm.watch = false then
        { (s.lane l).ftm with watch := true, gate := Gate.start .watch (some 32) } else (s.lane l).ftm } := by
  unfold State.setWatch
  dsimp only
  rw [if_pos rfl]
  split
  · exact beginWatch_own s l
  · rfl

theorem setWatch_on_raised (hstate : (s.lane l).pl.state = .playing) (hwatch : (s.lane l).ftm.watch = false)
    (h : (s.lane l).ftm.gate.state = .opened) (howner : (s.lane l).ftm.gate.owner = .host) :
    (s.setWatch l true).ntu.raised.getLsbD (laneSource l srcGate) = true := by
  unfold State.setWatch
  dsimp only
  rw [if_pos rfl, if_pos ⟨hstate, hwatch⟩]
  exact abortGate_raised _ h howner

theorem setWatch_off_eq (s : State) (l : LaneId) : s.setWatch l false = if (s.lane l).ftm.rateOut then
      ((s.endWatch l .aborted).modFtm l fun m => { m with rateOut := false }).raiseLane l srcRateWarn
    else s.endWatch l .aborted := by
  unfold State.setWatch
  dsimp only
  rw [if_neg nofun]

theorem setWatch_off (s : State) (l : LaneId) : (s.setWatch l false).lane l = { s.lane l with
    ftm := { (s.lane l).ftm.unwatched .aborted s.clock.now with rateOut := false } } := by
  rw [setWatch_off_eq]
  split
  · rw [State.raiseLane, lane_raise, lane_modFtm_same, endWatch_own]
  · rename_i hout
    have hrate : (s.lane l).ftm.rateOut = false := Bool.eq_false_of_not_eq_true hout
    rw [endWatch_own]
    unfold Monitor.unwatched
    rw [hrate]

theorem setWatch_off_raised (h : (s.lane l).ftm.rateOut = true) :
    (s.setWatch l false).ntu.raised.getLsbD (laneSource l srcRateWarn) = true := by
  rw [setWatch_off_eq, if_pos h]
  exact raiseLane_raised _ l (by decide)

/-! ### The settings -/

/-- What a setting does behind its own value, by its code (R112, R115, R126). -/
def settingActs (s : State) (l : LaneId) (code : Nat) : State :=
  if code = 6 then s.setDivider l
  else if code = 9 then s.setWatch l (s.lane l).pl.set.rateWatch
  else if code = 10 ∧ (s.lane l).lossDue = true then s.lossExpiry l
  else s

theorem settingActs_divider (s : State) (l : LaneId) : s.settingActs l 6 = s.setDivider l := if_pos rfl

theorem settingActs_watch (s : State) (l : LaneId) : s.settingActs l 9 = s.setWatch l (s.lane l).pl.set.rateWatch := by
  rw [State.settingActs, if_neg (by omega), if_pos rfl]

theorem settingActs_loss (s : State) (l : LaneId) :
    s.settingActs l 10 = if (s.lane l).lossDue then s.lossExpiry l else s := by
  unfold State.settingActs
  simp

theorem settingActs_none (s : State) (l : LaneId) {code : Nat} (h6 : code ≠ 6) (h9 : code ≠ 9) (h10 : code ≠ 10) :
    s.settingActs l code = s := by
  rw [State.settingActs, if_neg h6, if_neg h9, if_neg (h10 ∘ And.left)]

theorem Within.settingActs (s : State) (l : LaneId) (code : Nat) : s.Within l (s.settingActs l code) :=
  .ite (fun _ => (Silent.setDivider s l).toWithin) fun _ =>
    .ite (fun _ => (Silent.setWatch s l _).toWithin) fun _ => .ite (fun _ => .lossExpiry s l) fun _ => .refl s l

end State

theorem exec_setLane {s v : State} {body : List Byte} {t : Instant} {l : LaneId} (hc : s.Commanded 0x4C body)
    (hlen : body.length = 6) (hl : u8 body 0 = l.val) (hv : v = s.takeAt t) (hfree : (v.lane l).pl.state ≠ .resetting) :
    exec (.setLane t) s = .next (setLane l (u8 body 1) (s32 body 2) v).state.settle :=
  runCommandAt_lane hc hlen hl hv hfree fun body s l => setLane l (u8 body 1) (s32 body 2) s

/-- A setting taken: its value, then what it does by its code. -/
def SettingTaken (l : LaneId) (code : Nat) (val : Int) (v : State) (want : Settings) : Prop :=
  ∃ x f, setLane l code val v = .done x ((v.modSet l f).settingActs l code) ∧ f (v.lane l).pl.set = want

theorem setLane_plain {l : LaneId} {code : Nat} {val : Int} {v : State} {x : Result} {f : Settings → Settings}
    (h : setLane l code val v = .done x (v.modSet l f)) (h6 : code ≠ 6) (h9 : code ≠ 9) (h10 : code ≠ 10) :
    SettingTaken l code val v (f (v.lane l).pl.set) := by
  refine ⟨x, f, ?_, rfl⟩
  rw [h, State.settingActs_none _ _ h6 h9 h10]

theorem setLane_divider {l : LaneId} {val : Int} (v : State) (h : val = 1 ∨ val = 2) :
    SettingTaken l 6 val v { (v.lane l).pl.set with divider := val.toNat } := by
  refine ⟨.applied val, fun x => { x with divider := val.toNat }, ?_, rfl⟩
  exact if_pos h

theorem setLane_rateWatch {l : LaneId} {val : Int} {on : Bool} (v : State) (h : switchOf val = some on) :
    SettingTaken l 9 val v { (v.lane l).pl.set with rateWatch := on } := by
  refine ⟨.applied val, fun x => { x with rateWatch := on }, ?_, rfl⟩
  have hset : setLane l 9 val v = setRateWatch l val v := rfl
  rw [hset, setRateWatch, h, State.settingActs_watch]
  have hon : ((v.modSet l fun x => { x with rateWatch := on }).lane l).pl.set.rateWatch = on := by
    rw [State.modSet, State.lane_modPl_same]
  rw [hon]

theorem setLane_lossTime {l : LaneId} (val : Int) (v : State) :
    SettingTaken l 10 val v { (v.lane l).pl.set with lossTime := (clampInt 100 2000 val).toNat } := by
  refine ⟨.applied (clampInt 100 2000 val), fun x => { x with lossTime := (clampInt 100 2000 val).toNat }, ?_, rfl⟩
  have hset : setLane l 10 val v = setLossTime l val v := rfl
  rw [hset, setLossTime, State.settingActs_loss]

/-- What a setting taken leaves: its value alone among the lane's settings. -/
theorem settingActs_set (w : State) (l : LaneId) (code : Nat) :
    ((w.settingActs l code).lane l).pl.set = (w.lane l).pl.set := by
  unfold State.settingActs
  split
  · rw [State.setDivider_own, Playout.redivided]
    dsimp only
    split <;> rfl
  · split
    · cases (w.lane l).pl.set.rateWatch
      · rw [State.setWatch_off]
      · rw [State.setWatch_on]
    · split
      · by_cases hstarting : (w.lane l).pl.state = .starting
        · rw [State.lossExpiry_starting_own hstarting]
        · by_cases hplaying : (w.lane l).pl.state = .playing
          · rw [State.lossExpiry_playing_own hplaying]
          · rw [State.lossExpiry_resting_own hstarting hplaying]
      · rfl

theorem gapPolicyOf_none {val : Int} (h : val < 0 ∨ 2 < val) : gapPolicyOf val = none := by
  unfold gapPolicyOf
  split
  · omega
  · omega
  · omega
  · rfl

theorem switchOf_none {val : Int} (h0 : val ≠ 0) (h1 : val ≠ 1) : switchOf val = none := by
  unfold switchOf
  split
  · exact absurd rfl h0
  · exact absurd rfl h1
  · rfl

theorem setLane_refused {l : LaneId} {code : Nat} {val : Int} (v : State)
    (h : (code = 0 ∧ (val < 0 ∨ 2 < val)) ∨ (code = 6 ∧ val ≠ 1 ∧ val ≠ 2)
      ∨ ((code = 8 ∨ code = 9) ∧ val ≠ 0 ∧ val ≠ 1) ∨ 10 < code) :
    setLane l code val v = .refused .badValue v := by
  rcases h with ⟨rfl, hval⟩ | ⟨rfl, h1, h2⟩ | ⟨rfl | rfl, h0, h1⟩ | hcode
  · unfold setLane
    rw [gapPolicyOf_none hval]
    rfl
  · exact if_neg (not_or.mpr ⟨h1, h2⟩)
  · unfold setLane
    rw [switchOf_none h0 h1]
    rfl
  · unfold setLane setRateWatch
    rw [switchOf_none h0 h1]
    rfl
  · obtain ⟨k, rfl⟩ := Nat.exists_eq_add_of_lt hcode
    rw [show 10 + k + 1 = k + 11 by omega]
    rfl

/-- Settles O44: each code's value, and what the divider, the watch and the loss time do to the monitor. -/
theorem settingApplied : Obligations.SettingApplied := by
  intro s v body t l hc hlen hl hv hfree
  rw [exec_setLane hc hlen hl hv hfree]
  refine ⟨fun want hwant => ?_, fun hbad => ?_⟩
  · have htaken : SettingTaken l (u8 body 1) (s32 body 2) v want := by
      rcases hwant with ⟨h1, h2, rfl⟩ | ⟨h1, h2, rfl⟩ | ⟨h1, h2, rfl⟩ | ⟨h1, rfl⟩ | ⟨h1, rfl⟩ | ⟨h1, rfl⟩ | ⟨h1, rfl⟩
        | ⟨h1, rfl⟩ | ⟨h1, h2, rfl⟩ | ⟨h1, rfl⟩ | ⟨h1, h2, rfl⟩ | ⟨h1, h2, rfl⟩ | ⟨h1, h2, rfl⟩ | ⟨h1, h2, rfl⟩ | ⟨h1, rfl⟩
      · rw [h1, h2]
        exact setLane_plain (f := fun x => { x with gapPolicy := .holdLast }) rfl (by decide) (by decide) (by decide)
      · rw [h1, h2]
        exact setLane_plain (f := fun x => { x with gapPolicy := .black }) rfl (by decide) (by decide) (by decide)
      · rw [h1, h2]
        exact setLane_plain (f := fun x => { x with gapPolicy := .stop }) rfl (by decide) (by decide) (by decide)
      · rw [h1]
        exact setLane_plain (f := fun x => { x with soundDelay := clampInt (-4800) 4800 (s32 body 2) }) rfl
          (by decide) (by decide) (by decide)
      · rw [h1]
        exact setLane_plain (f := fun x => { x with subtitleOffset := clampInt (-12) 12 (s32 body 2) }) rfl
          (by decide) (by decide) (by decide)
      · rw [h1]
        exact setLane_plain (f := fun x => { x with maxSlip := (clampInt 0 16 (s32 body 2)).toNat }) rfl
          (by decide) (by decide) (by decide)
      · rw [h1]
        exact setLane_plain (f := fun x => { x with resyncLimit := (clampInt 48 48000 (s32 body 2)).toNat }) rfl
          (by decide) (by decide) (by decide)
      · rw [h1]
        exact setLane_plain (f := fun x => { x with lowMark := (clampInt 8 40 (s32 body 2)).toNat }) rfl
          (by decide) (by decide) (by decide)
      · rw [h1]
        exact setLane_divider v h2
      · rw [h1]
        exact setLane_plain (f := fun x => { x with tolerance := (clampInt 1000 50000 (s32 body 2)).toNat }) rfl
          (by decide) (by decide) (by decide)
      · rw [h1, h2]
        exact setLane_plain (f := fun x => { x with rateCheck := false }) rfl (by decide) (by decide) (by decide)
      · rw [h1, h2]
        exact setLane_plain (f := fun x => { x with rateCheck := true }) rfl (by decide) (by decide) (by decide)
      · rw [h1, h2]
        exact setLane_rateWatch v rfl
      · rw [h1, h2]
        exact setLane_rateWatch v rfl
      · rw [h1]
        exact setLane_lossTime _ v
    clear hwant
    obtain ⟨x, f, hset, hf⟩ := htaken
    rw [hset, Answer.state_done]
    have hown : (v.modSet l f).lane l = { v.lane l with pl := { (v.lane l).pl with set := want } } := by
      rw [State.modSet, State.lane_modPl_same, hf]
    have hmod : v.Within l (v.modSet l f) := .modPl v l _
    have hclock : (v.modSet l f).clock = v.clock := rfl
    generalize v.modSet l f = w at hown hmod hclock ⊢
    have hwithin := hmod.trans (.settingActs w l (u8 body 1))
    have hframe := hwithin.toBeside.answered (.done x)
    refine ⟨(w.settingActs l (u8 body 1)).answered (.done x), rfl, hframe, (State.answered_held _ _).trans hwithin.held, ?_, fun k hk => ?_, ?_⟩
    · refine (State.answered_set _ _ l).trans ?_
      rw [settingActs_set, hown]
    · refine (State.answered_set _ _ k).trans ?_
      rw [hwithin.others k hk]
    rintro m g aborted rfl rfl rfl
    generalize hcode : u8 body 1 = code
    refine ⟨?_, ?_, ?_, ?_, ?_, ?_⟩
    · rintro rfl
      have hacts : w.settingActs l 6 = w.setDivider l := w.settingActs_divider l
      have hdiv := w.setDivider_own l
      rw [hown, hclock] at hdiv
      rw [hacts]
      refine ⟨?_, fun hopen howner => ?_, fun hopen howner => ?_⟩
      · rw [State.answered_ftm, hdiv]
        rfl
      · exact State.answered_raised _ _ (State.setDivider_host_raised (by rw [hown]; exact hopen) (by rw [hown]; exact howner))
      · have hpl : ((w.setDivider l).lane l).pl =
            { (v.lane l).pl with set := want, state := .cued, fault := some .rateMismatch } := by
          rw [hdiv]
          exact Playout.redivided_check hopen howner
        rw [State.answered_state _ (by rw [hpl]; exact nofun), State.answered_fault, hpl]
        exact ⟨rfl, rfl, State.answered_raised _ _
          (State.setDivider_check_raised (by rw [hown]; exact hopen) (by rw [hown]; exact howner))⟩
    · rintro rfl hon
      have hacts : w.settingActs l 9 = w.setWatch l true := by
        rw [State.settingActs_watch, hown]
        exact congrArg _ hon
      rw [hacts, State.answered_ftm, State.setWatch_on, hown]
      exact ⟨rfl, fun hstate hwatch hopen howner => State.answered_raised _ _ (State.setWatch_on_raised
        (by rw [hown]; exact hstate) (by rw [hown]; exact hwatch) (by rw [hown]; exact hopen) (by rw [hown]; exact howner))⟩
    · rintro rfl hoff
      have hacts : w.settingActs l 9 = w.setWatch l false := by
        rw [State.settingActs_watch, hown]
        exact congrArg _ hoff
      rw [hacts, State.answered_ftm, State.setWatch_off, hown, hclock]
      refine ⟨?_, fun hout => State.answered_raised _ _ (State.setWatch_off_raised (by rw [hown]; exact hout))⟩
      rw [Monitor.unwatched_eq]
      rfl
    · rintro rfl k htimer hreached
      have hdue : (w.lane l).lossDue = true := by
        rw [hown, Lane.lossDue, htimer]
        exact decide_eq_true hreached
      have hacts : w.settingActs l 10 = w.lossExpiry l := by
        rw [State.settingActs_loss, if_pos hdue]
      obtain ⟨hnone, habsent, hcount, -⟩ := w.lossExpiry_ftm l
      rw [hacts, State.answered_ftm]
      exact ⟨hnone, habsent, hcount.trans (by rw [hown])⟩
    · rintro rfl hbelow
      have hdue : (w.lane l).lossDue = false := by
        rw [hown, Lane.lossDue]
        cases htimer : (v.lane l).ftm.lossTimer with
        | none => rfl
        | some k => exact decide_eq_false (Nat.not_le_of_lt (hbelow k htimer))
      have hacts : w.settingActs l 10 = w := by
        rw [State.settingActs_loss, if_neg (by rw [hdue]; exact nofun)]
      rw [hacts, State.answered_ftm, hown]
    · intro h6 h9 h10
      rw [State.settingActs_none _ _ h6 h9 h10, State.answered_ftm, hown]
  · rw [setLane_refused v hbad]
    rfl

end Sys2Proof.Machine
end

section
/-! PROOF. The passing of time: what was overdue, the ticks and the second (R40, R52, R171, R196). -/

namespace Sys2Proof.Machine

open Sys2Proof

namespace State

variable {s u v : State} {l : LaneId}

/-! ### What was overdue, and the assembler (R40) -/

theorem Within.pka_enterPaused (s : State) (l : LaneId) (cause : PauseCause) : (s.enterPaused l cause).pka = s.pka := by
  have hcue : ∀ (s : State) (f : CueEngine → CueOut), (s.cueStep l f).pka = s.pka := by
    intro s f
    unfold State.cueStep
    obtain ⟨more, h⟩ := (s.modSce l (fun _ => (f (s.lane l).sce).1)).toScreenAll_out l (f (s.lane l).sce).2
    rw [h]
    rfl
  have hend : ∀ (s : State) (r : GateResult), (s.endWatch l r).pka = s.pka := by
    intro s r
    unfold State.endWatch
    dsimp only
    split
    · unfold State.abortGate State.raiseGate
      dsimp only
      split
      · split <;> rfl
      · rfl
    · rfl
  unfold State.enterPaused
  dsimp only
  rw [hcue]
  exact hend _ _

theorem lossExpiry_pka (s : State) (l : LaneId) : (s.lossExpiry l).pka = s.pka := by
  have hmarked : (s.lossMarked l).pka = s.pka := by
    unfold State.lossMarked State.abortGate State.raiseGate
    dsimp only
    split
    · split <;> rfl
    · rfl
  by_cases hstarting : (s.lane l).pl.state = .starting
  · rw [lossExpiry_starting hstarting]
    exact hmarked
  · by_cases hplaying : (s.lane l).pl.state = .playing
    · rw [lossExpiry_playing hplaying]
      exact (Within.pka_enterPaused _ l .pulseLost).trans hmarked
    · rw [lossExpiry_resting hstarting hplaying]
      exact hmarked

theorem lossFold_pka (ls : List LaneId) (s : State) :
    (ls.foldl (fun s l => if (s.lane l).lossDue then s.lossExpiry l else s) s).pka = s.pka := by
  induction ls generalizing s with
  | nil => rfl
  | cons l rest ih =>
    rw [List.foldl_cons, ih]
    split
    · exact lossExpiry_pka s l
    · rfl

theorem boothSecond_pka (s : State) : s.boothSecond.pka = s.pka := by
  unfold State.boothSecond
  dsimp only
  split
  · rfl
  · split
    · rw [setBooth_eq]
    · rfl

/-- What was overdue, up to the tickets. -/
def secondAndLosses (s : State) : State :=
  fours.foldl (fun s l => if (s.lane l).lossDue then s.lossExpiry l else s) (if s.clock.secondDue then s.boothSecond else s)

theorem takeOverdue_split (s : State) : s.takeOverdue =
    if s.secondAndLosses.ticketDue then s.secondAndLosses.expireTickets else s.secondAndLosses := rfl

theorem secondAndLosses_pka (s : State) : s.secondAndLosses.pka = s.pka := by
  unfold State.secondAndLosses
  rw [lossFold_pka]
  split
  · exact boothSecond_pka s
  · rfl

theorem secondAndLosses_ticks (s : State) : s.secondAndLosses.clock.ticks = s.clock.ticks := by
  have hsecond : s.SameTick (if s.clock.secondDue then s.boothSecond else s) := .ite s.boothSecond_sameTick ⟨rfl, rfl⟩
  exact (hsecond.trans (lossFold_sameTick fours _)).2

/-- The tickets due leave, counted, and INGEST_DISCARD is raised (R40). -/
def TicketsLeft (s u : State) : Prop :=
  u.pka.tickets.map Ticket.chunk
      = (s.pka.tickets.filter fun x => !(x.expired s.clock.ticks s.pka.setting)).map Ticket.chunk
    ∧ u.pka.discards = min top16 (s.pka.discards + (s.pka.tickets.filter (Ticket.expired s.clock.ticks s.pka.setting)).length)
    ∧ u.ntu.raised.getLsbD srcIngestDiscard = true

theorem expireTickets_left (h : s.ticketDue = true) : s.TicketsLeft s.expireTickets := by
  obtain ⟨x, hx, hdue⟩ := List.any_eq_true.mp h
  have hsome : (s.pka.tickets.filter (Ticket.expired s.clock.ticks s.pka.setting)).isEmpty = false := by
    rw [List.isEmpty_eq_false_iff]
    exact List.ne_nil_of_mem (List.mem_filter.mpr ⟨hx, hdue⟩)
  refine ⟨s.expireTickets_chunks, ?_, ?_⟩ <;> unfold State.expireTickets <;> dsimp only <;> rw [hsome]
  · exact congrArg Assembler.discards (Assembler.passOnAll_eq _ _)
  · exact raise_raised _ (by decide)

theorem takeOverdue_left (h : s.ticketDue = true) : s.TicketsLeft s.takeOverdue := by
  have hticket : s.secondAndLosses.ticketDue = s.ticketDue := by
    unfold State.ticketDue
    rw [secondAndLosses_pka, secondAndLosses_ticks]
  have hleft := expireTickets_left (hticket.trans h)
  unfold TicketsLeft at hleft
  rw [secondAndLosses_pka, secondAndLosses_ticks] at hleft
  rw [takeOverdue_split, hticket, if_pos h]
  exact hleft

end State

/-- Settles O27: the tickets due leave with the row, or before an event behind their tick. -/
theorem ticketsExpire : Obligations.TicketsExpire := by
  intro s hpin hdue
  refine ⟨?_, fun x hbehind => ?_⟩
  · have hexec : exec .ticketExpiry s = .next s.expireTickets.settle := by
      have harm : exec .ticketExpiry s = execTicketExpiry s := rfl
      rw [harm, execTicketExpiry, live_eq _ hpin, if_pos hdue]
    obtain ⟨hchunks, hdiscards, hraised⟩ := State.expireTickets_left hdue
    refine ⟨_, hexec, ?_, ?_, State.settle_raised hraised, ?_, ?_⟩
    · rw [State.settle_tickets, hchunks]
    · rw [State.settle_discards, hdiscards]
    · rw [State.settle_clock]
      exact (State.Calm.expireTickets s).clock
    · rw [State.settle_log, s.expireTickets_same.2.2.2.1]
  · have hcaught : s.takeAt x = s.takeOverdue.clockTo (s.takenAt x) := by
      unfold State.takeAt State.caughtUp
      rw [if_pos hbehind]
    rw [hcaught]
    exact State.takeOverdue_left hdue

/-! ### The clock under the pulses -/

namespace State

variable {s u v : State} {l : LaneId}

theorem enterIdle_clock (s : State) (l : LaneId) : (s.enterIdle l).clock = s.clock := (Silent.enterIdle s l).clock

theorem examineHead_clock (s : State) (l : LaneId) (target : Option Pos) : (s.examineHead l target).clock = s.clock := by
  unfold State.examineHead
  split
  · exact enterIdle_clock s l
  · split
    · exact (enterPaused_clock _ l .intermission).trans ((Calm.dropHead s l).trans (.raiseLane l srcItemDone)).clock
    · split
      · exact (Calm.laneFault _ l _).clock.trans (enterIdle_clock s l)
      · rfl

theorem itemEnd_clock (s : State) (l : LaneId) (i : Item) : (s.itemEnd l i).clock = s.clock := by
  have hdone : s.Calm _ := (Calm.raiseLane (s := s) l srcItemDone).trans (.modStats (l := l) fun k =>
    { k with itemsDone := satInc top32 k.itemsDone })
  have hshown := hdone.trans (Calm.ite (c := i.licence.isSome = true) (fun _ => .showItemEnd _ l) fun _ => .refl _)
  exact (examineHead_clock _ l none).trans (hshown.trans (.dropHead _ l)).clock

theorem passFrame_clock (s : State) (l : LaneId) (i : Item) (pos : Pos) : (s.passFrame l i pos).clock = s.clock := by
  have hleft : s.Calm (if (i.isComposition && i.endsReel pos) = true then s.leaveReel l i.uid pos.reel else s) :=
    .ite (fun _ => .leaveReel s l _ _) fun _ => .refl s
  unfold State.passFrame
  dsimp only
  split
  · exact (itemEnd_clock _ l i).trans hleft.clock
  · exact hleft.clock

theorem gapPause_clock (s : State) (l : LaneId) : (s.gapPause l).clock = s.clock :=
  (Calm.laneFault _ l .gap).clock.trans (enterPaused_clock s l .gap)

theorem missingHead_clock (s : State) (l : LaneId) (i : Item) : (s.missingHead l i).clock = s.clock := by
  unfold State.missingHead
  split
  · exact gapPause_clock s l
  · exact (Calm.fill s l i).clock

theorem faultedHead_clock (s : State) (l : LaneId) (i : Item) (b : BufSlot) : (s.faultedHead l i b).clock = s.clock := by
  unfold State.faultedHead
  dsimp only
  split
  · have hpassed := (passFrame_clock (s.modPl l fun p => p.consumed i b) l i b.pos).trans (Calm.consumed s l i b).clock
    split
    · exact (gapPause_clock _ l).trans hpassed
    · exact hpassed
  · exact (passFrame_clock _ l i b.pos).trans ((Calm.fill s l i).trans (.consumed _ l i b)).clock

theorem presentFrame_clock (s : State) (l : LaneId) (i : Item) (b : BufSlot) : (s.presentFrame l i b).clock = s.clock := by
  rw [presentFrame_eq]
  exact (Calm.relieved _ l).clock.trans ((passFrame_clock _ l i b.pos).trans (Calm.framePresented s l i b).clock)

theorem presentPulse_clock (s : State) (l : LaneId) : (s.presentPulse l).clock = s.clock := by
  unfold State.presentPulse
  dsimp only
  split
  · split
    · exact missingHead_clock s l _
    · split
      · exact missingHead_clock s l _
      · split
        · exact faultedHead_clock s l _ _
        · exact presentFrame_clock s l _ _
  · rfl

theorem Silent.raiseGateOf (s : State) (l : LaneId) (owner : GateOwner) : s.Silent l (s.raiseGate l owner) :=
  .ite (fun _ => .raiseLane s l l _) fun _ => .refl s l

theorem Silent.ownerValid (s : State) (l : LaneId) (owner : GateOwner) (x : Option Int) :
    s.Silent l (s.ownerValid l owner x) := by
  cases owner with
  | host => exact .raiseGateOf s l .host
  | check => exact .ite (fun _ => .modLane s l _) fun _ => .failCheck s l _
  | watch =>
    unfold State.ownerValid
    exact (Silent.verdictOf s l _).trans (.modFtm _ l _)

theorem Silent.gatePulse (s : State) (l : LaneId) : s.Silent l (s.gatePulse l) := by
  unfold State.gatePulse
  dsimp only
  split
  · exact .ite (fun _ => .modFtm s l _) fun _ => .refl s l
  · split
    · exact .modFtm s l _
    · split
      · exact (Silent.modFtm s l _).trans (.ownerValid _ l _ _)
      · exact .modFtm s l _

theorem countedPulse_clock (s : State) (l : LaneId) : (s.countedPulse l).clock = s.clock := by
  have hgate := (Silent.gatePulse s l).clock
  unfold State.countedPulse
  dsimp only
  split
  · exact (presentPulse_clock _ l).trans hgate
  · exact hgate

theorem pulse_clock (s : State) (l : LaneId) : (s.pulse l).clock = s.clock := by
  unfold State.pulse
  dsimp only
  split
  · split
    · exact countedPulse_clock _ l
    · rfl
  · rfl

theorem injectedPulse_clock (s : State) (l : LaneId) : (s.injectedPulse l).clock = s.clock := by
  unfold State.injectedPulse
  split
  · rfl
  · dsimp only
    split
    · exact pulse_clock _ l
    · exact pulse_clock _ l

/-! ### The counts of the clock -/

/-- The counts of the clock that a base tick alone moves are the same. -/
def SameCounts (s u : State) : Prop :=
  u.clock.ticks = s.clock.ticks ∧ u.clock.booth = s.clock.booth ∧ u.clock.sub = s.clock.sub
    ∧ u.clock.secondDue = s.clock.secondDue

theorem SameCounts.of_clock (h : u.clock = s.clock) : s.SameCounts u := by
  unfold SameCounts
  rw [h]
  exact ⟨rfl, rfl, rfl, rfl⟩

theorem SameCounts.trans (h : s.SameCounts u) (k : u.SameCounts v) : s.SameCounts v := by
  obtain ⟨h1, h2, h3, h4⟩ := h
  obtain ⟨k1, k2, k3, k4⟩ := k
  exact ⟨k1.trans h1, k2.trans h2, k3.trans h3, k4.trans h4⟩

theorem SameCounts.clockTo (s : State) (t : Instant) : s.SameCounts (s.clockTo t) := ⟨rfl, rfl, rfl, rfl⟩

theorem lossFold_clock (ls : List LaneId) (s : State) :
    (ls.foldl (fun s l => if (s.lane l).lossDue then s.lossExpiry l else s) s).clock = s.clock := by
  induction ls generalizing s with
  | nil => rfl
  | cons l rest ih =>
    rw [List.foldl_cons, ih]
    split
    · exact lossExpiry_clock s l
    · rfl

theorem takeOverdue_clock (h : s.clock.secondDue = false) : s.takeOverdue.clock = s.clock := by
  have hlosses : s.secondAndLosses.clock = s.clock := by
    unfold State.secondAndLosses
    rw [lossFold_clock, if_neg (by rw [h]; exact nofun)]
  rw [takeOverdue_split]
  split
  · exact (Calm.expireTickets _).clock.trans hlosses
  · exact hlosses

theorem SameCounts.takeTimed (n : Nat) (s : State) : s.SameCounts (s.takeTimed n) := by
  induction n generalizing s with
  | zero => exact .of_clock rfl
  | succ n ih =>
    unfold State.takeTimed
    split
    · exact .of_clock rfl
    · rename_i l i injected _
      split
      · refine SameCounts.trans (SameCounts.trans (.clockTo s (max s.clock.now i)) (.of_clock ?_)) (ih _)
        rw [settle_clock]
        split
        · exact injectedPulse_clock _ l
        · exact (Silent.gateOverflow _ l).clock
      · exact .of_clock rfl

/-- A base tick's counts (R171, R196). -/
theorem baseTick_clock (s : State) : s.baseTick.clock = s.tickEnded.clock.tick := by rw [baseTick_eq]

theorem tickEnded_counts (s : State) : s.SameCounts s.tickEnded := by
  have hclosed := (Steady.closeTicks (s.produceTo (48 * (s.clock.ticks + 1)))).clock
  have hclock : s.tickEnded.clock = (s.produceTo (48 * (s.clock.ticks + 1))).clock :=
    ((lossTick_lane _ 0).2).trans hclosed
  unfold SameCounts
  rw [hclock]
  exact ⟨rfl, rfl, rfl, rfl⟩

end State

theorem Clock.tick_booth (c : Clock) : c.tick.booth = c.booth := by
  unfold Clock.tick
  dsimp only
  split
  · rfl
  · split <;> rfl

theorem Clock.tick_unset {c : Clock} (h : c.booth = none) : c.tick.sub = c.sub := by
  unfold Clock.tick
  dsimp only
  rw [h]

theorem Clock.tick_sub {c : Clock} (h : c.booth.isSome = true) (hsub : c.sub ≠ 999) : c.tick.sub = c.sub + 1 := by
  obtain ⟨b, hb⟩ := Option.isSome_iff_exists.mp h
  unfold Clock.tick
  dsimp only
  rw [hb]
  dsimp only
  rw [if_neg hsub]

theorem Clock.tick_second {c : Clock} (h : c.booth.isSome = true) (hsub : c.sub = 999) : c.tick.secondDue = true := by
  obtain ⟨b, hb⟩ := Option.isSome_iff_exists.mp h
  unfold Clock.tick
  dsimp only
  rw [hb]
  dsimp only
  rw [if_pos hsub]

/-- Settles O54: the counts of a base tick, the second's, and how an event comes to its instant. -/
theorem clockTicks : Obligations.ClockTicks := by
  refine ⟨fun s hpin hsecond => ?_, fun s now hpin hdue hsub hbooth => ?_, fun s t hnothing => ?_⟩
  · have hnext : exec .baseTick s = .next (s.takeOverdue.takeTimed 8).baseTick.settle := live_eq _ hpin
    have hcounts : s.SameCounts (s.takeOverdue.takeTimed 8) :=
      State.SameCounts.trans (.of_clock (State.takeOverdue_clock hsecond)) (.takeTimed 8 _)
    generalize s.takeOverdue.takeTimed 8 = w at hnext hcounts
    obtain ⟨hticks, hbooth, hsub, -⟩ := hcounts.trans w.tickEnded_counts
    obtain ⟨-, -, hsamples⟩ := w.tickEnded_clock
    obtain ⟨htick, hproduced, -⟩ := State.tick_counts w.tickEnded.clock
    refine ⟨_, hnext, ?_⟩
    rw [State.settle_clock, State.baseTick_clock, htick, hproduced, Clock.tick_booth, hticks, hbooth]
    refine ⟨rfl, ?_, rfl, fun hnone => ?_, fun hsome hlow => ?_, fun hsome hlast => ?_⟩
    · rw [hsamples, hcounts.1]
      exact Nat.le_max_right _ _
    · rw [Clock.tick_unset (hbooth.trans hnone), hsub]
    · rw [Clock.tick_sub (by rw [hbooth]; exact hsome) (by rw [hsub]; exact hlow), hsub]
    · exact Clock.tick_second (by rw [hbooth]; exact hsome) (hsub.trans hlast)
  · have hexec : exec .boothSecond s = .next s.boothSecond := by
      have harm : exec .boothSecond s = execBoothSecond s := rfl
      rw [harm, execBoothSecond, live_eq _ hpin, if_pos hdue]
    have hsecond : s.boothSecond
        = ({ s with clock := { s.clock with secondDue := false, sub := 0 } } : State).setBooth (satInc top32 now) := by
      unfold State.boothSecond
      dsimp only
      rw [hbooth]
      dsimp only
      rw [if_pos hsub]
    refine ⟨_, hexec, ?_⟩
    rw [hsecond]
    generalize hs : ({ s with clock := { s.clock with secondDue := false, sub := 0 } } : State) = w
    subst hs
    refine ⟨?_, ?_, ?_, ?_, ?_, fun hexpires => ?_, fun hexpires => ?_, ?_⟩
    · rw [State.setBooth_clock]
    · rw [State.setBooth_clock]
    · rw [State.setBooth_clock]
    · rw [State.setBooth_clock]
    · rw [State.setBooth_eq]
    · exact State.setBooth_ntu_of (by rw [← hbooth] at hexpires; exact hexpires)
    · rw [State.setBooth_of_not (by rw [← hbooth] at hexpires; exact hexpires)]
    · rw [State.setBooth_eq]
      exact ⟨rfl, rfl, rfl, rfl, rfl, rfl⟩
  · have hcaught : s.takeAt t = s.clockTo (s.takenAt t) := by
      unfold State.takeAt
      rw [State.caughtUp_eq hnothing]
    rw [hcaught]
    refine ⟨rfl, rfl, rfl, rfl, fun l => ?_⟩
    rw [State.clockTo_lane_pl, State.clockTo_lane_ftm, State.clockTo_lane_sce, State.clockTo_lane_map]
    exact ⟨rfl, rfl, rfl, rfl⟩

end Sys2Proof.Machine
end

section
/-! PROOF. The release of a window and what it leaves of the ingest work (R8, R9, R37, R44). -/

namespace Sys2Proof.Machine

open Sys2Proof

/-! ### Slots passed on (R37) -/

namespace Assembler

variable {p : Assembler} {slot j : Nat}

/-- A freed slot is FREE, or reserved for a ticket that names it. -/
def Passed (p : Assembler) (slot : Nat) : Prop :=
  p.staging[slot]? = some .free
    ∨ ∃ t ∈ p.tickets, t.slot = some slot ∧ p.staging[slot]? = some (.reserved t.chunk)

theorem passOn_none (h : findFrom (fun t : Ticket => t.cause == .stagingFull && t.slot.isNone) 0 p.tickets = none) :
    p.passOn slot = { p with staging := modifyAt (fun _ => .free) slot p.staging } := by
  unfold Assembler.passOn
  rw [h]

theorem passOn_some {i : Nat} {t : Ticket}
    (h : findFrom (fun t : Ticket => t.cause == .stagingFull && t.slot.isNone) 0 p.tickets = some (i, t)) :
    p.passOn slot = { p with
      staging := modifyAt (fun _ => .reserved t.chunk) slot p.staging
      tickets := modifyAt (fun t => { t with slot := some slot }) i p.tickets } := by
  unfold Assembler.passOn
  rw [h]

/-- A slot passed on leaves every other slot as it is. -/
theorem passOn_staging_ne (p : Assembler) (h : j ≠ slot) : (p.passOn slot).staging[j]? = p.staging[j]? := by
  cases hfind : findFrom (fun t : Ticket => t.cause == .stagingFull && t.slot.isNone) 0 p.tickets with
  | none => rw [passOn_none hfind, modifyAt_getElem?, if_neg h]
  | some x => rw [passOn_some (i := x.1) (t := x.2) hfind, modifyAt_getElem?, if_neg h]

theorem passOn_passed (h : slot < p.staging.length) : (p.passOn slot).Passed slot := by
  have hslot : p.staging[slot]? = some p.staging[slot] := List.getElem?_eq_getElem h
  cases hfind : findFrom (fun t : Ticket => t.cause == .stagingFull && t.slot.isNone) 0 p.tickets with
  | none =>
    refine .inl ?_
    rw [passOn_none hfind, modifyAt_getElem?, if_pos rfl, hslot, Option.map_some]
  | some x =>
    obtain ⟨i, t⟩ := x
    obtain ⟨-, -, hget⟩ := findFrom_some hfind
    refine .inr ⟨{ t with slot := some slot }, ?_, rfl, ?_⟩
    · rw [passOn_some hfind]
      refine List.mem_of_getElem? (i := i) ?_
      rw [modifyAt_getElem?, if_pos rfl, show p.tickets[i]? = some t from hget, Option.map_some]
    · rw [passOn_some hfind, modifyAt_getElem?, if_pos rfl, hslot, Option.map_some]

theorem passOn_keeps_passed (h : p.Passed j) (hne : j ≠ slot) : (p.passOn slot).Passed j := by
  unfold Passed
  rw [passOn_staging_ne p hne]
  refine h.imp_right fun ⟨t, ht, hslot, hreserved⟩ => ⟨t, ?_, hslot, hreserved⟩
  cases hfind : findFrom (fun t : Ticket => t.cause == .stagingFull && t.slot.isNone) 0 p.tickets with
  | none =>
    rw [passOn_none hfind]
    exact ht
  | some x =>
    obtain ⟨i, x⟩ := x
    obtain ⟨hwaits, -, hget⟩ := findFrom_some hfind
    obtain ⟨k, hk⟩ := List.mem_iff_getElem?.mp ht
    rw [passOn_some hfind]
    refine List.mem_of_getElem? (i := k) ?_
    rw [modifyAt_getElem?, if_neg, hk]
    rintro rfl
    obtain rfl : x = t := Option.some.inj ((show p.tickets[k]? = some x from hget).symm.trans hk)
    rw [hslot] at hwaits
    simp at hwaits

theorem foldl_passOn_staging_ne (ls : List Nat) (p : Assembler) (h : j ∉ ls) :
    (ls.foldl Assembler.passOn p).staging[j]? = p.staging[j]? := by
  induction ls generalizing p with
  | nil => rfl
  | cons a rest ih =>
    rw [List.foldl_cons, ih _ fun hj => h (List.mem_cons_of_mem _ hj),
      passOn_staging_ne p fun hj => h (List.mem_cons.mpr (.inl hj))]

theorem foldl_passOn_passed (ls : List Nat) (p : Assembler) (hlen : j < p.staging.length) (h : j ∈ ls ∨ p.Passed j) :
    (ls.foldl Assembler.passOn p).Passed j := by
  induction ls generalizing p with
  | nil => exact h.resolve_left List.not_mem_nil
  | cons a rest ih =>
    refine ih _ (by rw [passOn_staging_length]; exact hlen) ?_
    by_cases ha : j = a
    · subst ha
      exact .inr (passOn_passed hlen)
    · exact h.imp (fun h => (List.mem_cons.mp h).resolve_left ha) fun h => passOn_keeps_passed h ha

theorem passOnAll_staging_ne (p : Assembler) {slots : List Nat} (h : j ∉ slots) :
    (p.passOnAll slots).staging[j]? = p.staging[j]? :=
  foldl_passOn_staging_ne _ p fun hj => h ((mem_sortBy _ _ _).mp hj)

theorem passOnAll_passed {slots : List Nat} (h : j ∈ slots) (hlen : j < p.staging.length) : (p.passOnAll slots).Passed j :=
  foldl_passOn_passed _ p hlen (.inl ((mem_sortBy _ _ _).mpr h))

/-! ### The chunks a release withdraws (R44) -/

theorem heldOf_eq_some {pid i : Nat} {x : Staging} {c : ChunkId} :
    Staging.heldOf pid (x, i) = some (c, j) ↔ c.packageId = pid ∧ j = i ∧ ∃ b, x = .held c b := by
  cases x with
  | held d b =>
    have hheld : Staging.heldOf pid (.held d b, i) = if d.packageId = pid then some (d, i) else none := rfl
    rw [hheld]
    by_cases hpid : d.packageId = pid
    · rw [if_pos hpid]
      constructor
      · rintro h
        obtain ⟨rfl, rfl⟩ := Prod.mk.inj (Option.some.inj h)
        exact ⟨hpid, rfl, b, rfl⟩
      · rintro ⟨-, rfl, b', h⟩
        cases h
        rfl
    · rw [if_neg hpid]
      refine ⟨nofun, ?_⟩
      rintro ⟨hc, -, b', h⟩
      cases h
      exact absurd hc hpid
  | free | reserved _ | writing _ _ _ => exact ⟨nofun, fun ⟨_, _, _, h⟩ => nomatch h⟩

theorem heldOf_isSome (pid : Nat) (x : Staging × Nat) : (Staging.heldOf pid x).isSome = Staging.heldFor pid x.1 := by
  obtain ⟨x, i⟩ := x
  cases x with
  | held d b =>
    have hheld : Staging.heldOf pid (.held d b, i) = if d.packageId = pid then some (d, i) else none := rfl
    rw [hheld]
    by_cases hpid : d.packageId = pid <;> simp [Staging.heldFor, hpid]
  | free | reserved _ | writing _ _ _ => rfl

/-- The HELD chunks of a package, with their slots. -/
def heldChunks (p : Assembler) (pid : Nat) : List (ChunkId × Nat) := p.staging.zipIdx.filterMap (Staging.heldOf pid)

theorem mem_heldChunks {pid : Nat} {c : ChunkId} :
    (c, j) ∈ p.heldChunks pid ↔ c.packageId = pid ∧ ∃ b, p.staging[j]? = some (.held c b) := by
  unfold heldChunks
  simp only [List.mem_filterMap, Prod.exists, List.mem_zipIdx_iff_getElem?, heldOf_eq_some]
  constructor
  · rintro ⟨x, i, hget, hpid, rfl, b, rfl⟩
    exact ⟨hpid, b, hget⟩
  · rintro ⟨hpid, b, hget⟩
    exact ⟨.held c b, j, hget, hpid, rfl, b, rfl⟩

theorem length_heldChunks (p : Assembler) (pid : Nat) :
    (p.heldChunks pid).length = p.staging.countP (Staging.heldFor pid) := by
  unfold heldChunks
  calc (p.staging.zipIdx.filterMap (Staging.heldOf pid)).length
      = p.staging.zipIdx.countP (Staging.heldFor pid ∘ Prod.fst) := by
        rw [List.length_filterMap_eq_countP]
        exact List.countP_congr fun x _ => by rw [heldOf_isSome, Function.comp_apply]
    _ = p.staging.countP (Staging.heldFor pid) := by rw [← List.countP_map, List.zipIdx_map_fst]

/-- The assembler without a package's tickets and HELD chunks, their slots not passed on yet. -/
def withoutPackage (p : Assembler) (pid : Nat) : Assembler :=
  { p with tickets := p.tickets.filter fun t => t.chunk.packageId != pid
           order := p.order.filter fun n => !((p.heldChunks pid).any fun h => h.2 == n)
           staging := p.staging.map (Staging.orphaned pid)
           outstanding := p.outstanding - (p.heldChunks pid).length }

/-- The slots a release frees: those reserved for the package's tickets, and those of its HELD chunks. -/
def freedSlots (p : Assembler) (pid : Nat) : List Nat :=
  (p.tickets.filter fun t => t.chunk.packageId == pid).filterMap Ticket.slot ++ (p.heldChunks pid).map Prod.snd

end Assembler

namespace State

theorem settleOffers_eq (held : List (ChunkId × Nat)) (s : State) :
    held.foldl (fun s h => s.settleOffer h.1 (.refused .noPackage)) s = { s with
      out := s.out ++ held.map fun h => .verdict h.1 (.refused .noPackage) false
      pka := { s.pka with outstanding := s.pka.outstanding - held.length } } := by
  induction held generalizing s with
  | nil => simp
  | cons a rest ih =>
    rw [List.foldl_cons, ih]
    unfold State.settleOffer State.verdict State.emit State.modPka
    simp only [List.append_assoc, List.singleton_append, List.map_cons, List.length_cons, Nat.sub_sub, Nat.add_comm 1]

/-- What a release does to the assembler, and the verdicts it sends (R44). -/
theorem dropPackage_eq (s : State) (pid : Nat) : s.dropPackage pid = { s with
    out := s.out ++ (s.pka.heldChunks pid).map fun h => .verdict h.1 (.refused .noPackage) false
    pka := (s.pka.withoutPackage pid).passOnAll (s.pka.freedSlots pid) } := by
  unfold State.dropPackage
  dsimp only
  rw [settleOffers_eq]
  rfl

/-- The table, the draining ranges and the catalogue's queue behind a release (R8, R9). -/
def released (c : Storage) (i : Nat) (w : Window) : Storage :=
  ({ c with table := modifyAt (fun _ => none) i c.table
            draining := if 0 < w.ops then c.draining ++ [{ first := w.base, last := w.limit, ops := w.ops }]
              else c.draining } : Storage).request i

theorem release_eq {s : State} {pid i : Nat} {e : TableEntry} (h : s.stc.find pid = some (i, e)) :
    s.release pid = ({ s with stc := released s.stc i e.window } : State).dropPackage pid := by
  unfold State.release
  rw [h]
  rfl

theorem released_table (c : Storage) (i : Nat) (w : Window) :
    (released c i w).table = modifyAt (fun _ => none) i c.table := by
  unfold released
  rw [Storage.request_eq]

theorem released_draining (c : Storage) (i : Nat) (w : Window) : (released c i w).draining
    = if 0 < w.ops then c.draining ++ [⟨w.base, w.limit, w.ops⟩] else c.draining := by
  unfold released
  rw [Storage.request_eq]

theorem released_queue (c : Storage) (i : Nat) (w : Window) (h : c.status ≠ some .unavailable) :
    ∃ q ∈ (released c i w).queue, q.slot = i := Storage.request_queued i h

end State

/-- Settles O21: the window's entry, its blocks, its slot's write, and each kind of staging slot. -/
theorem releaseDropsPackage : Obligations.ReleaseDropsPackage := by
  intro s pid i e hfind
  obtain ⟨hentry, -⟩ := Storage.find_eq_some hfind
  have hpackages := State.Packages.release s pid
  have hrelease := (State.release_eq hfind).trans (State.dropPackage_eq _ pid)
  have hpka := congrArg State.pka hrelease
  have hstc := congrArg State.stc hrelease
  have hout := congrArg State.out hrelease
  dsimp only at hpka hstc hout
  rw [hpackages.lanes, hpackages.shc, hpackages.clock, hpackages.held, hpackages.flight, hpka, hstc, hout, State.released_table,
    State.released_draining]
  have hlink : (s.release pid).link = s.link := by rw [hrelease]
  refine ⟨?_, fun j hj => ?_, rfl, rfl, fun t ht => ?_, ?_, State.released_queue _ _ _, fun j => ?_, ?_,
    fun j c b hheld hpid => ⟨?_, ?_⟩, fun j c b orphan hwriting hfree => ?_, rfl, rfl, rfl, hlink, rfl⟩
  · rw [modifyAt_getElem?, if_pos rfl, hentry, Option.map_some]
  · rw [modifyAt_getElem?, if_neg hj]
  · have hmem : t.chunk ∈ (s.pka.withoutPackage pid).tickets.map Ticket.chunk := by
      rw [← Assembler.passOnAll_chunks _ (s.pka.freedSlots pid)]
      exact List.mem_map_of_mem ht
    obtain ⟨x, hx, hchunk⟩ := List.mem_map.mp hmem
    rw [← hchunk]
    simpa using (List.mem_filter.mp hx).2
  · rw [Assembler.passOnAll_eq]
    rfl
  · rw [Assembler.passOnAll_eq]
    unfold Assembler.withoutPackage
    rw [List.mem_filter]
    refine and_congr_right fun _ => ?_
    simp only [Bool.not_eq_true', List.any_eq_false, beq_iff_eq, Prod.forall]
    constructor
    · rintro hnone ⟨c, b, hheld, hpid⟩
      exact hnone c j (Assembler.mem_heldChunks.mpr ⟨hpid, b, hheld⟩) rfl
    · rintro hnone c k hmem rfl
      obtain ⟨hpid, b, hheld⟩ := Assembler.mem_heldChunks.mp hmem
      exact hnone ⟨c, b, hheld, hpid⟩
  · rw [Assembler.passOnAll_eq]
    exact congrArg (s.pka.outstanding - ·) (s.pka.length_heldChunks pid)
  · exact List.mem_append_right _ (List.mem_map.mpr ⟨(c, j), Assembler.mem_heldChunks.mpr ⟨hpid, b, hheld⟩, rfl⟩)
  · have hfreed : j ∈ s.pka.freedSlots pid := List.mem_append_right _
      (List.mem_map.mpr ⟨(c, j), Assembler.mem_heldChunks.mpr ⟨hpid, b, hheld⟩, rfl⟩)
    refine Assembler.passOnAll_passed hfreed ?_
    unfold Assembler.withoutPackage
    rw [List.length_map]
    exact (List.getElem?_eq_some_iff.mp hheld).1
  · have hkept : j ∉ s.pka.freedSlots pid := by
      intro hj
      rcases List.mem_append.mp hj with hj | hj
      · obtain ⟨t, ht, hslot⟩ := List.mem_filterMap.mp hj
        exact hfree t (List.mem_filter.mp ht).1 hslot
      · obtain ⟨⟨d, k⟩, hmem, rfl⟩ := List.mem_map.mp hj
        obtain ⟨-, b', hheld⟩ := Assembler.mem_heldChunks.mp hmem
        rw [hwriting] at hheld
        cases hheld
    rw [Assembler.passOnAll_staging_ne _ hkept]
    unfold Assembler.withoutPackage
    rw [List.getElem?_map, hwriting]
    by_cases hpid : c.packageId = pid <;> simp [Staging.orphaned, hpid]

end Sys2Proof.Machine
end

section
/-! PROOF. The queue's commands, and the references its items hold (R6, R8, R82, R84, R85). -/

namespace Sys2Proof.Machine

open Sys2Proof

/-! ### A window and its table (R2) -/

/-- A package whose one window stands in an entry of the table. -/
structure Storage.Owns (c : Storage) (pid j : Nat) (e : TableEntry) : Prop where
  entry : c.table[j]? = some (some e)
  package : e.window.packageId = pid
  unique : ∀ k e', c.table[k]? = some (some e') → e'.window.packageId = pid → k = j

namespace Storage

variable {c d : Storage} {pid j : Nat} {e : TableEntry}

theorem Owns.find (h : c.Owns pid j e) : c.find pid = some (j, e) := by
  obtain ⟨hentry, rfl, hunique⟩ := h
  exact find_eq_some_of_unique hentry fun k e' hk he hpid => hk (hunique k e' he hpid)

theorem find_none_of (h : ∀ (k : Nat) (e : TableEntry), c.table[k]? = some (some e) → e.window.packageId ≠ pid) : c.find pid = none := by
  cases hfind : c.find pid with
  | none => rfl
  | some x =>
    obtain ⟨hentry, hpid⟩ := find_eq_some (i := x.1) (e := x.2) hfind
    exact absurd hpid (h _ _ hentry)

/-- A change of a package's window, entry by entry. -/
theorem modWindow_entry (c : Storage) (q k : Nat) (f : Window → Window) : (c.modWindow q f).table[k]?
    = c.table[k]?.map fun o => if isPackage q o then o.map fun e => { e with window := f e.window } else o :=
  List.getElem?_map

theorem modWindow_some {q k : Nat} {f : Window → Window} {e' : TableEntry}
    (h : (c.modWindow q f).table[k]? = some (some e')) : ∃ e, c.table[k]? = some (some e)
      ∧ e' = if e.window.packageId = q then { e with window := f e.window } else e := by
  rw [modWindow_entry] at h
  obtain ⟨o, ho, hmapped⟩ := Option.map_eq_some_iff.mp h
  cases o with
  | none => simp [isPackage] at hmapped
  | some e =>
    refine ⟨e, ho, ?_⟩
    by_cases hq : e.window.packageId = q
    · simpa [isPackage, hq] using hmapped.symm
    · simpa [isPackage, hq] using hmapped.symm

theorem modWindow_entry_some {q k : Nat} (f : Window → Window) {e : TableEntry} (h : c.table[k]? = some (some e)) :
    (c.modWindow q f).table[k]?
      = some (some (if e.window.packageId = q then { e with window := f e.window } else e)) := by
  rw [modWindow_entry, h]
  by_cases hq : e.window.packageId = q <;> simp [isPackage, hq]

/-- A change of the package's own window. -/
theorem Owns.modWindow_self (h : c.Owns pid j e) {f : Window → Window} (hf : ∀ w, (f w).packageId = w.packageId) :
    (c.modWindow pid f).Owns pid j { e with window := f e.window } := by
  refine ⟨(modWindow_entry_some f h.entry).trans (by rw [if_pos h.package]), (hf _).trans h.package, fun k e' he hpid => ?_⟩
  obtain ⟨x, hx, rfl⟩ := modWindow_some he
  refine h.unique k x hx ?_
  split at hpid
  · assumption
  · exact hpid

/-- A change of another package's window. -/
theorem Owns.modWindow_other (h : c.Owns pid j e) {q : Nat} (hq : q ≠ pid) {f : Window → Window}
    (hf : ∀ w, (f w).packageId = w.packageId) : (c.modWindow q f).Owns pid j e := by
  have hne : e.window.packageId ≠ q := fun hp => hq (hp.symm.trans h.package)
  refine ⟨(modWindow_entry_some f h.entry).trans (by rw [if_neg hne]), h.package, fun k e' he hpid => ?_⟩
  obtain ⟨x, hx, rfl⟩ := modWindow_some he
  refine h.unique k x hx ?_
  split at hpid
  · exact (hf _).symm.trans hpid
  · exact hpid

/-- An entry behind a release of another. -/
theorem released_entry {i k : Nat} {w : Window} (h : k ≠ i) : (State.released c i w).table[k]? = c.table[k]? := by
  rw [State.released_table, modifyAt_getElem?, if_neg h]

theorem released_some {i k : Nat} {w : Window} (h : (State.released c i w).table[k]? = some (some e)) :
    c.table[k]? = some (some e) ∧ k ≠ i := by
  rw [State.released_table, modifyAt_getElem?] at h
  split at h
  · obtain ⟨o, -, hnone⟩ := Option.map_eq_some_iff.mp h
    cases hnone
  · rename_i hk
    exact ⟨h, hk⟩

theorem Owns.released (h : c.Owns pid j e) {i : Nat} (hi : j ≠ i) (w : Window) : (State.released c i w).Owns pid j e :=
  ⟨(released_entry hi).trans h.entry, h.package, fun k e' he hpid => h.unique k e' (released_some he).1 hpid⟩

theorem request_queue (c : Storage) (i : Nat) {q : SlotRequest} (h : q ∈ c.queue) : q ∈ (c.request i).queue := by
  unfold Storage.request
  split
  · exact h
  · split
    · exact h
    · exact List.mem_append_left _ h

theorem released_keeps_draining {i : Nat} {w : Window} {r : Drain} (h : r ∈ c.draining) :
    r ∈ (State.released c i w).draining := by
  rw [State.released_draining]
  split
  · exact List.mem_append_left _ h
  · exact h

theorem released_keeps_queue {i : Nat} {w : Window} {q : SlotRequest} (h : q ∈ c.queue) :
    q ∈ (State.released c i w).queue := request_queue _ i h

end Storage

/-! ### References dropped (R6, R8) -/

/-- The window table with one reference to a package fewer. -/
def Storage.unreferenced (c : Storage) (q : Nat) : Storage := c.modWindow q fun w => { w with refs := w.refs - 1 }

namespace State

variable {s : State} {pid j q : Nat} {e : TableEntry}

/-- A reference dropped: the count alone falls, or the window is released with the last (R8). -/
theorem dropReference_released {i : Nat} {x : TableEntry} (hfind : (s.stc.unreferenced q).find q = some (i, x))
    (hlast : x.window.state = .retiring ∧ x.window.refs = 0) : s.dropReference q
      = ({ s with stc := released (s.stc.unreferenced q) i x.window } : State).dropPackage q := by
  have hdrop : s.dropReference q = ({ s with stc := s.stc.unreferenced q } : State).release q := by
    unfold State.dropReference
    dsimp only
    rw [show (s.modStc fun c => c.modWindow q fun w => { w with refs := w.refs - 1 }).stc.find q = some (i, x) from hfind]
    dsimp only
    rw [if_pos hlast]
    rfl
  rw [hdrop]
  exact release_eq hfind

theorem dropReference_counted (h : ∀ i x, (s.stc.unreferenced q).find q = some (i, x) →
      ¬ (x.window.state = .retiring ∧ x.window.refs = 0)) :
    s.dropReference q = { s with stc := s.stc.unreferenced q } := by
  unfold State.dropReference
  dsimp only
  split
  · rename_i i x hfind
    exact if_neg (h i x hfind)
  · rfl

theorem dropPackage_stc (s : State) (q : Nat) : (s.dropPackage q).stc = s.stc := by rw [dropPackage_eq]

theorem dropPackage_chunks (s : State) (q : Nat) {t : Ticket} (ht : t ∈ (s.dropPackage q).pka.tickets) :
    ∃ x ∈ s.pka.tickets, x.chunk = t.chunk ∧ x.chunk.packageId ≠ q := by
  rw [dropPackage_eq] at ht
  have hmem : t.chunk ∈ (s.pka.withoutPackage q).tickets.map Ticket.chunk := by
    rw [← Assembler.passOnAll_chunks _ (s.pka.freedSlots q)]
    exact List.mem_map_of_mem ht
  obtain ⟨x, hx, hchunk⟩ := List.mem_map.mp hmem
  obtain ⟨hx, hne⟩ := List.mem_filter.mp hx
  exact ⟨x, hx, hchunk, by simpa using hne⟩

/-- The two ways a reference is dropped, with what each leaves. -/
theorem dropReference_cases (s : State) (q : Nat) :
    s.dropReference q = { s with stc := s.stc.unreferenced q }
      ∨ ∃ i x, (s.stc.unreferenced q).find q = some (i, x) ∧ x.window.state = .retiring ∧ x.window.refs = 0
        ∧ s.dropReference q = ({ s with stc := released (s.stc.unreferenced q) i x.window } : State).dropPackage q := by
  by_cases hlast : ∃ i x, (s.stc.unreferenced q).find q = some (i, x) ∧ x.window.state = .retiring ∧ x.window.refs = 0
  · obtain ⟨i, x, hfind, hstate, hrefs⟩ := hlast
    exact .inr ⟨i, x, hfind, hstate, hrefs, dropReference_released hfind ⟨hstate, hrefs⟩⟩
  · exact .inl (dropReference_counted fun i x hfind hx => hlast ⟨i, x, hfind, hx.1, hx.2⟩)

/-- Another package's reference dropped leaves the window as it is. -/
theorem owns_dropReference_other (h : s.stc.Owns pid j e) (hq : q ≠ pid) : (s.dropReference q).stc.Owns pid j e := by
  have hcounted : (s.stc.unreferenced q).Owns pid j e := h.modWindow_other hq fun _ => rfl
  obtain hdrop | ⟨i, x, hfind, -, -, hdrop⟩ := s.dropReference_cases q
  · rw [hdrop]
    exact hcounted
  · obtain ⟨hentry, hpid⟩ := Storage.find_eq_some hfind
    rw [hdrop, dropPackage_stc]
    refine hcounted.released ?_ _
    rintro rfl
    obtain rfl : e = x := by simpa using hcounted.entry.symm.trans hentry
    exact hq (hpid.symm.trans hcounted.package)

theorem owns_unreferenced (h : s.stc.Owns pid j e) :
    (s.stc.unreferenced pid).Owns pid j { e with window := { e.window with refs := e.window.refs - 1 } } :=
  h.modWindow_self fun _ => rfl

/-- The package's own reference dropped while the window stays. -/
theorem owns_dropReference_self (h : s.stc.Owns pid j e) (hstays : e.window.state ≠ .retiring ∨ 1 < e.window.refs) :
    (s.dropReference pid).stc.Owns pid j { e with window := { e.window with refs := e.window.refs - 1 } } := by
  have hcounted := owns_unreferenced h
  rw [dropReference_counted fun i x hfind hx => ?_]
  · exact hcounted
  · rw [hcounted.find] at hfind
    cases hfind
    obtain ⟨hstate, hrefs⟩ := hx
    dsimp only at hstate hrefs
    rcases hstays with hne | hmore
    · exact hne hstate
    · omega

/-- What the release of a package's window leaves: no entry, no ticket, its draining range and its slot's write. -/
structure Gone (s : State) (pid j : Nat) (w : Window) (writes : Prop) : Prop where
  none_of : ∀ (k : Nat) (x : TableEntry), s.stc.table[k]? = some (some x) → x.window.packageId ≠ pid
  entry : s.stc.table[j]? = some none
  tickets : ∀ t ∈ s.pka.tickets, t.chunk.packageId ≠ pid
  draining : 0 < w.ops → ⟨w.base, w.limit, w.ops⟩ ∈ s.stc.draining
  queue : writes → ∃ q ∈ s.stc.queue, q.slot = j

theorem Gone.find {w : Window} {writes : Prop} (h : s.Gone pid j w writes) : s.stc.find pid = none :=
  Storage.find_none_of h.none_of

/-- The last reference of a RETIRING window dropped. -/
theorem gone_dropReference (h : s.stc.Owns pid j e) (hstate : e.window.state = .retiring) (hrefs : e.window.refs ≤ 1) :
    (s.dropReference pid).Gone pid j e.window (s.stc.status ≠ some .unavailable) := by
  have hcounted := owns_unreferenced h
  have hdrop := dropReference_released hcounted.find ⟨hstate, by dsimp only; omega⟩
  have hstc : (s.dropReference pid).stc = released (s.stc.unreferenced pid) j
      { e.window with refs := e.window.refs - 1 } := by rw [hdrop, dropPackage_stc]
  refine ⟨fun k x hx hpid => ?_, ?_, fun t ht => ?_, fun hops => ?_, fun havailable => ?_⟩
  · rw [hstc] at hx
    obtain ⟨hx, hk⟩ := Storage.released_some hx
    exact hk (hcounted.unique k x hx hpid)
  · rw [hstc, released_table, modifyAt_getElem?, if_pos rfl, hcounted.entry, Option.map_some]
  · rw [hdrop] at ht
    obtain ⟨x, -, hchunk, hne⟩ := dropPackage_chunks _ _ ht
    rw [← hchunk]
    exact hne
  · rw [hstc, released_draining, if_pos hops]
    exact List.mem_append_right _ (List.mem_singleton.mpr rfl)
  · rw [hstc]
    exact released_queue _ _ _ havailable

theorem Gone.dropReference {w : Window} {writes : Prop} (h : s.Gone pid j w writes) (q : Nat) :
    (s.dropReference q).Gone pid j w writes := by
  have hcounted : ∀ (k : Nat) (x : TableEntry), (s.stc.unreferenced q).table[k]? = some (some x) → x.window.packageId ≠ pid := by
    intro k x hx hpid
    obtain ⟨y, hy, rfl⟩ := Storage.modWindow_some hx
    refine h.none_of k y hy ?_
    split at hpid <;> exact hpid
  have hentry : (s.stc.unreferenced q).table[j]? = some none := by
    unfold Storage.unreferenced
    rw [Storage.modWindow_entry, h.entry]
    rfl
  obtain hdrop | ⟨i, x, hfind, -, -, hdrop⟩ := s.dropReference_cases q
  · rw [hdrop]
    exact ⟨hcounted, hentry, h.tickets, h.draining, h.queue⟩
  · obtain ⟨hi, -⟩ := Storage.find_eq_some hfind
    have hji : j ≠ i := by
      rintro rfl
      rw [hentry] at hi
      cases hi
    refine ⟨fun k y hy => ?_, ?_, fun t ht => ?_, fun hops => ?_, fun hw => ?_⟩
    · rw [hdrop, dropPackage_stc] at hy
      exact hcounted k y (Storage.released_some hy).1
    · rw [hdrop, dropPackage_stc, Storage.released_entry hji]
      exact hentry
    · rw [hdrop] at ht
      obtain ⟨y, hy, hchunk, -⟩ := dropPackage_chunks _ _ ht
      rw [← hchunk]
      exact h.tickets y hy
    · rw [hdrop, dropPackage_stc]
      exact Storage.released_keeps_draining (h.draining hops)
    · obtain ⟨r, hr, hslot⟩ := h.queue hw
      rw [hdrop, dropPackage_stc]
      exact ⟨r, Storage.released_keeps_queue hr, hslot⟩

/-! ### Items that leave (R6) -/

/-- One item's reference dropped, if it has one. -/
def dropItem (s : State) (i : Item) : State :=
  match i.package with
  | none => s
  | some q => s.dropReference q

theorem dropItem_none {i : Item} (h : i.package = none) : s.dropItem i = s := by
  unfold State.dropItem
  rw [h]

theorem dropItem_some {i : Item} (h : i.package = some q) : s.dropItem i = s.dropReference q := by
  unfold State.dropItem
  rw [h]

theorem dropItems_eq (s : State) (items : List Item) : s.dropItems items = items.foldl State.dropItem s := rfl

theorem owns_dropItem_other (h : s.stc.Owns pid j e) {i : Item} (hi : i.package ≠ some pid) :
    (s.dropItem i).stc.Owns pid j e := by
  cases hpackage : i.package with
  | none =>
    rw [dropItem_none hpackage]
    exact h
  | some q =>
    rw [dropItem_some hpackage]
    exact owns_dropReference_other h fun hq => hi (hpackage.trans (congrArg some hq))

theorem Gone.dropItem {w : Window} {writes : Prop} (h : s.Gone pid j w writes) (i : Item) :
    (s.dropItem i).Gone pid j w writes := by
  cases hpackage : i.package with
  | none =>
    rw [dropItem_none hpackage]
    exact h
  | some q =>
    rw [dropItem_some hpackage]
    exact h.dropReference q

theorem Gone.dropItems {w : Window} {writes : Prop} (items : List Item) (h : s.Gone pid j w writes) :
    (items.foldl State.dropItem s).Gone pid j w writes := by
  induction items generalizing s with
  | nil => exact h
  | cons i rest ih => exact ih (h.dropItem i)

theorem dropItem_status (s : State) (i : Item) : (s.dropItem i).stc.status = s.stc.status := by
  cases hpackage : i.package with
  | none => rw [dropItem_none hpackage]
  | some q =>
    rw [dropItem_some hpackage]
    exact (Silent.dropReference s 0 q).status

/-- The references dropped while the window stays. -/
theorem owns_dropItems (items : List Item) {n : Nat} (h : s.stc.Owns pid j e)
    (hn : items.countP (fun x => x.package == some pid) = n)
    (hstays : e.window.state ≠ .retiring ∨ n < e.window.refs) : (items.foldl State.dropItem s).stc.Owns pid j
      { e with window := { e.window with refs := e.window.refs - n } } := by
  induction items generalizing s e n with
  | nil =>
    subst hn
    exact h
  | cons i rest ih =>
    rw [List.foldl_cons]
    by_cases hi : i.package = some pid
    · rw [List.countP_cons_of_pos (by rw [hi]; exact beq_self_eq_true _)] at hn
      have hself := owns_dropReference_self h (hstays.imp_right fun hlt => by omega)
      rw [dropItem_some hi]
      have hrest := ih hself rfl (hstays.imp id fun hlt => by dsimp only; omega)
      subst hn
      rw [Nat.sub_sub, Nat.add_comm 1] at hrest
      exact hrest
    · rw [List.countP_cons_of_neg (by simpa using hi)] at hn
      exact ih (owns_dropItem_other h hi) hn hstays

/-- The references dropped, the last of a RETIRING window among them. -/
theorem gone_dropItems (items : List Item) {n : Nat} (h : s.stc.Owns pid j e)
    (hn : items.countP (fun x => x.package == some pid) = n) (hstate : e.window.state = .retiring) (hpos : 0 < n)
    (hrefs : e.window.refs ≤ n) :
    (items.foldl State.dropItem s).Gone pid j e.window (s.stc.status ≠ some .unavailable) := by
  induction items generalizing s e n with
  | nil =>
    subst hn
    exact absurd hpos (Nat.lt_irrefl 0)
  | cons i rest ih =>
    rw [List.foldl_cons]
    by_cases hi : i.package = some pid
    · rw [List.countP_cons_of_pos (by rw [hi]; exact beq_self_eq_true _)] at hn
      by_cases hlast : e.window.refs ≤ 1
      · rw [dropItem_some hi]
        exact (gone_dropReference h hstate hlast).dropItems rest
      · have hself := owns_dropReference_self h (.inr (Nat.lt_of_not_le hlast))
        have hstatus := dropItem_status s i
        rw [dropItem_some hi] at hstatus ⊢
        rw [← hstatus]
        obtain ⟨h1, h2, h3, h4, h5⟩ := ih hself rfl hstate (by omega) (by dsimp only; omega)
        exact ⟨h1, h2, h3, h4, h5⟩
    · rw [List.countP_cons_of_neg (by simpa using hi)] at hn
      rw [← dropItem_status s i]
      exact ih (owns_dropItem_other h hi) hn hstate hpos hrefs

end State

/-! ### The table behind settling -/

/-- A package's window found again where only operations and stalled lanes differ. -/
theorem Storage.find_of_atRest {c d : Storage} {pid i : Nat} {e : TableEntry}
    (h : d.table.map (Option.map TableEntry.atRest) = c.table.map (Option.map TableEntry.atRest))
    (hfind : c.find pid = some (i, e)) : ∃ e', d.find pid = some (i, e') ∧ e'.atRest = e.atRest := by
  have hpackage : ∀ o, isPackage pid (Option.map TableEntry.atRest o) = isPackage pid o := fun o => by cases o <;> rfl
  have hfrom : ∀ t : List (Option TableEntry), findFrom (isPackage pid) 0 (t.map (Option.map TableEntry.atRest))
      = (findFrom (isPackage pid) 0 t).map fun x => (x.1, x.2.map TableEntry.atRest) := by
    intro t
    rw [findFrom_map]
    simp only [hpackage]
  have hboth := (hfrom d.table).symm.trans ((congrArg (findFrom (isPackage pid) 0) h).trans (hfrom c.table))
  have hc : findFrom (isPackage pid) 0 c.table = some (i, some e) := by
    unfold Storage.find at hfind
    split at hfind
    · rename_i k x hk
      cases hfind
      exact hk
    · cases hfind
  rw [hc, Option.map_some] at hboth
  obtain ⟨⟨k, o⟩, ho, hpair⟩ := Option.map_eq_some_iff.mp hboth
  obtain ⟨rfl, hrest⟩ := Prod.mk.inj hpair
  obtain ⟨e', rfl, he⟩ := Option.map_eq_some_iff.mp hrest
  refine ⟨e', ?_, he⟩
  unfold Storage.find
  rw [ho]

theorem TableEntry.refs_of_atRest {e e' : TableEntry} (h : e'.atRest = e.atRest) : e'.window.refs = e.window.refs :=
  congrArg (fun x => x.window.refs) h

/-! ### The queue's commands -/

theorem onLane_eq {body : List Byte} {s : State} {l : LaneId} (k : LaneId → Answer) (hl : u8 body 0 = l.val)
    (hfree : (s.lane l).pl.state ≠ .resetting) : onLane false body s k = k l := by
  have h4 : u8 body 0 < 4 := hl ▸ l.isLt
  have hlane : (⟨u8 body 0, h4⟩ : LaneId) = l := Fin.ext hl
  simp [onLane, h4, hlane, hfree]

theorem exec_appendItem {s : State} {body : List Byte} {l : LaneId} (hc : s.Commanded 0x43 body)
    (hlen : 2 ≤ body.length) (hl : u8 body 0 = l.val) (hfree : (s.lane l).pl.state ≠ .resetting) :
    exec .appendItem s = .next (appendItem l body s).state.settle := by
  have hexec : exec .appendItem s = _ := runCommand_eq (fun body s =>
    if body.length < 1 then .refused .badLength s else onLane false body s fun l => appendItem l body s) hc
  rw [hexec, if_neg (by omega), onLane_eq _ hl hfree]

/-- An item of a kind joined to a lane's queue (R82). -/
def State.joined (s : State) (l : LaneId) (kind : ItemKind) (rate channels : Nat) (reelFrames : List Nat) : State :=
  s.modPl l fun p => { p with queue := p.queue ++ [newItem p.uids kind rate channels reelFrames], uids := p.uids + 1 }

theorem appended_eq (l : LaneId) (kind : ItemKind) (rate channels : Nat) (reelFrames : List Nat) (applied : Option Nat)
    (s : State) : ∃ x, appended l kind rate channels reelFrames applied s
      = .done x (s.joined l kind rate channels reelFrames) := ⟨_, rfl⟩

/-- An item joined stands last, and the command leaves the rest of the part alone. -/
theorem joined_answered (s : State) (l : LaneId) (kind : ItemKind) (rate channels : Nat) (reelFrames : List Nat)
    (r : Reply) : LaneFrame s ((s.joined l kind rate channels reelFrames).answered r) l
      ∧ ((s.joined l kind rate channels reelFrames).answered r).held = s.held
      ∧ (((s.joined l kind rate channels reelFrames).answered r).lane l).pl.queue.map Item.kind
        = (s.lane l).pl.queue.map Item.kind ++ [kind] := by
  refine ⟨(State.Within.modPl s l _).toBeside.answered r, State.answered_held _ r, ?_⟩
  rw [State.answered_kinds, State.joined, State.lane_modPl_same]
  exact List.map_append

theorem appendComposition_eq {s : State} {body : List Byte} {l : LaneId} {i : Nat} {e : TableEntry}
    (hpid : u16 body 2 ≠ 0) (hfind : s.stc.find (u16 body 2) = some (i, e)) (hstate : e.window.state ≠ .retiring)
    (hreels : u8 body 4 ≤ u8 body 5) (hlast : u8 body 5 < e.record.decl.reels.length) :
    appendComposition l body s =
      if e.record.decl.licenceRequired ∧ u16 body 6 = 0 then .refused .licenceNeeded s
      else if (s.lane l).pl.queueRate.isSome ∧ (s.lane l).pl.queueRate ≠ some e.record.decl.rate then
        .refused .rateChange s
      else appended l (.composition (u16 body 2) (u8 body 4) (u8 body 5)
          (if u16 body 6 = 0 then none else some (u16 body 6))) e.record.decl.rate e.record.decl.channels
        (((e.record.decl.reels.map ReelDecl.frames).take (u8 body 5 + 1)).drop (u8 body 4)) none
        (s.addReference (u16 body 2)) := by
  unfold appendComposition
  dsimp only
  rw [identity_eq _ _ hpid, hfind]
  dsimp only
  rw [if_neg hstate, if_neg (by omega)]

theorem appendItem_composition {s : State} {body : List Byte} {l : LaneId} (hlen : body.length = 8)
    (hkind : u8 body 1 = 0) (hroom : (s.lane l).pl.queue.length < 16) :
    appendItem l body s = appendComposition l body s := by
  unfold appendItem
  rw [hkind, if_neg (show ¬ body.length < 2 by omega)]
  exact (if_neg (by simp [hlen])).trans (if_neg (by simpa using hroom))

/-- Settles O38: an item joined with its reference, items removed, and the count of each window behind a removal. -/
theorem queueEdited : Obligations.QueueEdited := by
  refine ⟨fun s body l hc hl hfree hroom => ⟨fun hlen hkind => ?_, fun hlen hkind => ?_, fun hlen hkind hpid => ?_,
      fun i e hlen hkind hpid hfind hstate hreels hlast => ?_⟩,
    ⟨fun s body l i hc hlen hl hfree hitem => ?_, fun s body l hc hlen hl hfree => ?_⟩, fun s u l leaves hu => ?_⟩
  · have happend : appendItem l body s = appended l (.black (clampNat 1 14400 (u16 body 2))) 0 0 []
        (some (clampNat 1 14400 (u16 body 2))) s := by
      unfold appendItem
      rw [hkind, if_neg (show ¬ body.length < 2 by omega)]
      exact (if_neg (by simp [hlen])).trans (if_neg (by simpa using hroom))
    obtain ⟨x, hx⟩ := appended_eq l (.black (clampNat 1 14400 (u16 body 2))) 0 0 []
      (some (clampNat 1 14400 (u16 body 2))) s
    rw [exec_appendItem hc (by omega) hl hfree, happend, hx, Answer.state_done]
    exact ⟨(s.joined l _ _ _ _).answered (.done x), rfl, joined_answered s l _ _ _ _ _⟩
  · have happend : appendItem l body s = appended l .intermission 0 0 [] none s := by
      unfold appendItem
      rw [hkind, if_neg (show ¬ body.length < 2 by omega)]
      exact (if_neg (by simp [hlen])).trans (if_neg (by simpa using hroom))
    obtain ⟨x, hx⟩ := appended_eq l .intermission 0 0 [] none s
    rw [exec_appendItem hc (by omega) hl hfree, happend, hx, Answer.state_done]
    exact ⟨(s.joined l _ _ _ _).answered (.done x), rfl, joined_answered s l _ _ _ _ _⟩
  · rw [exec_appendItem hc (by omega) hl hfree, appendItem_composition hlen hkind hroom]
    unfold appendComposition
    rw [hpid]
    rfl
  · rw [exec_appendItem hc (by omega) hl hfree, appendItem_composition hlen hkind hroom,
      appendComposition_eq hpid hfind hstate hreels hlast]
    refine ⟨fun hrequired hnone => ?_, fun hlicence hrate => ?_⟩
    · rw [if_pos ⟨hrequired, hnone⟩]
      rfl
    · have hlicensed : ¬ (e.record.decl.licenceRequired = true ∧ u16 body 6 = 0) := by
        rintro ⟨hrequired, hzero⟩
        rcases hlicence with hnot | hset
        · exact Bool.false_ne_true (hnot.symm.trans hrequired)
        · exact hset hzero
      have hsame : ¬ ((s.lane l).pl.queueRate.isSome = true ∧ (s.lane l).pl.queueRate ≠ some e.record.decl.rate) := by
        rintro ⟨hsome, hother⟩
        rcases hrate with hnone | hequal
        · rw [hnone] at hsome
          exact nomatch hsome
        · exact hother hequal
      rw [if_neg hlicensed, if_neg hsame]
      generalize hkind' : ItemKind.composition _ _ _ _ = kind
      generalize List.drop _ _ = frames
      obtain ⟨x, hx⟩ := appended_eq l kind e.record.decl.rate e.record.decl.channels frames none
        (s.addReference (u16 body 2))
      rw [hx, Answer.state_done]
      have hadded := State.Silent.addReference s l (u16 body 2)
      have hreferenced : (s.addReference (u16 body 2)).stc.find (u16 body 2)
          = some (i, { e with window := { e.window with refs := e.window.refs + 1 } }) := by
        unfold State.addReference
        rw [State.modStc_stc, Storage.find_modWindow _ _ (by exact fun _ => rfl), hfind]
        rfl
      have hlane : (s.addReference (u16 body 2)).lane l = s.lane l := rfl
      generalize s.addReference (u16 body 2) = w at hadded hreferenced hlane ⊢
      have hjoined : w.Within l (w.joined l kind e.record.decl.rate e.record.decl.channels frames) := .modPl w l _
      have hkinds := (joined_answered w l kind e.record.decl.rate e.record.decl.channels frames (.done x)).2.2
      have hstc : (w.joined l kind e.record.decl.rate e.record.decl.channels frames).stc = w.stc := rfl
      generalize w.joined l kind e.record.decl.rate e.record.decl.channels frames = v at hjoined hkinds hstc ⊢
      obtain ⟨e', hfound, hrest⟩ := Storage.find_of_atRest (v.reply (.done x)).settle_frame.stc.table
        (show (v.reply (.done x)).stc.find _ = _ by rw [← hreferenced, ← hstc]; rfl)
      exact ⟨v.answered (.done x), e', rfl, (hadded.toWithin.trans hjoined).toBeside.answered _,
        (State.answered_held _ _).trans (hadded.toWithin.trans hjoined).held, by rw [← hlane]; exact hkinds, hfound,
        TableEntry.refs_of_atRest hrest⟩
  · have hexec : exec .removeItem s = _ := runCommand_lane hc hlen hl hfree fun body s l => removeItem l (u8 body 1) s
    rw [hexec]
    unfold removeItem
    rw [hitem]
    dsimp only
    refine ⟨fun hstands => ?_, fun hpromoted hbegun => ?_⟩
    · rw [if_pos hstands]
      rfl
    · rw [if_neg (by simp [hpromoted, hbegun])]
      rfl
  · have hexec : exec .clearQueue s = _ := runCommand_lane hc hlen hl hfree fun _ s l => clearQueue l s
    have hwithin := (State.Silent.removeItems s l fun x => !x.promoted && !x.begun).toWithin
    have hown := s.removeItems_own l fun x => !x.promoted && !x.begun
    have hclear : clearQueue l s = .done (.cleared
        ((s.lane l).pl.queue.countP fun x => !x.promoted && !x.begun)
        ((s.lane l).pl.queue.countP fun x => x.promoted || x.begun))
        (s.removeItems l fun x => !x.promoted && !x.begun) := by
      have hcount := List.length_eq_countP_add_countP (fun x : Item => !x.promoted && !x.begun)
        (l := (s.lane l).pl.queue)
      have hstay : (s.lane l).pl.queue.countP (fun x => x.promoted || x.begun)
          = (s.lane l).pl.queue.countP fun x => decide (¬ (!x.promoted && !x.begun) = true) :=
        List.countP_congr fun x _ => by cases x.promoted <;> cases x.begun <;> simp
      have hafter : ((s.removeItems l fun x => !x.promoted && !x.begun).lane l).pl.queue.length
          = (s.lane l).pl.queue.countP fun x => x.promoted || x.begun := by
        rw [hown, ← List.countP_eq_length_filter]
        exact List.countP_congr fun x _ => by cases x.promoted <;> cases x.begun <;> simp
      unfold clearQueue
      dsimp only
      rw [hafter, hcount, ← hstay, Nat.add_sub_cancel]
    rw [hexec, hclear, Answer.state_done]
    generalize s.removeItems l (fun x => !x.promoted && !x.begun) = w at hwithin hown ⊢
    refine ⟨_, rfl, hwithin.toBeside.answered _, (State.answered_held _ _).trans hwithin.held, ?_, rfl⟩
    refine (State.answered_kinds w _ l).trans ?_
    rw [hown]
  · subst hu
    have hwithin := (State.Silent.removeItems s l leaves).toWithin
    refine ⟨by rw [State.removeItems_own], hwithin.others, fun pid j n e hfind hunique hn => ?_⟩
    obtain ⟨hentry, hpid⟩ := Storage.find_eq_some hfind
    have howns : (s.modPl l fun p => { p with queue := p.queue.filter fun i => !leaves i }).stc.Owns pid j e :=
      ⟨hentry, hpid, fun k x hx hk => hunique k x hx hk⟩
    have hremoved : s.removeItems l leaves = ((s.lane l).pl.queue.filter leaves).foldl State.dropItem
        (s.modPl l fun p => { p with queue := p.queue.filter fun i => !leaves i }) := rfl
    have hcount : ((s.lane l).pl.queue.filter leaves).countP (fun x => x.package == some pid) = n := by
      rw [List.countP_filter, hn]
      exact List.countP_congr fun x _ => by rw [Bool.and_comm]
    rw [hremoved]
    refine ⟨fun hstays => (State.owns_dropItems _ howns hcount hstays).find, fun hstate hpos hrefs => ?_⟩
    have hgone := State.gone_dropItems _ howns hcount hstate hpos hrefs
    exact ⟨hgone.find, hgone.entry, hgone.tickets, hgone.draining, hgone.queue⟩

end Sys2Proof.Machine
end

section
/-! PROOF. The showing counter at a presented frame (R60 to R62), and what a presentation leaves alone (R97, R98). -/

namespace Sys2Proof.Machine

open Sys2Proof

/-! ### Records of the log (R60) -/

namespace Showings

variable {h : Showings} {seq : Nat} {x : ShowRecord}

/-- A record changed by a function that keeps its number is found changed. -/
theorem findRecord_modRecord (h : Showings) (seq : Nat) {f : ShowRecord → ShowRecord} (hf : ∀ x, (f x).seq = x.seq) :
    (h.modRecord seq f).log.find? (fun y => y.seq == seq) = (h.log.find? fun y => y.seq == seq).map f := by
  unfold Showings.modRecord
  dsimp only
  induction h.log with
  | nil => rfl
  | cons x rest ih =>
    rw [List.map_cons, List.find?_cons, List.find?_cons, ih]
    by_cases hx : x.seq = seq
    · simp [hx, hf]
    · simp [hx, beq_eq_false_iff_ne.mpr hx]

/-- A record that stands in no earlier place is found at the log's end. -/
theorem findRecord_last {log : List ShowRecord} (hnew : ∀ y ∈ log, y.seq < x.seq) :
    (log ++ [x]).find? (fun y => y.seq == x.seq) = some x := by
  rw [List.find?_append, List.find?_eq_none.mpr fun y hy => by simpa using Nat.ne_of_lt (hnew y hy)]
  simp

/-- A change of the last record alone. -/
theorem modRecord_last {log : List ShowRecord} (f : ShowRecord → ShowRecord) (hnew : ∀ y ∈ log, y.seq < x.seq) :
    (log ++ [x]).map (fun y => if y.seq = x.seq then f y else y) = log ++ [f x] := by
  rw [List.map_append, List.map_singleton, if_pos rfl]
  refine congrArg (· ++ [f x]) ?_
  conv_rhs => rw [← List.map_id log]
  exact List.map_congr_left fun y hy => if_neg (Nat.ne_of_lt (hnew y hy))

/-- The counter's state behind the qualification of a lane's first showing (R62). -/
def qualifying (h : Showings) (booth : Option Nat) (l : LaneId) (r : Reservation) (rest : List Reservation) (seq : Nat) :
    Showings :=
  let k := h.modRecord seq fun x => { x with qualify := booth }
  let k := if h.mode = .live then k.modLicence r.licenceId fun c => { c with count := satInc top16 c.count } else k
  { k with reservations := k.reservations.set l ({ r with stage := .qualified seq } :: rest) }

variable {booth : Option Nat} {l : LaneId} {r : Reservation} {rest : List Reservation}

theorem qualifying_log : (h.qualifying booth l r rest seq).log
    = h.log.map fun x => if x.seq = seq then { x with qualify := booth } else x := by
  unfold qualifying
  dsimp only
  split <;> rfl

theorem qualifying_nextSeq : (h.qualifying booth l r rest seq).nextSeq = h.nextSeq := by
  unfold qualifying
  dsimp only
  split <;> rfl

theorem qualifying_reservations : (h.qualifying booth l r rest seq).reservations
    = h.reservations.set l ({ r with stage := .qualified seq } :: rest) := by
  unfold qualifying
  dsimp only
  split <;> rfl

theorem qualifying_find_live (hmode : h.mode = .live) {c : Licence} (hc : h.find r.licenceId = some c) :
    (h.qualifying booth l r rest seq).find r.licenceId = some { c with count := satInc top16 c.count } := by
  unfold qualifying
  dsimp only
  rw [if_pos hmode]
  have hfind := h.find_modLicence r.licenceId r.licenceId (f := fun c => { c with count := satInc top16 c.count })
    fun _ hid => hid
  rw [if_pos rfl, hc] at hfind
  exact hfind

theorem qualifying_licences (hmode : h.mode = .rehearsal) : (h.qualifying booth l r rest seq).licences = h.licences := by
  unfold qualifying
  dsimp only
  rw [if_neg (by rw [hmode]; exact nofun)]
  rfl

end Showings

namespace State

variable {s u v : State} {l : LaneId} {r : Reservation} {rest : List Reservation} {seq : Nat} {x : ShowRecord}

/-! ### The qualification test (R62) -/

theorem testQualify_now (hres : s.shc.reservations.get l = r :: rest) (hstage : r.stage = .showing seq)
    (hfind : s.shc.log.find? (fun y => y.seq == seq) = some x) (hmark : x.real = r.mark) (hqualify : x.qualify = none) :
    s.testQualify l
      = ({ s with shc := s.shc.qualifying s.clock.booth l r rest seq } : State).raiseLane l srcShowCounted := by
  unfold State.testQualify
  rw [hres]
  dsimp only
  rw [hstage]
  dsimp only
  rw [hfind]
  dsimp only
  rw [if_pos ⟨hmark, hqualify⟩]
  rfl

theorem testQualify_waits (hres : s.shc.reservations.get l = r :: rest) (hstage : r.stage = .showing seq)
    (hfind : s.shc.log.find? (fun y => y.seq == seq) = some x) (hmark : x.real ≠ r.mark) : s.testQualify l = s := by
  unfold State.testQualify
  rw [hres]
  dsimp only
  rw [hstage]
  dsimp only
  rw [hfind]
  exact if_neg (hmark ∘ And.left)

theorem testQualify_qualified (hres : s.shc.reservations.get l = r :: rest) (hstage : r.stage = .qualified seq) :
    s.testQualify l = s := by
  unfold State.testQualify
  rw [hres]
  dsimp only
  rw [hstage]

/-- A frame counted in the lane's record. -/
def realCounted (s : State) (seq : Nat) : State :=
  { s with shc := s.shc.modRecord seq fun y => { y with real := satInc top32 y.real } }

theorem showReal_showing (hres : s.shc.reservations.get l = r :: rest) (hstage : r.stage = .showing seq) :
    s.showReal l = (s.realCounted seq).testQualify l := by
  unfold State.showReal
  rw [hres]
  dsimp only
  rw [hstage]
  rfl

theorem showReal_qualified (hres : s.shc.reservations.get l = r :: rest) (hstage : r.stage = .qualified seq) :
    s.showReal l = s.realCounted seq := by
  have htest : s.showReal l = (s.realCounted seq).testQualify l := by
    unfold State.showReal
    rw [hres]
    dsimp only
    rw [hstage]
    rfl
  exact htest.trans (testQualify_qualified hres hstage)

/-- The record a first real frame makes (R60). -/
def firstRecord (s : State) (l : LaneId) (r : Reservation) : ShowRecord :=
  { seq := s.shc.nextSeq, licenceId := r.licenceId, packageId := r.packageId, lane := l, screen := r.screen,
    rehearsal := s.shc.mode == .rehearsal, start := s.clock.booth, qualify := none, ended := none, real := 1, fill := 0,
    outcome := .opened, cause := none }

/-- The counter behind a first real frame, before the test (R60). -/
def recordMade (s : State) (l : LaneId) (r : Reservation) (rest : List Reservation) : State :=
  { s with shc := { s.shc with
      log := s.shc.log ++ [s.firstRecord l r]
      nextSeq := s.shc.nextSeq + 1
      reservations := s.shc.reservations.set l ({ r with stage := .showing s.shc.nextSeq } :: rest) } }

theorem showReal_promoted (hres : s.shc.reservations.get l = r :: rest) (hstage : r.stage = .promoted) :
    s.showReal l = (s.recordMade l r rest).testQualify l := by
  unfold State.showReal
  rw [hres]
  dsimp only
  rw [hstage]
  rfl

theorem showFill_promoted (hres : s.shc.reservations.get l = r :: rest) (hstage : r.stage = .promoted) :
    s.showFill l = s := by
  unfold State.showFill
  rw [hres]
  dsimp only
  rw [hstage]

theorem showFill_open (hres : s.shc.reservations.get l = r :: rest)
    (hstage : r.stage = .showing seq ∨ r.stage = .qualified seq) :
    s.showFill l = { s with shc := s.shc.modRecord seq fun y => { y with fill := satInc top32 y.fill } } := by
  unfold State.showFill
  rw [hres]
  dsimp only
  rcases hstage with hstage | hstage <;> rw [hstage]

/-! ### The showing counter apart from the rest of the part -/

theorem testQualify_eq (s : State) (l : LaneId) :
    s.testQualify l = { s with shc := (s.testQualify l).shc, ntu := (s.testQualify l).ntu } := by
  unfold State.testQualify
  dsimp only
  split
  · split
    · split
      · rfl
      · split <;> rfl
    · rfl
    · rfl
  · rfl

theorem showReal_eq (s : State) (l : LaneId) :
    s.showReal l = { s with shc := (s.showReal l).shc, ntu := (s.showReal l).ntu } := by
  unfold State.showReal
  dsimp only
  split
  · split
    · rw [testQualify_eq]
    · rw [testQualify_eq]
    · rw [testQualify_eq]
  · rfl

theorem showFill_eq (s : State) (l : LaneId) : s.showFill l = { s with shc := (s.showFill l).shc } := by
  unfold State.showFill
  split
  · split <;> rfl
  · rfl

theorem testQualify_shc_congr (hshc : u.shc = s.shc) (hclock : u.clock = s.clock) (l : LaneId) :
    (u.testQualify l).shc = (s.testQualify l).shc := by
  unfold State.testQualify
  rw [hshc]
  split
  · split
    · split
      · exact hshc
      · split
        · rw [raiseLane, raise_shc, raiseLane, raise_shc]
          dsimp only
          rw [hclock]
        · exact hshc
    · exact hshc
    · exact hshc
  · exact hshc

/-- What the counter makes of a frame is read off the counter and booth time alone. -/
theorem showReal_shc_congr (hshc : u.shc = s.shc) (hclock : u.clock = s.clock) (l : LaneId) :
    (u.showReal l).shc = (s.showReal l).shc := by
  unfold State.showReal
  rw [hshc]
  split
  · split
    · refine testQualify_shc_congr ?_ ?_ l
      · dsimp only
        rw [hclock]
      · exact hclock
    · refine testQualify_shc_congr ?_ ?_ l
      · rfl
      · exact hclock
    · refine testQualify_shc_congr ?_ ?_ l
      · rfl
      · exact hclock
  · exact hshc

theorem showFill_shc_congr (hshc : u.shc = s.shc) (l : LaneId) : (u.showFill l).shc = (s.showFill l).shc := by
  unfold State.showFill
  rw [hshc]
  split
  · split
    · exact hshc
    · rfl
    · rfl
  · exact hshc

end State

end Sys2Proof.Machine
end

section
/-! PROOF. One presentation part by part: the screen's link, the frame handed on, the fill, the consumed head and the reel
that leaves hand (R91, R92, R97, R98, R150). -/

namespace Sys2Proof.Machine

open Sys2Proof

/-- The engine's step for a presented frame. -/
def CueEngine.shown (e : CueEngine) (i : Item) (b : BufSlot) : CueOut :=
  if i.isComposition then e.presented i.uid b.pos.reel b.pos.reelFrame else (e, [])

/-- The engine's step as a reel leaves hand with its last frame. -/
def CueEngine.left (e : CueEngine) (i : Item) (pos : Pos) : CueOut :=
  if i.isComposition && i.endsReel pos then e.leaveReel i.uid pos.reel else (e, [])

/-- The reels in hand behind a passed frame. -/
def Fetcher.left (f : Fetcher) (i : Item) (pos : Pos) : Fetcher :=
  if i.isComposition && i.endsReel pos then { f with inHand := f.inHand.filter fun r => r != (i.uid, pos.reel) } else f

/-- The lane's own record of a fill (R98). -/
def Playout.filled (p : Playout) : Playout :=
  { p with shown := true, inGap := true
           stats := { p.stats with
             fill := satInc top32 p.stats.fill
             gaps := if p.inGap then p.stats.gaps else satInc top32 p.stats.gaps } }

theorem Quad.set_set_same {α : Type} (q : Quad α) (k : Fin 4) (a b : α) : (q.set k a).set k b = q.set k b := by
  unfold Quad.set
  fin_cases k <;> rfl

namespace State

variable {s u v : State} {l : LaneId} {c : ScreenId}

/-! ### A screen that is sent to -/

/-- A lane's screen that is bound and not in HOLD. -/
def Reaches (s : State) (l : LaneId) (c : ScreenId) : Prop := (s.lane l).pl.screen = some c ∧ s.screenHeld c = false

theorem Reaches.congr (h : s.Reaches l c) (hheld : u.held = s.held)
    (hscreen : ∀ k, (u.lane k).pl.screen = (s.lane k).pl.screen) : u.Reaches l c :=
  ⟨(hscreen l).trans h.1, (screenHeld_congr hheld hscreen).trans h.2⟩

theorem Reaches.toScreen (h : s.Reaches l c) (x : ScreenCommand) : s.toScreen l x = s.emit (.screen c x) := by
  obtain ⟨hscreen, hheld⟩ := h
  unfold State.toScreen
  rw [hscreen]
  exact if_neg (by rw [hheld]; exact nofun)

theorem Reaches.toScreenAll (h : s.Reaches l c) (xs : List ScreenCommand) :
    s.toScreenAll l xs = { s with out := s.out ++ xs.map (.screen c) } := by
  induction xs generalizing s with
  | nil => simp [State.toScreenAll]
  | cons x rest ih =>
    have hsent : s.toScreenAll l (x :: rest) = (s.emit (.screen c x)).toScreenAll l rest := by
      rw [← h.toScreen]
      rfl
    have hreach : (s.emit (.screen c x)).Reaches l c := h.congr rfl fun _ => rfl
    rw [hsent, ih hreach]
    simp [State.emit]

theorem Reaches.cueStep_out (h : s.Reaches l c) (f : CueEngine → CueOut) :
    (s.cueStep l f).out = s.out ++ (f (s.lane l).sce).2.map (.screen c) := by
  unfold State.cueStep
  dsimp only
  have hmod : (s.modSce l fun _ => (f (s.lane l).sce).1).Reaches l c := h.congr rfl fun k => by
    rw [modSce_lane_pl]
  rw [hmod.toScreenAll]
  rfl

/-! ### What a presentation leaves alone -/

/-- A presentation on one lane, up to its item's end: stores, assembler, clock, holds and every other lane stay, and the
lane keeps its screen and its monitor. -/
structure Shows (s : State) (l : LaneId) (u : State) : Prop where
  stc : u.stc = s.stc := by exact rfl
  pka : u.pka = s.pka := by exact rfl
  clock : u.clock = s.clock := by exact rfl
  held : u.held = s.held := by exact rfl
  others : ∀ k, k ≠ l → u.lane k = s.lane k := by exact fun _ _ => rfl
  screen : (u.lane l).pl.screen = (s.lane l).pl.screen := by exact rfl
  ftm : (u.lane l).ftm = (s.lane l).ftm := by exact rfl

theorem Shows.refl (s : State) (l : LaneId) : s.Shows l s := {}

theorem Shows.trans (h : s.Shows l u) (k : u.Shows l v) : s.Shows l v where
  stc := k.stc.trans h.stc
  pka := k.pka.trans h.pka
  clock := k.clock.trans h.clock
  held := k.held.trans h.held
  others := fun j hj => (k.others j hj).trans (h.others j hj)
  screen := k.screen.trans h.screen
  ftm := k.ftm.trans h.ftm

theorem Shows.ite {p : Prop} [Decidable p] (h : s.Shows l u) (k : s.Shows l v) : s.Shows l (if p then u else v) := by
  split
  · exact h
  · exact k

theorem Shows.reaches (h : s.Shows l u) (hr : s.Reaches l c) : u.Reaches l c :=
  hr.congr h.held fun k => by
    by_cases hk : k = l
    · rw [hk]
      exact h.screen
    · rw [h.others k hk]

theorem Shows.modLane {f : Lane → Lane} (hscreen : (f (s.lane l)).pl.screen = (s.lane l).pl.screen)
    (hftm : (f (s.lane l)).ftm = (s.lane l).ftm) : s.Shows l (s.modLane l f) where
  others := fun _ hk => Quad.get_set_ne _ _ hk
  screen := by rw [lane_modLane_same]; exact hscreen
  ftm := by rw [lane_modLane_same]; exact hftm

theorem Shows.modPl {f : Playout → Playout} (hscreen : (f (s.lane l).pl).screen = (s.lane l).pl.screen) :
    s.Shows l (s.modPl l f) := .modLane hscreen rfl

theorem Shows.toScreen (s : State) (l : LaneId) (x : ScreenCommand) : s.Shows l (s.toScreen l x) := by
  unfold State.toScreen
  split
  · exact .refl s l
  · exact .ite (.refl s l) {}

theorem Shows.toScreenAll (s : State) (l : LaneId) (xs : List ScreenCommand) : s.Shows l (s.toScreenAll l xs) := by
  unfold State.toScreenAll
  induction xs generalizing s with
  | nil => exact .refl s l
  | cons x rest ih => exact (Shows.toScreen s l x).trans (ih _)

theorem Shows.cueStep (s : State) (l : LaneId) (f : CueEngine → CueOut) : s.Shows l (s.cueStep l f) :=
  (Shows.modLane (s := s) (l := l) (f := fun n => { n with sce := (f (s.lane l).sce).1 }) rfl rfl).trans
    (.toScreenAll _ l _)

theorem Shows.raiseLane (s : State) (l : LaneId) (n : Nat) : s.Shows l (s.raiseLane l n) := {}

theorem Shows.showReal (s : State) (l : LaneId) : s.Shows l (s.showReal l) := by
  rw [showReal_eq]
  exact {}

theorem Shows.showFill (s : State) (l : LaneId) : s.Shows l (s.showFill l) := by
  rw [showFill_eq]
  exact {}

theorem Shows.rampDown (s : State) (l : LaneId) (toOff : Bool) : s.Shows l (s.rampDown l toOff) := by
  refine .modLane ?_ ?_ <;> rw [Lane.rampDown_eq]

/-! ### The sound of a presented frame (R131, R175) -/

/-- A presented frame changes a lane's sound, and frees slots of its buffer. -/
theorem soundPresented_own (s : State) (l : LaneId) (h : Handed) (real : Bool) :
    ∃ buffer n, (s.soundPresented l h real).lane l
      = { s.lane l with pl := { (s.lane l).pl with buffer := buffer }, sne := n } := by
  have hmod : ∀ f : Lane → Lane, (∃ n, f (s.lane l) = { s.lane l with sne := n }) →
      ∃ buffer n, (s.modLane l fun n => (f n).reported).lane l
        = { s.lane l with pl := { (s.lane l).pl with buffer := buffer }, sne := n } := by
    rintro f ⟨n, hf⟩
    refine ⟨(f (s.lane l)).reported.pl.buffer, n, ?_⟩
    rw [lane_modLane_same, Lane.reported_eq]
    rw [hf]
  unfold State.soundPresented
  dsimp only
  split
  · obtain ⟨n, _, hn, -⟩ := Lane.soundFrame_cases (s.lane l) h s.clock.samples
    obtain ⟨buffer, m, hm⟩ := hmod (fun n => n.soundFrame h s.clock.samples) ⟨n, hn⟩
    refine ⟨buffer, m, ?_⟩
    split
    · rw [State.raiseLane, lane_raise]
      exact hm
    · exact hm
  · obtain ⟨n, _, hn, -⟩ := Lane.silentFrame_cases (s.lane l) h s.clock.samples real
    exact hmod (fun n => n.silentFrame h s.clock.samples real) ⟨n, hn⟩

theorem soundPresented_others (s : State) (l : LaneId) (h : Handed) (real : Bool) {k : LaneId} (hk : k ≠ l) :
    (s.soundPresented l h real).lane k = s.lane k := by
  unfold State.soundPresented
  dsimp only
  split
  · split
    · exact Quad.get_set_ne _ _ hk
    · exact Quad.get_set_ne _ _ hk
  · exact Quad.get_set_ne _ _ hk

theorem soundPresented_same (s : State) (l : LaneId) (h : Handed) (real : Bool) :
    s.soundPresented l h real
      = { s with lanes := (s.soundPresented l h real).lanes, ntu := (s.soundPresented l h real).ntu } := by
  unfold State.soundPresented
  dsimp only
  split
  · split <;> rfl
  · rfl

theorem soundPresented_silent (s : State) (l : LaneId) (h : Handed) : (s.soundPresented l h false).ntu = s.ntu := by
  unfold State.soundPresented
  dsimp only
  rw [if_neg (by simp)]
  rfl

theorem Shows.soundPresented (s : State) (l : LaneId) (h : Handed) (real : Bool) :
    s.Shows l (s.soundPresented l h real) := by
  have hsame := s.soundPresented_same l h real
  obtain ⟨buffer, n, hown⟩ := s.soundPresented_own l h real
  exact { stc := by rw [hsame], pka := by rw [hsame], clock := by rw [hsame], held := by rw [hsame]
          others := fun k hk => s.soundPresented_others l h real hk
          screen := by rw [hown], ftm := by rw [hown] }

/-! ### The frame presented (R97) -/

/-- The showing counter handed a presented frame, where its item is licensed. -/
def showsReal (s : State) (l : LaneId) (i : Item) : State := if i.licence.isSome then s.showReal l else s

/-- The cue engine handed a presented frame of a COMPOSITION. -/
def cuesPresented (s : State) (l : LaneId) (i : Item) (b : BufSlot) : State :=
  if i.isComposition then s.cueStep l fun e => e.presented i.uid b.pos.reel b.pos.reelFrame else s

/-- The frame on the link, and the lane's record of it. -/
def frameSent (s : State) (l : LaneId) (i : Item) (b : BufSlot) : State :=
  (s.toScreen l (if i.isComposition then .frame b.frameBytes else .black)).modPl l fun p => p.presented i b

theorem framePresented_eq (s : State) (l : LaneId) (i : Item) (b : BufSlot) : s.framePresented l i b
    = (((s.frameSent l i b).showsReal l i).cuesPresented l i b).soundPresented l (handedFrame (s.lane l).pl i b.pos)
        i.isComposition := rfl

theorem Shows.frameSent (s : State) (l : LaneId) (i : Item) (b : BufSlot) : s.Shows l (s.frameSent l i b) :=
  (Shows.toScreen s l _).trans (.modPl rfl)

theorem Shows.showsReal (s : State) (l : LaneId) (i : Item) : s.Shows l (s.showsReal l i) :=
  .ite (.showReal s l) (.refl s l)

theorem Shows.cuesPresented (s : State) (l : LaneId) (i : Item) (b : BufSlot) : s.Shows l (s.cuesPresented l i b) :=
  .ite (.cueStep s l _) (.refl s l)

theorem Shows.framePresented (s : State) (l : LaneId) (i : Item) (b : BufSlot) : s.Shows l (s.framePresented l i b) :=
  (((Shows.frameSent s l i b).trans (.showsReal _ l i)).trans (.cuesPresented _ l i b)).trans (.soundPresented _ l _ _)

theorem showsReal_lane (s : State) (l k : LaneId) (i : Item) : (s.showsReal l i).lane k = s.lane k := by
  unfold State.showsReal
  split
  · rw [showReal_eq]
    rfl
  · rfl

theorem frameSent_own (s : State) (l : LaneId) (i : Item) (b : BufSlot) :
    (s.frameSent l i b).lane l = { s.lane l with pl := (s.lane l).pl.presented i b } := by
  unfold State.frameSent
  rw [lane_modPl_same, toScreen_lane]

theorem cuesPresented_own (s : State) (l : LaneId) (i : Item) (b : BufSlot) :
    (s.cuesPresented l i b).lane l = { s.lane l with sce := ((s.lane l).sce.shown i b).1 } := by
  unfold State.cuesPresented CueEngine.shown
  split
  · rw [lane_cueStep, if_pos rfl]
  · rfl

/-- The lane behind a presented frame, its buffer and its sound left open. -/
theorem framePresented_own (s : State) (l : LaneId) (i : Item) (b : BufSlot) :
    ∃ buffer n, (s.framePresented l i b).lane l = { s.lane l with
      pl := { (s.lane l).pl.presented i b with buffer := buffer }
      sce := ((s.lane l).sce.shown i b).1
      sne := n } := by
  obtain ⟨buffer, n, hown⟩ := (((s.frameSent l i b).showsReal l i).cuesPresented l i b).soundPresented_own l
    (handedFrame (s.lane l).pl i b.pos) i.isComposition
  refine ⟨buffer, n, ?_⟩
  rw [framePresented_eq, hown, cuesPresented_own, showsReal_lane, frameSent_own]

theorem Reaches.cuesPresented_out (h : s.Reaches l c) (i : Item) (b : BufSlot) :
    (s.cuesPresented l i b).out = s.out ++ ((s.lane l).sce.shown i b).2.map (.screen c) := by
  unfold State.cuesPresented CueEngine.shown
  split
  · exact h.cueStep_out _
  · simp

theorem showsReal_out (s : State) (l : LaneId) (i : Item) : (s.showsReal l i).out = s.out := by
  unfold State.showsReal
  split
  · rw [showReal_eq]
  · rfl

/-- FRAME, or BLACK, stands first of what a presented frame sends (R97). -/
theorem Reaches.framePresented_out (h : s.Reaches l c) (i : Item) (b : BufSlot) : (s.framePresented l i b).out = s.out
    ++ .screen c (if i.isComposition then .frame b.frameBytes else .black)
      :: ((s.lane l).sce.shown i b).2.map (.screen c) := by
  have hreach := ((Shows.frameSent s l i b).trans (.showsReal _ l i)).reaches h
  rw [framePresented_eq, soundPresented_same, hreach.cuesPresented_out, showsReal_out, showsReal_lane, frameSent_own]
  unfold State.frameSent
  rw [h.toScreen]
  simp [State.modPl, State.modLane, State.emit]

theorem toScreen_shc' (s : State) (l : LaneId) (x : ScreenCommand) : (s.toScreen l x).shc = s.shc := by
  obtain ⟨more, hmore⟩ := s.toScreen_out l x
  rw [hmore]

theorem cueStep_shc (s : State) (l : LaneId) (f : CueEngine → CueOut) : (s.cueStep l f).shc = s.shc :=
  (cueStep_same s l f).2.2.2.1

/-- The showing counter behind a presented frame (R60 to R62). -/
theorem framePresented_shc (s : State) (l : LaneId) (i : Item) (b : BufSlot) :
    (s.framePresented l i b).shc = if i.licence.isSome then (s.showReal l).shc else s.shc := by
  have hsent : (s.frameSent l i b).shc = s.shc := toScreen_shc' s l _
  have hcues : ∀ u : State, (u.cuesPresented l i b).shc = u.shc := fun u => by
    unfold State.cuesPresented
    split
    · exact cueStep_shc u l _
    · rfl
  rw [framePresented_eq, soundPresented_same]
  dsimp only
  rw [hcues]
  unfold State.showsReal
  split
  · exact showReal_shc_congr hsent (Shows.frameSent s l i b).clock l
  · exact hsent

theorem toScreen_ntu (s : State) (l : LaneId) (x : ScreenCommand) : (s.toScreen l x).ntu = s.ntu := by
  obtain ⟨more, hmore⟩ := s.toScreen_out l x
  rw [hmore]

/-- A frame of an item that is no COMPOSITION raises nothing. -/
theorem framePresented_ntu (s : State) {l : LaneId} {i : Item} (b : BufSlot) (hi : i.isComposition = false)
    (hlicence : i.licence = none) : (s.framePresented l i b).ntu = s.ntu := by
  have hcues : ((s.frameSent l i b).showsReal l i).cuesPresented l i b = s.frameSent l i b := by
    unfold State.cuesPresented State.showsReal
    rw [hi, hlicence]
    rfl
  rw [framePresented_eq, hcues, hi, soundPresented_silent]
  exact toScreen_ntu s l _

/-! ### The reel that leaves hand (R91, R150) -/

/-- A passed frame's reel leaves hand where the frame is its last. -/
def leftReel (s : State) (l : LaneId) (i : Item) (pos : Pos) : State :=
  if i.isComposition && i.endsReel pos then s.leaveReel l i.uid pos.reel else s

theorem passFrame_eq (s : State) (l : LaneId) (i : Item) (pos : Pos) : s.passFrame l i pos
    = if (i.after pos).isNone then (s.leftReel l i pos).itemEnd l i else s.leftReel l i pos := rfl

theorem passFrame_more {q : Pos} {i : Item} {pos : Pos} (h : i.after pos = some q) (s : State) (l : LaneId) :
    s.passFrame l i pos = s.leftReel l i pos := by
  rw [passFrame_eq, h]
  rfl

theorem passFrame_last {i : Item} {pos : Pos} (h : i.after pos = none) (s : State) (l : LaneId) :
    s.passFrame l i pos = (s.leftReel l i pos).itemEnd l i := by
  rw [passFrame_eq, h]
  rfl

theorem Shows.leftReel (s : State) (l : LaneId) (i : Item) (pos : Pos) : s.Shows l (s.leftReel l i pos) := by
  refine .ite ?_ (.refl s l)
  unfold State.leaveReel
  exact (Shows.modPl rfl).trans (.cueStep _ l _)

theorem leftReel_own (s : State) (l : LaneId) (i : Item) (pos : Pos) : (s.leftReel l i pos).lane l = { s.lane l with
    pl := { (s.lane l).pl with fetch := (s.lane l).pl.fetch.left i pos }
    sce := ((s.lane l).sce.left i pos).1 } := by
  unfold State.leftReel Fetcher.left CueEngine.left State.leaveReel
  split
  · rw [lane_cueStep, if_pos rfl, State.modFetch, lane_modPl_same]
  · rfl

theorem leftReel_shc (s : State) (l : LaneId) (i : Item) (pos : Pos) : (s.leftReel l i pos).shc = s.shc := by
  unfold State.leftReel State.leaveReel
  split
  · exact cueStep_shc _ l _
  · rfl

theorem cueStep_ntu (s : State) (l : LaneId) (f : CueEngine → CueOut) : (s.cueStep l f).ntu = s.ntu := by
  unfold State.cueStep
  dsimp only
  obtain ⟨more, hmore⟩ := (s.modSce l fun _ => (f (s.lane l).sce).1).toScreenAll_out l (f (s.lane l).sce).2
  rw [hmore]
  rfl

theorem leftReel_ntu (s : State) (l : LaneId) (i : Item) (pos : Pos) : (s.leftReel l i pos).ntu = s.ntu := by
  unfold State.leftReel State.leaveReel
  split
  · exact cueStep_ntu _ l _
  · rfl

theorem Reaches.leftReel_out (h : s.Reaches l c) (i : Item) (pos : Pos) :
    (s.leftReel l i pos).out = s.out ++ ((s.lane l).sce.left i pos).2.map (.screen c) := by
  unfold State.leftReel CueEngine.left State.leaveReel
  split
  · have hreach : (s.modFetch l fun f => { f with inHand := f.inHand.filter fun r => r != (i.uid, pos.reel) }).Reaches l c :=
      (Shows.modPl rfl).reaches h
    rw [hreach.cueStep_out, State.modFetch, lane_modPl_same]
    rfl
  · simp

/-! ### Fills (R98) -/

/-- The showing counter handed a fill, where the item is licensed. -/
def showsFill (s : State) (l : LaneId) (i : Item) : State := if i.licence.isSome then s.showFill l else s

theorem showsFill_eq (s : State) (l : LaneId) (i : Item) : s.showsFill l i = { s with shc := (s.showsFill l i).shc } := by
  unfold State.showsFill
  split
  · rw [showFill_eq]
  · rfl

/-- A fill up to its ramp-down. -/
def fillCounted (s : State) (l : LaneId) (i : Item) : State :=
  (((s.toScreen l (fillCommand (s.lane l).pl)).showsFill l i).modPl l Playout.filled).raiseLane l srcGap

theorem fill_eq (s : State) (l : LaneId) (i : Item) : s.fill l i =
    if (s.lane l).pl.inGap then s.fillCounted l i else (s.fillCounted l i).rampDown l false := by
  have hgap : ((s.toScreen l (fillCommand (s.lane l).pl)).lane l).pl.inGap = (s.lane l).pl.inGap := by rw [toScreen_lane]
  have hlane : ((s.toScreen l (fillCommand (s.lane l).pl)).showsFill l i).lane l = s.lane l := by
    rw [showsFill_eq]
    exact toScreen_lane s l l _
  have hcounted : (((s.toScreen l (fillCommand (s.lane l).pl)).showsFill l i).modPl l fun p =>
      { p with shown := true, inGap := true
               stats := { p.stats with
                 fill := satInc top32 p.stats.fill
                 gaps := if !(s.lane l).pl.inGap then satInc top32 p.stats.gaps else p.stats.gaps } })
      = ((s.toScreen l (fillCommand (s.lane l).pl)).showsFill l i).modPl l Playout.filled := by
    refine modPl_congr ?_
    rw [hlane]
    unfold Playout.filled
    cases (s.lane l).pl.inGap <;> rfl
  unfold State.fillCounted
  unfold State.showsFill at hcounted ⊢
  unfold State.fill
  dsimp only
  rw [hgap, hcounted]
  cases (s.lane l).pl.inGap <;> rfl

theorem Shows.showsFill (s : State) (l : LaneId) (i : Item) : s.Shows l (s.showsFill l i) := by
  rw [showsFill_eq]
  exact {}

theorem Shows.fillCounted (s : State) (l : LaneId) (i : Item) : s.Shows l (s.fillCounted l i) :=
  (((Shows.toScreen s l _).trans (.showsFill _ l i)).trans (.modPl rfl)).trans (.raiseLane _ l _)

theorem Shows.fill (s : State) (l : LaneId) (i : Item) : s.Shows l (s.fill l i) := by
  rw [fill_eq]
  exact .ite (.fillCounted s l i) ((Shows.fillCounted s l i).trans (.rampDown _ l false))

theorem fillCounted_own (s : State) (l : LaneId) (i : Item) :
    (s.fillCounted l i).lane l = { s.lane l with pl := (s.lane l).pl.filled } := by
  unfold State.fillCounted
  rw [raiseLane, lane_raise, lane_modPl_same, showsFill_eq]
  have hlane : ({ s.toScreen l (fillCommand (s.lane l).pl) with
      shc := ((s.toScreen l (fillCommand (s.lane l).pl)).showsFill l i).shc } : State).lane l = s.lane l :=
    toScreen_lane s l l _
  rw [hlane]

/-- The lane behind a fill, its sound left open. -/
theorem fill_own (s : State) (l : LaneId) (i : Item) :
    ∃ n, (s.fill l i).lane l = { s.lane l with pl := (s.lane l).pl.filled, sne := n } := by
  rw [fill_eq]
  split
  · exact ⟨_, s.fillCounted_own l i⟩
  · refine ⟨(((s.fillCounted l i).rampDown l false).lane l).sne, ?_⟩
    rw [rampDown_own, Lane.rampDown_eq, fillCounted_own]

theorem fill_same (s : State) (l : LaneId) (i : Item) : (s.fill l i).shc = (s.fillCounted l i).shc
    ∧ (s.fill l i).out = (s.fillCounted l i).out ∧ (s.fill l i).ntu = (s.fillCounted l i).ntu := by
  rw [fill_eq]
  split <;> exact ⟨rfl, rfl, rfl⟩

theorem fill_shc (s : State) (l : LaneId) (i : Item) :
    (s.fill l i).shc = if i.licence.isSome then (s.showFill l).shc else s.shc := by
  rw [(s.fill_same l i).1]
  have hcounted : (s.fillCounted l i).shc = ((s.toScreen l (fillCommand (s.lane l).pl)).showsFill l i).shc := rfl
  rw [hcounted]
  unfold State.showsFill
  split
  · exact showFill_shc_congr (toScreen_shc' s l _) l
  · exact toScreen_shc' s l _

theorem Reaches.fill_out (h : s.Reaches l c) (i : Item) :
    (s.fill l i).out = s.out ++ [.screen c (fillCommand (s.lane l).pl)] := by
  rw [(s.fill_same l i).2.1]
  have hcounted : (s.fillCounted l i).out = ((s.toScreen l (fillCommand (s.lane l).pl)).showsFill l i).out := rfl
  rw [hcounted, showsFill_eq, h.toScreen]
  rfl

theorem fill_raised (s : State) (l : LaneId) (i : Item) :
    (s.fill l i).ntu.raised.getLsbD (laneSource l srcGap) = true := by
  rw [(s.fill_same l i).2.2]
  exact raiseLane_raised _ l (by decide)

/-! ### Policy STOP (R98) -/

theorem gapPause_own (s : State) (l : LaneId) : ((s.gapPause l).lane l).pl
    = { (s.lane l).pl with state := .paused, pause := some .gap, fault := some .gap } := by
  unfold State.gapPause
  rw [laneFault_own, (enterPaused_own s l .gap).1]

theorem gapPause_same (s : State) (l : LaneId) : (s.gapPause l).shc = s.shc ∧ (s.gapPause l).stc = s.stc := by
  obtain ⟨-, -, hstc, hshc, -⟩ := enterPaused_same s l .gap
  exact ⟨hshc, hstc⟩

theorem gapPause_raised (s : State) (l : LaneId) :
    (s.gapPause l).ntu.raised.getLsbD (laneSource l srcLaneFault) = true := laneFault_raised _ l _

theorem abortGate_out (s : State) (l : LaneId) (r : GateResult) : (s.abortGate l r).out = s.out := by
  unfold State.abortGate State.raiseGate
  dsimp only
  split
  · split <;> rfl
  · rfl

theorem endWatch_out (s : State) (l : LaneId) (r : GateResult) : (s.endWatch l r).out = s.out := by
  unfold State.endWatch
  dsimp only
  split
  · exact abortGate_out s l r
  · rfl

/-- The pause of a gap sends the HIDEs of the slots not hidden (R155). -/
theorem Reaches.gapPause_out (h : s.Reaches l c) : (s.gapPause l).out = s.out ++ ((s.lane l).sce.slotCommands
    fun k a => if a.hidden then none else some (.hide k.val)).map (.screen c) := by
  have hquiet : s.Silent l (((s.modPl l fun p => { p with state := .paused, pause := some .gap }).endWatch l
      PauseCause.gap.gateResult).rampDown l false) :=
    ((Silent.modPl s l _).trans (.endWatch _ l _)).trans (.rampDown _ l _)
  have hown : (((s.modPl l fun p => { p with state := .paused, pause := some .gap }).endWatch l
      PauseCause.gap.gateResult).rampDown l false).lane l
      = { s.lane l with
          pl := { (s.lane l).pl with state := .paused, pause := some .gap }
          ftm := (s.lane l).ftm.unwatched PauseCause.gap.gateResult s.clock.now
          sne := ((((s.modPl l fun p => { p with state := .paused, pause := some .gap }).endWatch l
            PauseCause.gap.gateResult).rampDown l false).lane l).sne } := by
    rw [rampDown_own, Lane.rampDown_eq, endWatch_own, lane_modPl_same]
    rfl
  have hreach : (((s.modPl l fun p => { p with state := .paused, pause := some .gap }).endWatch l
      PauseCause.gap.gateResult).rampDown l false).Reaches l c := h.congr hquiet.held fun k => by
    by_cases hk : k = l
    · rw [hk, hown]
    · rw [hquiet.others k hk]
  have hsent : (s.gapPause l).out = ((((s.modPl l fun p => { p with state := .paused, pause := some .gap }).endWatch l
      PauseCause.gap.gateResult).rampDown l false).cueStep l fun e => e.paused .gap).out := rfl
  rw [hsent, hreach.cueStep_out, hown, CueEngine.paused_hides _ (.inr rfl)]
  exact congrArg (· ++ _) (endWatch_out _ l _)

/-! ### The head a pulse finds (R97, R98) -/

variable {i : Item} {rest : List Item} {pos : Pos} {b : BufSlot}

theorem headSlot_pos (h : s.headSlot l i pos = some b) : b.pos = pos ∧ b.item = i.uid := by
  have hb := List.find?_some h
  simp only [Bool.and_eq_true, beq_iff_eq] at hb
  exact ⟨hb.1.2, hb.1.1⟩

theorem presentPulse_missing (hq : (s.lane l).pl.queue = i :: rest) (hn : (s.lane l).pl.next = some pos)
    (h : ∀ b, s.headSlot l i pos = some b → b.stage = .reading) : s.presentPulse l = s.missingHead l i := by
  unfold State.headSlot at h
  unfold State.presentPulse
  dsimp only
  rw [hq, hn]
  dsimp only [List.head?]
  split
  · rfl
  · rename_i b hb
    exact if_pos (h b hb)

theorem presentPulse_faulted (hq : (s.lane l).pl.queue = i :: rest) (hn : (s.lane l).pl.next = some pos)
    (h : s.headSlot l i pos = some b) (hstage : b.stage ≠ .reading) (hfault : b.faulted = true) :
    s.presentPulse l = s.faultedHead l i b := by
  unfold State.headSlot at h
  unfold State.presentPulse
  dsimp only
  rw [hq, hn]
  dsimp only [List.head?]
  rw [h]
  dsimp only
  rw [if_neg hstage, if_pos hfault]

theorem presentPulse_ready (hq : (s.lane l).pl.queue = i :: rest) (hn : (s.lane l).pl.next = some pos)
    (h : s.headSlot l i pos = some b) (hstage : b.stage = .ready) (hfault : b.faulted = false) :
    s.presentPulse l = s.presentFrame l i b := by
  unfold State.headSlot at h
  unfold State.presentPulse
  dsimp only
  rw [hq, hn]
  dsimp only [List.head?]
  rw [h]
  dsimp only
  rw [if_neg (by rw [hstage]; exact nofun), if_neg (by rw [hfault]; exact nofun)]

theorem missingHead_fill (h : (s.lane l).pl.set.gapPolicy ≠ .stop) (i : Item) : s.missingHead l i = s.fill l i := if_neg h

theorem missingHead_stop (h : (s.lane l).pl.set.gapPolicy = .stop) (i : Item) : s.missingHead l i = s.gapPause l := if_pos h

/-- A faulted head filled and consumed, before its frame is passed. -/
def fillConsumed (s : State) (l : LaneId) (i : Item) (b : BufSlot) : State :=
  (s.fill l i).modPl l fun p => p.consumed i b

theorem faultedHead_fill (h : (s.lane l).pl.set.gapPolicy ≠ .stop) (i : Item) (b : BufSlot) :
    s.faultedHead l i b = (s.fillConsumed l i b).passFrame l i b.pos := if_neg h

/-- A presented frame that is not its item's last (R97). -/
theorem presentFrame_more {q : Pos} (hafter : i.after b.pos = some q) (s : State) (l : LaneId) :
    s.presentFrame l i b = ((s.framePresented l i b).leftReel l i b.pos).relieved l := by
  rw [presentFrame_eq, passFrame_more hafter]

end State

/-- Settles O33: each stage of the lane's first reservation at a real frame and at a fill. -/
theorem showingQualifies : Obligations.ShowingQualifies := by
  refine ⟨fun s l r rest seq x hres hstage hfind hqualify => ?_, fun s u l r rest x hbounded hres hstage hu hx => ?_,
    fun s l r rest seq hres => ⟨State.showReal_qualified hres, State.showFill_promoted hres, State.showFill_open hres⟩,
    fun s l i rest pos q hqueue hnext hafter => ⟨fun b hhead hready hfault => ?_, fun hpolicy hhead => ?_⟩⟩
  · have hcounted : (s.realCounted seq).shc.log.find? (fun y => y.seq == seq)
        = some { x with real := satInc top32 x.real } := by
      refine (s.shc.findRecord_modRecord seq (by exact fun _ => rfl)).trans ?_
      rw [hfind]
      rfl
    have hres' : (s.realCounted seq).shc.reservations.get l = r :: rest := hres
    rw [State.showReal_showing hres hstage]
    refine ⟨fun hbelow => State.testQualify_waits hres' hstage hcounted hbelow, fun hmark => ?_⟩
    rw [State.testQualify_now hres' hstage hcounted hmark hqualify, State.raiseLane, State.raise_shc]
    dsimp only
    refine ⟨?_, State.raise_raised _ (by have := l.isLt; unfold laneSource srcShowCounted; omega), ?_, fun hlive c hc => ?_,
      fun hrehearsal => ?_, rfl, rfl⟩
    · rw [Showings.qualifying_reservations, Quad.get_set_same]
    · rw [Showings.qualifying_log]
      refine ((s.realCounted seq).shc.findRecord_modRecord seq (by exact fun _ => rfl)).trans ?_
      rw [hcounted]
      rfl
    · exact Showings.qualifying_find_live (h := (s.realCounted seq).shc) hlive hc
    · exact Showings.qualifying_licences hrehearsal
  · obtain ⟨-, hnew⟩ := hbounded
    subst hu hx
    have hfound : (s.recordMade l r rest).shc.log.find? (fun y => y.seq == s.shc.nextSeq) = some (s.firstRecord l r) :=
      Showings.findRecord_last (x := s.firstRecord l r) hnew
    have hres' : (s.recordMade l r rest).shc.reservations.get l = { r with stage := .showing s.shc.nextSeq } :: rest :=
      Quad.get_set_same _ _ _
    rw [State.showReal_promoted hres hstage]
    refine ⟨fun hmark => State.testQualify_waits hres' rfl hfound (Ne.symm hmark), fun hmark => ?_⟩
    rw [State.testQualify_now hres' rfl hfound hmark.symm rfl, State.raiseLane, State.raise_shc]
    dsimp only
    refine ⟨?_, ?_, ?_, State.raise_raised _ (by have := l.isLt; unfold laneSource srcShowCounted; omega), fun hlive c hc => ?_,
      fun hrehearsal => ?_, rfl, rfl⟩
    · rw [Showings.qualifying_log]
      exact Showings.modRecord_last (x := s.firstRecord l r) _ hnew
    · rw [Showings.qualifying_nextSeq]
      rfl
    · rw [Showings.qualifying_reservations]
      exact Quad.set_set_same _ _ _ _
    · exact Showings.qualifying_find_live (h := (s.recordMade l r rest).shc)
        (r := { r with stage := .showing s.shc.nextSeq }) hlive hc
    · exact Showings.qualifying_licences hrehearsal
  · obtain ⟨hpos, -⟩ := State.headSlot_pos hhead
    rw [← hpos] at hafter
    rw [State.presentPulse_ready hqueue hnext hhead hready hfault, State.presentFrame_more hafter]
    have hrelieved : ∀ w : State, (w.relieved l).shc = w.shc := fun _ => rfl
    rw [hrelieved, State.leftReel_shc, State.framePresented_shc]
  · by_cases hmissing : ∀ b, s.headSlot l i pos = some b → b.stage = .reading
    · rw [State.presentPulse_missing hqueue hnext hmissing, State.missingHead_fill hpolicy, State.fill_shc]
    · obtain ⟨b, hb, hstage⟩ : ∃ b, s.headSlot l i pos = some b ∧ b.stage ≠ .reading := by
        simpa only [not_forall, exists_prop] using hmissing
      obtain ⟨hpos, -⟩ := State.headSlot_pos hb
      rw [← hpos] at hafter
      rw [State.presentPulse_faulted hqueue hnext hb hstage ((hhead b hb).resolve_left hstage),
        State.faultedHead_fill hpolicy, State.passFrame_more hafter, State.leftReel_shc]
      exact s.fill_shc l i

end Sys2Proof.Machine
end

section
/-! PROOF. A pulse that presents, fills or ends an item (R91, R97 to R99, R150). -/

namespace Sys2Proof.Machine

open Sys2Proof

/-! ### The engine's banks under presentation (R150, R151) -/

namespace CueEngine

variable {e u v : CueEngine}

/-- The banks record the same reels in the same states. -/
structure SameReels (e u : CueEngine) : Prop where
  stateA : u.bankA.state = e.bankA.state := by exact rfl
  reelA : u.bankA.reel = e.bankA.reel := by exact rfl
  stateB : u.bankB.state = e.bankB.state := by exact rfl
  reelB : u.bankB.reel = e.bankB.reel := by exact rfl

theorem SameReels.refl (e : CueEngine) : e.SameReels e := {}

theorem SameReels.trans (h : e.SameReels u) (k : u.SameReels v) : e.SameReels v where
  stateA := k.stateA.trans h.stateA
  reelA := k.reelA.trans h.reelA
  stateB := k.stateB.trans h.stateB
  reelB := k.reelB.trans h.reelB

theorem SameReels.bankOf (h : e.SameReels u) (item reel : Nat) : u.bankOf item reel = e.bankOf item reel := by
  unfold CueEngine.bankOf
  rw [h.stateA, h.reelA, h.stateB, h.reelB]

theorem SameReels.modBank (e : CueEngine) (b : BankId) {f : Bank → Bank} (hstate : ∀ k, (f k).state = k.state)
    (hreel : ∀ k, (f k).reel = k.reel) : e.SameReels (e.modBank b f) := by
  cases b
  · exact { stateA := hstate _, reelA := hreel _ }
  · exact { stateB := hstate _, reelB := hreel _ }

theorem SameReels.foldl {α : Type} {f : CueOut → α → CueOut} (hf : ∀ (o : CueOut) (a : α), o.1.SameReels (f o a).1) (as : List α)
    (o : CueOut) : o.1.SameReels (as.foldl f o).1 := by
  induction as generalizing o with
  | nil => exact .refl o.1
  | cons a rest ih => exact (hf o a).trans (ih _)

theorem SameReels.freeActive (o : CueOut) (i : Fin 4) : o.1.SameReels (freeActive o i).1 := by
  unfold Machine.freeActive
  split
  · exact .refl o.1
  · exact {}

theorem SameReels.retireSlot (f : Nat) (o : CueOut) (i : Fin 4) : o.1.SameReels (retireSlot f o i).1 := by
  unfold Machine.retireSlot
  split
  · exact .refl o.1
  · split
    · exact .freeActive o i
    · exact .refl o.1

theorem SameReels.enterCue (c : CueEntry) (opacity : Nat) (o : CueOut) : o.1.SameReels (enterCue c opacity o).1 := by
  unfold Machine.enterCue
  split <;> exact {}

theorem SameReels.enterCues (f : Nat) (cs : List CueEntry) (n : Nat) (o : CueOut) :
    o.1.SameReels (enterCues f cs n o).2.1 := by
  induction cs generalizing n o with
  | nil => exact .refl o.1
  | cons c rest ih =>
    unfold Machine.enterCues
    split
    · exact .refl o.1
    · split
      · exact (SameReels.enterCue c _ o).trans (ih _ _)
      · exact ih _ _

theorem SameReels.updateSlot (f : Nat) (kept : Quad (Option ActiveCue)) (o : CueOut) (i : Fin 4) :
    o.1.SameReels (updateSlot f kept o i).1 := by
  unfold Machine.updateSlot
  split
  · dsimp only
    split
    · exact .refl o.1
    · exact {}
  · exact .refl o.1

theorem SameReels.activate (e : CueEngine) (b : BankId) (f : Nat) : e.SameReels (e.activate b f).1 := by
  have hretired := SameReels.foldl (SameReels.retireSlot f) fours (e, [])
  have hentered := SameReels.enterCues f ((e.bank b).entries.drop (e.bank b).cursor) 0
    (fours.foldl (Machine.retireSlot f) (e, []))
  have hmoved := SameReels.modBank (Machine.enterCues f ((e.bank b).entries.drop (e.bank b).cursor) 0
    (fours.foldl (Machine.retireSlot f) (e, []))).2.1 b (f := fun k => { k with cursor := k.cursor
    + (Machine.enterCues f ((e.bank b).entries.drop (e.bank b).cursor) 0 (fours.foldl (Machine.retireSlot f) (e, []))).1 })
    (fun _ => rfl) fun _ => rfl
  exact (hretired.trans (hentered.trans hmoved)).trans (.foldl (SameReels.updateSlot f _) fours (_, _))

theorem SameReels.rebuildAt (e : CueEngine) (b : BankId) (f : Nat) : e.SameReels (e.rebuildAt b f).1 := by
  have hentered := SameReels.foldl (f := fun o c => Machine.enterCue c (rebuildOpacity c f) o)
    (fun o c => .enterCue c _ o) ((e.bank b).entries.filter fun c => c.inAt ≤ f && f < c.outAt) (e, [])
  have hmoved := SameReels.modBank (((e.bank b).entries.filter fun c => c.inAt ≤ f && f < c.outAt).foldl
    (fun o c => Machine.enterCue c (rebuildOpacity c f) o) (e, [])).1 b (f := fun k => { k with
    cursor := (k.entries.filter fun c => c.inAt ≤ f).length }) (fun _ => rfl) fun _ => rfl
  exact (hentered.trans hmoved).trans {}

theorem SameReels.enterReel (e : CueEngine) (item reel : Nat) : e.SameReels (e.enterReel item reel) := by
  unfold CueEngine.enterReel
  split <;> exact {}

theorem SameReels.presented (e : CueEngine) (item reel f : Nat) : e.SameReels (e.presented item reel f).1 := by
  have hentered := SameReels.enterReel e item reel
  unfold CueEngine.presented
  dsimp only
  split
  · exact hentered
  · split
    · split
      · exact hentered.trans (.rebuildAt _ _ f)
      · exact hentered.trans (.activate _ _ f)
    · exact hentered.trans {}
    · exact hentered
    · exact hentered

/-! ### A reel left (R150) -/

theorem freeActive_eq : freeActive = slotwise (fun _ _ => none)
    (fun k a => a.bind fun a => if a.hidden then none else some (.hide k.val)) := by
  funext o i
  unfold freeActive
  cases ha : o.1.active.get i with
  | none =>
    refine (slotwise_none _ _ o i ?_ ?_).symm <;> rw [ha]
    rfl
  | some a =>
    dsimp only
    unfold slotwise
    rw [ha]
    by_cases hhidden : a.hidden = true <;> simp [hhidden]

theorem hideAll_eq (e : CueEngine) : e.hideAll = ({ e with active := ⟨none, none, none, none⟩ },
    e.slotCommands fun k a => if a.hidden then none else some (.hide k.val)) := by
  unfold CueEngine.hideAll
  rw [freeActive_eq, slotwise_fours]
  rfl

theorem leaveReel_active (e : CueEngine) (item reel : Nat) :
    (e.leaveReel item reel).1.active = ⟨none, none, none, none⟩ := by
  unfold CueEngine.leaveReel
  dsimp only
  rw [hideAll_eq]
  split
  · rfl
  · rename_i b _
    cases b <;> rfl

theorem leaveReel_bank {item reel : Nat} {b : BankId} (h : e.bankOf item reel = some b) :
    (e.leaveReel item reel).1.bank b = Bank.empty := by
  have hbank : e.hideAll.1.bankOf item reel = some b := by
    rw [hideAll_eq]
    exact h
  unfold CueEngine.leaveReel
  dsimp only
  rw [hbank]
  cases b <;> rfl

theorem leaveReel_sent (e : CueEngine) (item reel : Nat) : (e.leaveReel item reel).2
    = e.slotCommands fun k a => if a.hidden then none else some (.hide k.val) := by
  unfold CueEngine.leaveReel
  dsimp only
  rw [hideAll_eq]
  split <;> rfl

/-- HIDEs alone. -/
theorem slotCommands_hides (e : CueEngine) {x : ScreenCommand}
    (h : x ∈ e.slotCommands fun k a => if a.hidden then none else some (.hide k.val)) : ∃ k, x = .hide k := by
  obtain ⟨k, -, hk⟩ := List.mem_filterMap.mp h
  obtain ⟨a, -, ha⟩ := Option.bind_eq_some_iff.mp hk
  dsimp only at ha
  split at ha
  · cases ha
  · exact ⟨k.val, (Option.some.inj ha).symm⟩

theorem left_hides (e : CueEngine) (i : Item) (pos : Pos) {x : ScreenCommand} (h : x ∈ (e.left i pos).2) :
    ∃ k, x = .hide k := by
  unfold CueEngine.left at h
  split at h
  · rw [leaveReel_sent] at h
    exact e.slotCommands_hides h
  · exact nomatch h

end CueEngine

/-! ### The place of a frame in its reel -/

theorem Item.endsReel_of_some {i : Item} {pos q : Pos} (h : i.after pos = some q) :
    i.endsReel pos = (q.reel != pos.reel) := by
  unfold Item.endsReel
  rw [h]

theorem Item.endsReel_of_none {i : Item} {pos : Pos} (h : i.after pos = none) : i.endsReel pos = true := by
  unfold Item.endsReel
  rw [h]

theorem Item.licence_of_not_composition {i : Item} (h : i.isComposition = false) : i.licence = none := by
  unfold Item.isComposition Item.package at h
  unfold Item.licence
  cases hkind : i.kind with
  | composition pid first last lic =>
    rw [hkind] at h
    exact nomatch h
  | black n => rfl
  | intermission => rfl

theorem Item.not_composition_of_black {i : Item} {n : Nat} (h : i.kind = .black n) : i.isComposition = false := by
  unfold Item.isComposition Item.package
  rw [h]
  rfl

theorem Fetcher.left_inner {i : Item} {pos q : Pos} (f : Fetcher) (h : i.after pos = some q) (hreel : q.reel = pos.reel) :
    f.left i pos = f := by
  unfold Fetcher.left
  rw [Item.endsReel_of_some h, hreel]
  simp

theorem CueEngine.left_inner {i : Item} {pos q : Pos} (e : CueEngine) (h : i.after pos = some q)
    (hreel : q.reel = pos.reel) : e.left i pos = (e, []) := by
  unfold CueEngine.left
  rw [Item.endsReel_of_some h, hreel]
  simp

theorem Fetcher.left_reel {i : Item} {pos : Pos} (f : Fetcher) (hi : i.isComposition = true) (h : i.endsReel pos = true) :
    f.left i pos = { f with inHand := f.inHand.filter fun r => r != (i.uid, pos.reel) } := by
  unfold Fetcher.left
  rw [hi, h]
  rfl

theorem CueEngine.left_reel {i : Item} {pos : Pos} (e : CueEngine) (hi : i.isComposition = true)
    (h : i.endsReel pos = true) : e.left i pos = e.leaveReel i.uid pos.reel := by
  unfold CueEngine.left
  rw [hi, h]
  rfl

theorem Fetcher.left_black {i : Item} (pos : Pos) (f : Fetcher) (hi : i.isComposition = false) : f.left i pos = f := by
  unfold Fetcher.left
  rw [hi]
  rfl

theorem CueEngine.left_black {i : Item} (pos : Pos) (e : CueEngine) (hi : i.isComposition = false) :
    e.left i pos = (e, []) := by
  unfold CueEngine.left
  rw [hi]
  rfl

theorem CueEngine.shown_black {i : Item} (b : BufSlot) (e : CueEngine) (hi : i.isComposition = false) :
    e.shown i b = (e, []) := by
  unfold CueEngine.shown
  rw [hi]
  rfl

theorem CueEngine.shown_composition {i : Item} (b : BufSlot) (e : CueEngine) (hi : i.isComposition = true) :
    e.shown i b = e.presented i.uid b.pos.reel b.pos.reelFrame := by
  unfold CueEngine.shown
  rw [hi]
  rfl

theorem Fetcher.left_last {i : Item} {pos : Pos} (f : Fetcher) (h : i.after pos = none) : f.left i pos = { f with
    inHand := if i.isComposition then f.inHand.filter (fun r => r != (i.uid, pos.reel)) else f.inHand } := by
  cases hi : i.isComposition with
  | true => exact f.left_reel hi (Item.endsReel_of_none h)
  | false => exact f.left_black pos hi

namespace State

variable {s : State} {l : LaneId} {c : ScreenId} {i : Item} {rest : List Item} {pos q : Pos} {b : BufSlot}

/-! ### A frame presented (R97) -/

/-- A presented frame, and its reel out of hand where it is the last. -/
def framePassed (s : State) (l : LaneId) (i : Item) (b : BufSlot) : State := (s.framePresented l i b).leftReel l i b.pos

theorem Shows.framePassed (s : State) (l : LaneId) (i : Item) (b : BufSlot) : s.Shows l (s.framePassed l i b) :=
  (Shows.framePresented s l i b).trans (.leftReel _ l i b.pos)

theorem presentFrame_last (hafter : i.after b.pos = none) (s : State) (l : LaneId) :
    s.presentFrame l i b = ((s.framePassed l i b).itemEnd l i).relieved l := by
  rw [presentFrame_eq, passFrame_last hafter]
  rfl

theorem framePassed_own (s : State) (l : LaneId) (i : Item) (b : BufSlot) :
    ∃ buffer n, (s.framePassed l i b).lane l = { s.lane l with
      pl := { (s.lane l).pl.presented i b with buffer := buffer, fetch := (s.lane l).pl.fetch.left i b.pos }
      sce := (((s.lane l).sce.shown i b).1.left i b.pos).1
      sne := n } := by
  obtain ⟨buffer, n, hown⟩ := s.framePresented_own l i b
  refine ⟨buffer, n, ?_⟩
  unfold State.framePassed
  rw [leftReel_own, hown]
  rfl

theorem framePassed_shc (s : State) (l : LaneId) (i : Item) (b : BufSlot) :
    (s.framePassed l i b).shc = if i.licence.isSome then (s.showReal l).shc else s.shc :=
  (leftReel_shc _ l i b.pos).trans (framePresented_shc s l i b)

theorem Reaches.framePassed_out (h : s.Reaches l c) (i : Item) (b : BufSlot) : (s.framePassed l i b).out = s.out
    ++ .screen c (if i.isComposition then .frame b.frameBytes else .black)
      :: (((s.lane l).sce.shown i b).2 ++ (((s.lane l).sce.shown i b).1.left i b.pos).2).map (.screen c) := by
  obtain ⟨buffer, n, hown⟩ := s.framePresented_own l i b
  have hreach := (Shows.framePresented s l i b).reaches h
  unfold State.framePassed
  rw [hreach.leftReel_out, h.framePresented_out, hown]
  simp

/-! ### A consumed head (R98) -/

/-- A faulted head consumed, and its reel out of hand where it is the last. -/
def headPassed (s : State) (l : LaneId) (i : Item) (b : BufSlot) : State :=
  (s.modPl l fun p => p.consumed i b).leftReel l i b.pos

theorem Shows.headPassed (s : State) (l : LaneId) (i : Item) (b : BufSlot) : s.Shows l (s.headPassed l i b) :=
  (Shows.modPl (f := fun p => p.consumed i b) rfl).trans (.leftReel _ l i b.pos)

theorem headPassed_own (s : State) (l : LaneId) (i : Item) (b : BufSlot) : (s.headPassed l i b).lane l = { s.lane l with
    pl := { (s.lane l).pl.consumed i b with fetch := (s.lane l).pl.fetch.left i b.pos }
    sce := ((s.lane l).sce.left i b.pos).1 } := by
  unfold State.headPassed
  rw [leftReel_own, lane_modPl_same]
  rfl

theorem headPassed_shc (s : State) (l : LaneId) (i : Item) (b : BufSlot) : (s.headPassed l i b).shc = s.shc :=
  leftReel_shc _ l i b.pos

theorem headPassed_ntu (s : State) (l : LaneId) (i : Item) (b : BufSlot) : (s.headPassed l i b).ntu = s.ntu :=
  leftReel_ntu _ l i b.pos

theorem Reaches.headPassed_out (h : s.Reaches l c) (i : Item) (b : BufSlot) :
    (s.headPassed l i b).out = s.out ++ ((s.lane l).sce.left i b.pos).2.map (.screen c) := by
  have hreach : (s.modPl l fun p => p.consumed i b).Reaches l c := (Shows.modPl rfl).reaches h
  unfold State.headPassed
  rw [hreach.leftReel_out, lane_modPl_same]
  rfl

/-- What a consumed last frame leaves (R98). -/
theorem consumed_headPassed (s : State) (l : LaneId) (hafter : i.after b.pos = none) :
    s.Consumed (s.headPassed l i b) l i b := by
  have hshows := Shows.headPassed s l i b
  have hown := s.headPassed_own l i b
  refine ⟨?_, ?_, ?_, ?_, ?_, ?_, hshows.clock, hshows.stc, hshows.pka, hshows.others⟩
  · rw [hown]
    rfl
  · rw [hown]
    rfl
  · rw [hown]
    exact hafter
  · rw [hown]
    rfl
  · rw [hown]
    rfl
  · rw [hown]
    exact Fetcher.left_last _ hafter

theorem faultedHead_fills (h : (s.lane l).pl.set.gapPolicy ≠ .stop) (i : Item) (b : BufSlot) : s.faultedHead l i b =
    if (i.after b.pos).isNone then ((s.fill l i).headPassed l i b).itemEnd l i else (s.fill l i).headPassed l i b :=
  faultedHead_fill h i b

theorem faultedHead_stops (h : (s.lane l).pl.set.gapPolicy = .stop) (i : Item) (b : BufSlot) : s.faultedHead l i b =
    if (((s.modPl l fun p => p.consumed i b).passFrame l i b.pos).lane l).pl.state = .playing then
      ((s.modPl l fun p => p.consumed i b).passFrame l i b.pos).gapPause l
    else (s.modPl l fun p => p.consumed i b).passFrame l i b.pos := if_pos h

/-! ### Fills and pauses, as the lane has them -/

theorem filled_fill (s : State) (l : LaneId) (i : Item) : s.Filled (s.fill l i) l := by
  obtain ⟨n, hown⟩ := s.fill_own l i
  unfold State.Filled
  rw [hown]
  exact ⟨rfl, rfl, rfl, rfl, rfl, s.fill_raised l i⟩

/-- The consumption of the head leaves what its fill has made. -/
theorem filled_headPassed (s : State) (l : LaneId) (i : Item) (b : BufSlot) :
    s.Filled ((s.fill l i).headPassed l i b) l := by
  obtain ⟨h1, h2, h3, h4, h5, h6⟩ := s.filled_fill l i
  unfold State.Filled
  rw [headPassed_own, headPassed_ntu]
  exact ⟨h1, h2, h3, h4, h5, h6⟩

theorem fillCommand_eq (p : Playout) (h : p.set.gapPolicy ≠ .stop) : fillCommand p
    = if p.set.gapPolicy = .holdLast ∧ p.shown = true then .repeatFrame else .black := by
  unfold fillCommand
  cases hpolicy : p.set.gapPolicy with
  | holdLast =>
    dsimp only
    cases p.shown <;> rfl
  | black => rfl
  | stop => exact absurd hpolicy h

theorem gapPaused_of {u : State} (hpl : (u.lane l).pl.stats = (s.lane l).pl.stats)
    (hposition : (u.lane l).pl.position = (s.lane l).pl.position) {more : List Output} (hout : u.out = s.out ++ more)
    (hhides : ∀ x ∈ more, ∃ k, x = Output.screen c (.hide k)) (hreach : u.Reaches l c) :
    s.GapPaused (u.gapPause l) l c := by
  unfold State.GapPaused
  rw [gapPause_own]
  refine ⟨rfl, rfl, rfl, hpl, hposition, gapPause_raised u l,
    more ++ ((u.lane l).sce.slotCommands fun k a => if a.hidden then none else some (.hide k.val)).map (.screen c),
    ?_, fun x hx => ?_⟩
  · rw [hreach.gapPause_out, hout, List.append_assoc]
  · rcases List.mem_append.mp hx with hx | hx
    · exact hhides x hx
    · obtain ⟨y, hy, rfl⟩ := List.mem_map.mp hx
      obtain ⟨k, rfl⟩ := CueEngine.slotCommands_hides _ hy
      exact ⟨k, rfl⟩

/-! ### The end of an item (R63, R65, R99) -/

/-- An item's end before its head leaves: ITEM_DONE, the count, and its showing closed. -/
def itemDone (s : State) (l : LaneId) (i : Item) : State :=
  let s := (s.raiseLane l srcItemDone).modStats l fun k => { k with itemsDone := satInc top32 k.itemsDone }
  if i.licence.isSome then s.showItemEnd l else s

theorem itemEnd_eq (s : State) (l : LaneId) (i : Item) :
    s.itemEnd l i = ((s.itemDone l i).dropHead l).examineHead l none := rfl

theorem closeRecord_itemEnd_eq (s : State) (l : LaneId) :
    s.showItemEnd l = { s with shc := (s.showItemEnd l).shc } := by
  unfold State.showItemEnd
  split
  · rw [closeRecord_eq]
    rfl
  · rfl

theorem itemDone_own (s : State) (l : LaneId) (i : Item) : (s.itemDone l i).lane l = { s.lane l with
    pl := { (s.lane l).pl with
      stats := { (s.lane l).pl.stats with itemsDone := satInc top32 (s.lane l).pl.stats.itemsDone } } } := by
  have hdone : ((s.raiseLane l srcItemDone).modStats l fun k => { k with itemsDone := satInc top32 k.itemsDone }).lane l
      = { s.lane l with pl := { (s.lane l).pl with
          stats := { (s.lane l).pl.stats with itemsDone := satInc top32 (s.lane l).pl.stats.itemsDone } } } := by
    rw [State.modStats, lane_modPl_same, raiseLane, lane_raise]
  unfold State.itemDone
  dsimp only
  split
  · rw [closeRecord_itemEnd_eq]
    exact hdone
  · exact hdone

theorem itemDone_raised (s : State) (l : LaneId) (i : Item) :
    (s.itemDone l i).ntu.raised.getLsbD (laneSource l srcItemDone) = true := by
  have hraised : ((s.raiseLane l srcItemDone).modStats l fun k => { k with
      itemsDone := satInc top32 k.itemsDone }).ntu.raised.getLsbD (laneSource l srcItemDone) = true :=
    raiseLane_raised s l (by decide)
  unfold State.itemDone
  dsimp only
  split
  · rw [closeRecord_itemEnd_eq]
    exact hraised
  · exact hraised

theorem showItemEnd_shc_congr {u : State} (hshc : u.shc = s.shc) (hclock : u.clock = s.clock) (l : LaneId) :
    (u.showItemEnd l).shc = (s.showItemEnd l).shc := by
  have hclose : ∀ r, (u.closeRecord r .itemEnd).shc = (s.closeRecord r .itemEnd).shc := by
    intro r
    unfold State.closeRecord
    split
    · exact hshc
    · dsimp only
      rw [hshc, hclock]
    · dsimp only
      rw [hshc, hclock]
  unfold State.showItemEnd
  rw [hshc]
  split
  · rename_i r _ _
    unfold State.modReservations
    dsimp only
    rw [hclose r]
  · exact hshc

theorem itemDone_shc (s : State) (l : LaneId) (i : Item) :
    (s.itemDone l i).shc = if i.licence.isSome then (s.showItemEnd l).shc else s.shc := by
  unfold State.itemDone
  dsimp only
  split
  · refine showItemEnd_shc_congr ?_ ?_ l
    · rfl
    · rfl
  · rfl

end State

end Sys2Proof.Machine
end

section
/-! PROOF. O50: the cases of a pulse on a lane in PLAYING, and the end of an item (R91, R97 to R99). -/

namespace Sys2Proof.Machine

open Sys2Proof

namespace State

variable {s u : State} {l : LaneId} {c : ScreenId} {i : Item} {rest : List Item} {pos q : Pos} {b : BufSlot}

/-! ### What the freeing of R92 leaves -/

theorem relieved_own (s : State) (l : LaneId) : (s.relieved l).lane l
    = { s.lane l with pl := { (s.lane l).pl with buffer := relieve (s.lane l).pl.buffer } } :=
  lane_modPl_same s l fun p => { p with buffer := relieve p.buffer }

/-- The lane behind a presented frame that is not its item's last. -/
theorem relieved_framePassed_own (s : State) (l : LaneId) (i : Item) (b : BufSlot) :
    ∃ buffer n, (((s.framePassed l i b).relieved l).lane l) = { s.lane l with
      pl := { (s.lane l).pl.presented i b with buffer := buffer, fetch := (s.lane l).pl.fetch.left i b.pos }
      sce := (((s.lane l).sce.shown i b).1.left i b.pos).1
      sne := n } := by
  obtain ⟨buffer, n, hown⟩ := s.framePassed_own l i b
  refine ⟨relieve buffer, n, ?_⟩
  rw [relieved_own, hown]

/-- A presented frame of a BLACK item raises nothing and changes no showing. -/
theorem framePassed_black_same (s : State) (l : LaneId) (b : BufSlot) (hi : i.isComposition = false) :
    (s.framePassed l i b).shc = s.shc ∧ (s.framePassed l i b).ntu = s.ntu := by
  have hlicence := Item.licence_of_not_composition hi
  refine ⟨?_, (leftReel_ntu _ l i b.pos).trans (framePresented_ntu s b hi hlicence)⟩
  rw [framePassed_shc, hlicence]
  rfl

/-! ### A frame that is not the last of its item -/

theorem Reaches.frame_shown (h : s.Reaches l c) (hi : i.isComposition = true) (hafter : i.after b.pos = some q) :
    ∃ more, ((s.framePassed l i b).relieved l).out = s.out ++ .screen c (.frame b.frameBytes) :: more
      ∧ (((s.framePassed l i b).relieved l).lane l).pl.position = some b.pos
      ∧ (((s.framePassed l i b).relieved l).lane l).pl.next = some q
      ∧ (((s.framePassed l i b).relieved l).lane l).pl.shown = true
      ∧ (((s.framePassed l i b).relieved l).lane l).pl.inGap = false
      ∧ (((s.framePassed l i b).relieved l).lane l).pl.stats.real = satInc top32 (s.lane l).pl.stats.real
      ∧ (((s.framePassed l i b).relieved l).lane l).pl.state = (s.lane l).pl.state
      ∧ (q.reel = b.pos.reel →
        (((s.framePassed l i b).relieved l).lane l).pl.fetch.inHand = (s.lane l).pl.fetch.inHand)
      ∧ (q.reel ≠ b.pos.reel → (i.uid, b.pos.reel) ∉ (((s.framePassed l i b).relieved l).lane l).pl.fetch.inHand
        ∧ (((s.framePassed l i b).relieved l).lane l).sce.active = ⟨none, none, none, none⟩
        ∧ ∀ k, (s.lane l).sce.bankOf i.uid b.pos.reel = some k →
            (((s.framePassed l i b).relieved l).lane l).sce.bank k = Bank.empty) := by
  obtain ⟨buffer, n, hown⟩ := s.relieved_framePassed_own l i b
  have hout := h.framePassed_out i b
  rw [if_pos hi] at hout
  refine ⟨_, hout, ?_⟩
  rw [hown]
  refine ⟨if_pos hi, hafter, rfl, rfl, ?_, rfl, fun hreel => ?_, fun hreel => ?_⟩
  · exact congrArg LaneStats.real (if_pos hi)
  · exact congrArg Fetcher.inHand (Fetcher.left_inner _ hafter hreel)
  · have hends : i.endsReel b.pos = true := by
      rw [Item.endsReel_of_some hafter]
      simpa using hreel
    dsimp only
    rw [Fetcher.left_reel _ hi hends, CueEngine.left_reel _ hi hends]
    refine ⟨by simp, CueEngine.leaveReel_active _ _ _, fun k hk => CueEngine.leaveReel_bank ?_⟩
    rw [CueEngine.shown_composition _ _ hi, (CueEngine.SameReels.presented _ _ _ _).bankOf]
    exact hk

/-- The lane behind a frame of a BLACK item, its buffer and its sound left open. -/
theorem framePassed_black_own (s : State) (l : LaneId) (b : BufSlot) (hi : i.isComposition = false) :
    ∃ buffer n, (s.framePassed l i b).lane l = { s.lane l with
      pl := { (s.lane l).pl.presented i b with buffer := buffer }
      sne := n } := by
  obtain ⟨buffer, n, hown⟩ := s.framePassed_own l i b
  refine ⟨buffer, n, ?_⟩
  rw [hown, Fetcher.left_black _ _ hi, CueEngine.shown_black _ _ hi]
  dsimp only
  rw [CueEngine.left_black _ _ hi]
  rfl

theorem Reaches.framePassed_black_out (h : s.Reaches l c) (b : BufSlot) (hi : i.isComposition = false) :
    (s.framePassed l i b).out = s.out ++ [.screen c .black] := by
  rw [h.framePassed_out, CueEngine.shown_black _ _ hi]
  dsimp only
  rw [CueEngine.left_black _ _ hi, hi]
  rfl

/-! ### A fill of a faulted head -/

/-- What the fill of a faulted head sends, and then its cues where its reel leaves hand. -/
theorem Reaches.fill_headPassed_out (h : s.Reaches l c) (i : Item) (b : BufSlot) :
    ((s.fill l i).headPassed l i b).out
      = s.out ++ .screen c (fillCommand (s.lane l).pl) :: ((s.lane l).sce.left i b.pos).2.map (.screen c) := by
  obtain ⟨n, hown⟩ := s.fill_own l i
  rw [((Shows.fill s l i).reaches h).headPassed_out, h.fill_out, hown]
  simp

/-- A faulted head behind its fill, consumed like one without. -/
theorem consumed_fill (s : State) (l : LaneId) (hafter : i.after b.pos = none) :
    s.Consumed ((s.fill l i).headPassed l i b) l i b := by
  obtain ⟨n, hown⟩ := s.fill_own l i
  have hshows := Shows.fill s l i
  have hconsumed := (s.fill l i).consumed_headPassed l hafter
  unfold State.Consumed at hconsumed ⊢
  rw [hown] at hconsumed
  obtain ⟨hbuffer, hqueue, hnext, hrate, hset, hfetch, hclock, hstc, hpka, hothers⟩ := hconsumed
  exact ⟨hbuffer, hqueue, hnext, hrate, hset, hfetch, hclock.trans hshows.clock, hstc.trans hshows.stc,
    hpka.trans hshows.pka, fun k hk => (hothers k hk).trans (hshows.others k hk)⟩

/-! ### A faulted head under policy STOP -/

theorem Reaches.headPassed_gapPaused (h : s.Reaches l c) (i : Item) (b : BufSlot) :
    s.GapPaused ((s.headPassed l i b).gapPause l) l c := by
  have hown := s.headPassed_own l i b
  refine gapPaused_of (by rw [hown]; rfl) (by rw [hown]; rfl) (h.headPassed_out i b) (fun x hx => ?_)
    ((Shows.headPassed s l i b).reaches h)
  obtain ⟨y, hy, rfl⟩ := List.mem_map.mp hx
  obtain ⟨k, rfl⟩ := CueEngine.left_hides _ _ _ hy
  exact ⟨k, rfl⟩

/-! ### The end of an item (R63, R65, R99) -/

theorem Within.examineHead (s : State) (l : LaneId) (target : Option Pos) : s.Within l (s.examineHead l target) := by
  unfold State.examineHead
  split
  · exact (Silent.enterIdle s l).toWithin
  · split
    · exact Within.takeIntermission s l
    · split
      · exact ((Silent.enterIdle s l).trans (.laneFault _ l _)).toWithin
      · exact (Silent.modPl s l _).toWithin

theorem examineHead_shc (s : State) (l : LaneId) (target : Option Pos) : (s.examineHead l target).shc = s.shc := by
  unfold State.examineHead
  split
  · exact enterIdle_shc s l
  · split
    · exact takeIntermission_shc s l
    · split
      · exact enterIdle_shc s l
      · rfl

theorem itemEnd_shc (s : State) (l : LaneId) (i : Item) :
    (s.itemEnd l i).shc = if i.licence.isSome then (s.showItemEnd l).shc else s.shc := by
  rw [itemEnd_eq, examineHead_shc, (dropHead_packages _ l).shc]
  exact s.itemDone_shc l i

theorem itemEnd_raised (s : State) (l : LaneId) (i : Item) :
    (s.itemEnd l i).ntu.raised.getLsbD (laneSource l srcItemDone) = true := by
  rw [itemEnd_eq]
  exact (Within.examineHead _ l none).raised _ ((Silent.dropHead _ l).raised _ (s.itemDone_raised l i))

/-- The lane whose head is about to be examined. -/
theorem headGone_own (s : State) (l : LaneId) (i : Item) : ((s.itemDone l i).dropHead l).lane l = { s.lane l with
    pl := { (s.lane l).pl with
      queue := (s.lane l).pl.queue.tail
      stats := { (s.lane l).pl.stats with itemsDone := satInc top32 (s.lane l).pl.stats.itemsDone } } } := by
  rw [dropHead_own, itemDone_own]

theorem examineHead_stats (s : State) (l : LaneId) (target : Option Pos) :
    ((s.examineHead l target).lane l).pl.stats = (s.lane l).pl.stats := by
  unfold State.examineHead
  split
  · rw [enterIdle_own]
  · split
    · have hown := s.takeIntermission_own l
      unfold State.takeIntermission at hown
      rw [hown]
    · split
      · rw [laneFault_own]
        dsimp only
        rw [enterIdle_own]
      · rw [lane_modPl_same]

theorem itemEnd_itemsDone (s : State) (l : LaneId) (i : Item) :
    ((s.itemEnd l i).lane l).pl.stats.itemsDone = satInc top32 (s.lane l).pl.stats.itemsDone := by
  rw [itemEnd_eq, examineHead_stats, headGone_own]

theorem showItemEnd_cons {r : Reservation} {others : List Reservation} (h : s.shc.reservations.get l = r :: others) :
    s.showItemEnd l = (s.closeRecord r .itemEnd).modReservations l List.tail := by
  unfold State.showItemEnd
  rw [h]

theorem closeRecord_reservations (s : State) (r : Reservation) (cause : EndCause) :
    (s.closeRecord r cause).shc.reservations = s.shc.reservations := by
  unfold State.closeRecord
  split <;> rfl

theorem closeRecord_closes {r : Reservation} {seq : Nat} {x : ShowRecord} (cause : EndCause)
    (hstage : r.stage = .showing seq ∨ r.stage = .qualified seq)
    (hfind : s.shc.log.find? (fun y => y.seq == seq) = some x) :
    (s.closeRecord r cause).shc.log.find? (fun y => y.seq == seq)
      = some { x with ended := s.clock.booth, cause := some cause, outcome := closeOutcome cause x.qualify.isSome } := by
  have hclosed : (s.shc.modRecord seq fun x => { x with
      ended := s.clock.booth, cause := some cause, outcome := closeOutcome cause x.qualify.isSome }).log.find?
        (fun y => y.seq == seq)
      = some { x with ended := s.clock.booth, cause := some cause, outcome := closeOutcome cause x.qualify.isSome } := by
    refine (s.shc.findRecord_modRecord seq (by exact fun _ => rfl)).trans ?_
    rw [hfind]
    rfl
  unfold State.closeRecord
  rcases hstage with hstage | hstage
  · rw [hstage]
    exact hclosed
  · rw [hstage]
    exact hclosed

theorem closeOutcome_itemEnd (qualified : Bool) :
    closeOutcome .itemEnd qualified = if qualified then .complete else .short := by
  cases qualified <;> rfl

/-- The showing of a licensed item at its end (R63, R65). -/
theorem showItemEnd_ends {r : Reservation} {others : List Reservation} (h : s.shc.reservations.get l = r :: others) :
    (s.showItemEnd l).shc.reservations.get l = others
      ∧ (r.stage = .promoted → (s.showItemEnd l).shc.log = s.shc.log)
      ∧ (∀ seq x, (r.stage = .showing seq ∨ r.stage = .qualified seq) →
        s.shc.log.find? (fun y => y.seq == seq) = some x →
        (s.showItemEnd l).shc.log.find? (fun y => y.seq == seq)
          = some { x with ended := s.clock.booth, cause := some .itemEnd,
                          outcome := if x.qualify.isSome then .complete else .short }) := by
  rw [showItemEnd_cons h]
  refine ⟨?_, fun hstage => ?_, fun seq x hstage hfind => ?_⟩
  · refine (Quad.get_set_same _ _ _).trans ?_
    rw [closeRecord_reservations, h]
    rfl
  · have hopen : s.closeRecord r .itemEnd = s := by
      unfold State.closeRecord
      rw [hstage]
    rw [hopen]
    rfl
  · refine (closeRecord_closes .itemEnd hstage hfind).trans ?_
    rw [closeOutcome_itemEnd]

/-- An item's end up to the next head (R63, R65, R99). -/
theorem itemEnd_next (s : State) (l : LaneId) (i head : Item) (hq : (s.lane l).pl.queue = head :: rest) :
    (rest = [] → ((s.itemEnd l i).lane l).pl.state = .idle ∧ ((s.itemEnd l i).lane l).pl.queue = []
      ∧ ((s.itemEnd l i).lane l).pl.rate = none)
    ∧ (∀ j more, rest = j :: more →
      (j.isIntermission = true → ((s.itemEnd l i).lane l).pl.state = .paused
        ∧ ((s.itemEnd l i).lane l).pl.pause = some .intermission ∧ ((s.itemEnd l i).lane l).pl.queue = more)
      ∧ (∀ why, j.isIntermission = false → j.blocked = some why → ((s.itemEnd l i).lane l).pl.state = .idle
        ∧ ((s.itemEnd l i).lane l).pl.fault = some (.promotion why)
        ∧ ((s.itemEnd l i).lane l).pl.queue = rest.map Item.unblocked
        ∧ (s.itemEnd l i).ntu.raised.getLsbD (laneSource l srcLaneFault) = true)
      ∧ (j.isIntermission = false → j.blocked = none → ((s.itemEnd l i).lane l).pl.state = (s.lane l).pl.state
        ∧ ((s.itemEnd l i).lane l).pl.next = some (j.posAt 0) ∧ ((s.itemEnd l i).lane l).pl.queue = rest)) := by
  have hown := s.headGone_own l i
  have hqueue : (((s.itemDone l i).dropHead l).lane l).pl.queue = rest := by
    rw [hown, hq]
    rfl
  rw [itemEnd_eq]
  refine ⟨fun hrest => ?_, fun j more hrest => ⟨fun hj => ?_, fun why hj hblocked => ?_, fun hj hblocked => ?_⟩⟩
  · rw [examineHead_nil (hqueue.trans hrest), enterIdle_own, hqueue, hrest]
    exact ⟨rfl, rfl, rfl⟩
  · rw [examineHead_intermission (hqueue.trans hrest) hj, takeIntermission_own, hqueue, hrest]
    exact ⟨rfl, rfl, rfl⟩
  · rw [examineHead_blocked (hqueue.trans hrest) hj hblocked, laneFault_own]
    dsimp only
    rw [enterIdle_own, hqueue]
    exact ⟨rfl, rfl, rfl, laneFault_raised _ l _⟩
  · rw [examineHead_of_passing (hqueue.trans hrest) hj hblocked, lane_modPl_same]
    refine ⟨?_, rfl, hqueue⟩
    rw [hown]

end State

/-- Settles O50: the pulse by what stands at the head of the buffer, then the item's end by the next head. -/
theorem pulsePresentsOrFills : Obligations.PulsePresentsOrFills := by
  refine ⟨fun s l c i rest pos hscreen hfree hqueue hnext => ⟨fun b q hhead hstage hfault hi hafter => ?_,
    fun b q n hhead hstage hfault hkind hafter => ?_, fun b hhead hstage hfault hi hafter => ?_,
    fun b n hhead hstage hfault hkind hafter => ?_, fun fill hfill hpolicy => ⟨fun hmissing => ?_,
      fun b q hhead hstage hfault hafter => ?_, fun b hhead hstage hfault hafter => ?_⟩,
    fun hpolicy hplaying => ⟨fun hmissing => ?_, fun b q hhead hstage hfault hafter => ?_,
      fun b hhead hstage hfault hafter => ?_⟩⟩, fun s u l i head rest hqueue hu => ?_⟩
  · obtain ⟨rfl, -⟩ := State.headSlot_pos hhead
    rw [State.presentPulse_ready hqueue hnext hhead hstage hfault, State.presentFrame_more hafter]
    exact State.Reaches.frame_shown ⟨hscreen, hfree⟩ hi hafter
  · obtain ⟨rfl, -⟩ := State.headSlot_pos hhead
    have hi := Item.not_composition_of_black hkind
    obtain ⟨buffer, m, hown⟩ := s.framePassed_black_own l b hi
    obtain ⟨hshc, hntu⟩ := s.framePassed_black_same l b hi
    rw [State.presentPulse_ready hqueue hnext hhead hstage hfault, State.presentFrame_more hafter]
    have hrelieved := (s.framePassed l i b).relieved_own l
    rw [hown] at hrelieved
    unfold State.framePassed at hrelieved hshc hntu
    rw [hrelieved]
    refine ⟨State.Reaches.framePassed_black_out ⟨hscreen, hfree⟩ b hi, hafter, rfl, rfl, ?_, ?_, rfl, hshc, hntu, rfl⟩
    · exact if_neg (by rw [hi]; exact nofun)
    · exact if_neg (by rw [hi]; exact nofun)
  · obtain ⟨rfl, -⟩ := State.headSlot_pos hhead
    obtain ⟨buffer, n, hown⟩ := s.framePassed_own l i b
    have hshows := State.Shows.framePassed s l i b
    have hout := State.Reaches.framePassed_out ⟨hscreen, hfree⟩ i b
    rw [if_pos hi] at hout
    rw [State.presentPulse_ready hqueue hnext hhead hstage hfault, State.presentFrame_last hafter]
    refine ⟨s.framePassed l i b, _, rfl, hout, ?_⟩
    rw [hown]
    exact ⟨rfl, if_pos hi, if_pos hi, rfl, rfl, s.framePassed_shc l i b, hshows.clock, hshows.stc, hshows.pka, hshows.others⟩
  · obtain ⟨rfl, -⟩ := State.headSlot_pos hhead
    have hi := Item.not_composition_of_black hkind
    obtain ⟨buffer, m, hown⟩ := s.framePassed_black_own l b hi
    obtain ⟨hshc, hntu⟩ := s.framePassed_black_same l b hi
    have hshows := State.Shows.framePassed s l i b
    rw [State.presentPulse_ready hqueue hnext hhead hstage hfault, State.presentFrame_last hafter]
    refine ⟨s.framePassed l i b, rfl, State.Reaches.framePassed_black_out ⟨hscreen, hfree⟩ b hi, ?_⟩
    rw [hown]
    refine ⟨rfl, hafter, if_neg (by rw [hi]; exact nofun), rfl, rfl, if_neg (by rw [hi]; exact nofun), rfl, rfl, rfl, rfl, rfl,
      rfl, hshc, hntu, hshows.clock, hshows.stc, hshows.pka, hshows.others⟩
  · obtain ⟨n, hown⟩ := s.fill_own l i
    rw [State.presentPulse_missing hqueue hnext hmissing, State.missingHead_fill hpolicy]
    refine ⟨?_, s.filled_fill l i, ?_, ?_⟩
    · rw [State.Reaches.fill_out ⟨hscreen, hfree⟩, hfill, State.fillCommand_eq _ hpolicy]
    · rw [hown]
      exact hnext
    · rw [hown]
      rfl
  · obtain ⟨rfl, -⟩ := State.headSlot_pos hhead
    obtain ⟨n, hown⟩ := s.fill_own l i
    rw [State.presentPulse_faulted hqueue hnext hhead (by rw [hstage]; exact nofun) hfault, State.faultedHead_fills hpolicy,
      if_neg (by rw [hafter]; exact nofun), hfill, ← State.fillCommand_eq _ hpolicy]
    refine ⟨_, State.Reaches.fill_headPassed_out ⟨hscreen, hfree⟩ i b, s.filled_headPassed l i b, ?_, ?_, fun hreel => ?_⟩
    · rw [State.headPassed_own]
      exact hafter
    · rw [State.headPassed_own, hown]
      rfl
    · rw [CueEngine.left_inner _ hafter hreel]
      rfl
  · obtain ⟨rfl, -⟩ := State.headSlot_pos hhead
    rw [State.presentPulse_faulted hqueue hnext hhead (by rw [hstage]; exact nofun) hfault, State.faultedHead_fills hpolicy,
      if_pos (by rw [hafter]; rfl), hfill, ← State.fillCommand_eq _ hpolicy]
    refine ⟨(s.fill l i).headPassed l i b, _, rfl, State.Reaches.fill_headPassed_out ⟨hscreen, hfree⟩ i b,
      s.filled_headPassed l i b, s.consumed_fill l hafter, ?_⟩
    rw [State.headPassed_shc]
    exact s.fill_shc l i
  · rw [State.presentPulse_missing hqueue hnext hmissing, State.missingHead_stop hpolicy]
    refine ⟨State.gapPaused_of rfl rfl (List.append_nil _).symm (fun _ hx => nomatch hx) ⟨hscreen, hfree⟩, ?_, ?_⟩
    · rw [State.gapPause_own]
      exact hnext
    · rw [State.gapPause_own]
  · obtain ⟨rfl, -⟩ := State.headSlot_pos hhead
    have hpassed : (s.modPl l fun p => p.consumed i b).passFrame l i b.pos = s.headPassed l i b :=
      State.passFrame_more hafter _ l
    have hown := s.headPassed_own l i b
    rw [State.presentPulse_faulted hqueue hnext hhead (by rw [hstage]; exact nofun) hfault, State.faultedHead_stops hpolicy,
      hpassed, if_pos (by rw [hown]; exact hplaying)]
    refine ⟨State.Reaches.headPassed_gapPaused ⟨hscreen, hfree⟩ i b, ?_, ?_⟩
    · rw [State.gapPause_own, hown]
      exact hafter
    · rw [State.gapPause_own, hown]
      rfl
  · obtain ⟨rfl, -⟩ := State.headSlot_pos hhead
    have hpassed : (s.modPl l fun p => p.consumed i b).passFrame l i b.pos = (s.headPassed l i b).itemEnd l i :=
      State.passFrame_last hafter _ l
    have hown := s.headPassed_own l i b
    rw [State.presentPulse_faulted hqueue hnext hhead (by rw [hstage]; exact nofun) hfault, State.faultedHead_stops hpolicy,
      hpassed]
    refine ⟨s.headPassed l i b, ?_, ?_, s.consumed_headPassed l hafter, s.headPassed_shc l i b, ?_, fun hstill => if_neg hstill,
      fun hplays => ?_⟩
    · rw [hown]
      exact hplaying
    · rw [hown]
      rfl
    · rw [hown]
    · rw [if_pos hplays]
      exact ⟨State.gapPause_own _ l, (State.gapPause_same _ l).1, (State.gapPause_same _ l).2, State.gapPause_raised _ l⟩
  · subst hu
    obtain ⟨hnone, hsome⟩ := s.itemEnd_next l i head hqueue
    have hshc := s.itemEnd_shc l i
    refine ⟨s.itemEnd_raised l i, s.itemEnd_itemsDone l i, fun hlicence => ?_, fun r others hlicence hreservations => ?_, hnone,
      hsome⟩
    · rw [hshc, hlicence]
      rfl
    · rw [hshc, if_pos hlicence]
      exact State.showItemEnd_ends hreservations

end Sys2Proof.Machine
end

section
/-! PROOF. O48: the conditioning of pulses and the gate counter (R110 to R114, R117, R119, R120, R125 to R127). -/

namespace Sys2Proof.Machine

open Sys2Proof

/-! ### The glitch filter and the divider (R111, R114) -/

namespace Monitor

variable {m : Monitor} {tick divider : Nat}

theorem accepts_of (h : ∀ last, m.lastAccepted = some last → last + 4000 ≤ tick) : m.accepts tick = true := by
  unfold Monitor.accepts
  split
  · rfl
  · rename_i last hlast
    exact decide_eq_true (h last hlast)

theorem not_accepts_of {last : Nat} (hlast : m.lastAccepted = some last) (h : tick < last + 4000) :
    m.accepts tick = false := by
  unfold Monitor.accepts
  rw [hlast]
  exact decide_eq_false (by omega)

theorem passes_of (h : divider = 1 ∨ divider = 2 ∧ m.phase = 1) : m.passes divider = true := by
  unfold Monitor.passes
  rcases h with rfl | ⟨rfl, hphase⟩
  · rfl
  · rw [hphase]
    rfl

theorem passes_accept (m : Monitor) (tick divider : Nat) (atBase : Bool) :
    (m.accept tick atBase).passes divider = m.passes divider := rfl

/-- A pulse passed leaves phase 0. -/
theorem divide_of_passed (h : divider = 1 ∨ divider = 2 ∧ m.phase = 1) :
    m.divide divider = { m with counted := satInc top32 m.counted, phase := 0 } := by
  unfold Monitor.divide
  dsimp only
  rw [if_pos (passes_of h)]
  rcases h with rfl | ⟨rfl, hphase⟩
  · rfl
  · dsimp only
    rw [hphase]
    rfl

/-- A pulse not passed leaves phase 1. -/
theorem divide_of_withheld (h : m.phase = 0) : m.divide 2 = { m with phase := 1 } := by
  have hpasses : m.passes 2 = false := by
    unfold Monitor.passes
    rw [h]
    rfl
  unfold Monitor.divide
  dsimp only
  rw [hpasses, if_neg nofun, h]
  rfl

theorem divide_injection (m : Monitor) (divider : Nat) : (m.divide divider).injection = m.injection := by
  unfold Monitor.divide
  dsimp only
  split <;> rfl

end Monitor

/-- A gate's record behind a pulse past its opening one (R119). -/
def Gate.counted (g : Gate) (now : Instant) : Gate := { g with pulses := satInc top32 g.pulses, count := g.ticks now }

/-- A gate's record ended by a pulse (R120). -/
def Gate.ended (g : Gate) (rate : Option Nat) (now : Instant) : Gate :=
  (g.counted now).valid rate (satInc top32 g.pulses) (g.ticks now)

namespace State

variable {s u v w : State} {l : LaneId}

/-! ### A pulse by its filter (R111, R114) -/

/-- An accepted pulse up to the divider. -/
def accepted (s : State) (l : LaneId) : State :=
  s.modFtm l fun m => (m.accept (tickAt s.clock.now) s.atNextBase).divide (s.lane l).pl.set.divider

theorem pulse_glitch (h : (s.lane l).ftm.accepts (tickAt s.clock.now) = false) :
    s.pulse l = s.modFtm l fun m => { m with glitches := satInc top16 m.glitches } := by
  unfold State.pulse
  dsimp only
  rw [if_neg (by rw [h]; exact nofun)]

theorem pulse_withheld (h : (s.lane l).ftm.accepts (tickAt s.clock.now) = true)
    (hphase : (s.lane l).ftm.passes (s.lane l).pl.set.divider = false) : s.pulse l = s.accepted l := by
  unfold State.pulse
  dsimp only
  rw [if_pos h, if_neg (by rw [hphase]; exact nofun)]
  rfl

theorem pulse_passed (h : (s.lane l).ftm.accepts (tickAt s.clock.now) = true)
    (hphase : (s.lane l).ftm.passes (s.lane l).pl.set.divider = true) : s.pulse l = (s.accepted l).countedPulse l := by
  unfold State.pulse
  dsimp only
  rw [if_pos h, if_pos hphase]
  rfl

theorem accepted_own (s : State) (l : LaneId) : (s.accepted l).lane l = { s.lane l with
    ftm := ((s.lane l).ftm.accept (tickAt s.clock.now) s.atNextBase).divide (s.lane l).pl.set.divider } :=
  lane_modFtm_same s l _

/-- The monitor behind an accepted and passed pulse. -/
theorem accepted_passed (h : (s.lane l).pl.set.divider = 1 ∨ (s.lane l).pl.set.divider = 2 ∧ (s.lane l).ftm.phase = 1) :
    s.accepted l = s.modFtm l fun m => { m with
      lastAccepted := some (tickAt s.clock.now), accepted := satInc top32 m.accepted, absent := false,
      lossTimer := some 0, lossFresh := Decidable.decide (s.nextBase ≤ s.clock.now), phase := 0,
      counted := satInc top32 m.counted } := by
  refine modFtm_congr ?_
  have hdivided := Monitor.divide_of_passed (m := (s.lane l).ftm.accept (tickAt s.clock.now) s.atNextBase) h
  rw [hdivided]
  rfl

/-! ### What a counted pulse is handed to (R114, R125) -/

theorem countedPulse_elsewhere (h : (s.lane l).pl.state = .starting ∨ ((s.gatePulse l).lane l).pl.state ≠ .playing) :
    s.countedPulse l = s.gatePulse l := by
  unfold State.countedPulse
  dsimp only
  refine if_neg fun hplays => ?_
  rcases h with h | h
  · exact hplays.1 h
  · exact h hplays.2

theorem countedPulse_playing (hstate : (s.lane l).pl.state = .playing) (h : ((s.gatePulse l).lane l).pl.state = .playing) :
    s.countedPulse l = (s.gatePulse l).presentPulse l := by
  unfold State.countedPulse
  dsimp only
  exact if_pos ⟨by rw [hstate]; exact nofun, h⟩

/-! ### The gate counter, case by case (R119, R120) -/

/-- A watch gate opened by a pulse (R125, R126). -/
def watchOpened (s : State) : Gate := (Gate.start .watch (some 32)).openAt s.clock.now

theorem gatePulse_none (h : (s.lane l).ftm.gate.state ≠ .opened) (hwatch : (s.lane l).ftm.watch = false) :
    s.gatePulse l = s := by
  unfold State.gatePulse
  dsimp only
  rw [if_pos h, if_neg (by rw [hwatch]; exact nofun)]

theorem gatePulse_watch (h : (s.lane l).ftm.gate.state ≠ .opened) (hwatch : (s.lane l).ftm.watch = true) :
    s.gatePulse l = s.modGate l fun _ => s.watchOpened := by
  unfold State.gatePulse
  dsimp only
  rw [if_pos h, if_pos hwatch]
  rfl

theorem gatePulse_opening (h : (s.lane l).ftm.gate.state = .opened) (hopened : (s.lane l).ftm.gate.opened = false) :
    s.gatePulse l = s.modGate l fun g => g.openAt s.clock.now := by
  unfold State.gatePulse
  dsimp only
  rw [if_neg (not_not_intro h), if_pos hopened]

theorem gatePulse_counting (h : (s.lane l).ftm.gate.state = .opened) (hopened : (s.lane l).ftm.gate.opened = true)
    (hlength : (s.lane l).ftm.gate.length ≠ some (satInc top32 (s.lane l).ftm.gate.pulses)) :
    s.gatePulse l = s.modGate l fun _ => (s.lane l).ftm.gate.counted s.clock.now := by
  unfold State.gatePulse
  dsimp only
  rw [if_neg (not_not_intro h), if_neg (by rw [hopened]; exact nofun), if_neg hlength]
  rfl

theorem gatePulse_ending (h : (s.lane l).ftm.gate.state = .opened) (hopened : (s.lane l).ftm.gate.opened = true)
    (hlength : (s.lane l).ftm.gate.length = some (satInc top32 (s.lane l).ftm.gate.pulses)) :
    s.gatePulse l = (s.modGate l fun _ => (s.lane l).ftm.gate.ended (s.lane l).pl.rate s.clock.now).ownerValid l
      (s.lane l).ftm.gate.owner ((s.lane l).ftm.gate.ended (s.lane l).pl.rate s.clock.now).deviation := by
  unfold State.gatePulse
  dsimp only
  rw [if_neg (not_not_intro h), if_neg (by rw [hopened]; exact nofun), if_pos hlength]
  rfl

/-! ### The owner of a VALID gate (R125 to R127) -/

theorem ownerValid_host (s : State) (l : LaneId) (x : Option Int) : s.ownerValid l .host x = s.raiseLane l srcGate := by
  unfold State.ownerValid State.raiseGate
  exact if_pos rfl

theorem ownerValid_watch_own (s : State) (l : LaneId) (x : Option Int) : (s.ownerValid l .watch x).lane l
    = { s.lane l with ftm := { (s.lane l).ftm with
        gate := (Gate.start .watch (some 32)).openAt s.clock.now
        rateOut := Decidable.decide ((s.lane l).pl.set.tolerance < (x.getD 0).natAbs)
        watchGates := satInc top32 (s.lane l).ftm.watchGates } } := by
  unfold State.ownerValid
  dsimp only
  rw [modGate_own, verdictOf_own]

theorem ownerValid_watch_ntu_same {x : Option Int} (l : LaneId)
    (h : Decidable.decide ((s.lane l).pl.set.tolerance < (x.getD 0).natAbs) = (s.lane l).ftm.rateOut) :
    (s.ownerValid l .watch x).ntu = s.ntu := by
  have hverdict : ∀ out, out = (s.lane l).ftm.rateOut → (s.verdictOf l out).ntu = s.ntu := fun out hout => by
    unfold State.verdictOf
    dsimp only
    rw [if_pos hout.symm]
    rfl
  exact hverdict _ h

theorem ownerValid_watch_raised {x : Option Int} (l : LaneId)
    (h : Decidable.decide ((s.lane l).pl.set.tolerance < (x.getD 0).natAbs) ≠ (s.lane l).ftm.rateOut) :
    (s.ownerValid l .watch x).ntu.raised.getLsbD (laneSource l srcRateWarn) = true := by
  have hverdict : ∀ out, out ≠ (s.lane l).ftm.rateOut →
      (s.verdictOf l out).ntu.raised.getLsbD (laneSource l srcRateWarn) = true := fun out hout => by
    unfold State.verdictOf
    dsimp only
    rw [if_neg (Ne.symm hout)]
    exact raiseLane_raised _ l (by decide)
  exact hverdict _ h

theorem ownerValid_check_passes {x : Option Int} (l : LaneId) (h : (x.getD 0).natAbs ≤ (s.lane l).pl.set.tolerance) :
    s.ownerValid l .check x = s.passCheck l := if_pos h

theorem ownerValid_check_fails {x : Option Int} (l : LaneId) (h : (s.lane l).pl.set.tolerance < (x.getD 0).natAbs) :
    s.ownerValid l .check x = s.failCheck l .rateMismatch := if_neg (by omega)

/-- Only the end of a check gate changes the lane beside its monitor (R125). -/
theorem gatePulse_pl (h : (s.lane l).ftm.gate.state = .opened → (s.lane l).ftm.gate.owner ≠ .check) :
    ((s.gatePulse l).lane l).pl = (s.lane l).pl := by
  by_cases hopen : (s.lane l).ftm.gate.state = .opened
  · cases hopened : (s.lane l).ftm.gate.opened with
    | false => rw [gatePulse_opening hopen hopened, modGate_own]
    | true =>
      by_cases hlength : (s.lane l).ftm.gate.length = some (satInc top32 (s.lane l).ftm.gate.pulses)
      · rw [gatePulse_ending hopen hopened hlength]
        cases howner : (s.lane l).ftm.gate.owner with
        | host => rw [ownerValid_host, raiseLane, lane_raise, modGate_own]
        | check => exact absurd howner (h hopen)
        | watch => rw [ownerValid_watch_own, modGate_own]
      · rw [gatePulse_counting hopen hopened hlength, modGate_own]
  · cases hwatch : (s.lane l).ftm.watch with
    | false => rw [gatePulse_none hopen hwatch]
    | true => rw [gatePulse_watch hopen hwatch, modGate_own]

/-! ### A pulse that no gate takes and that presents nothing -/

/-- The gate counter finds no gate open and no watch running. -/
def Ungated (s : State) (l : LaneId) : Prop := (s.lane l).ftm.gate.state ≠ .opened ∧ (s.lane l).ftm.watch = false

theorem accepted_ungated (h : s.Ungated l) : (s.accepted l).Ungated l := by
  obtain ⟨hgate, hwatch⟩ := h
  unfold Ungated
  rw [accepted_own]
  unfold Monitor.divide
  dsimp only
  split <;> exact ⟨hgate, hwatch⟩

theorem pulse_ungated (h : s.Ungated l) (hstate : (s.lane l).pl.state ≠ .playing)
    (haccepts : (s.lane l).ftm.accepts (tickAt s.clock.now) = true) : s.pulse l = s.accepted l := by
  cases hphase : (s.lane l).ftm.passes (s.lane l).pl.set.divider with
  | false => exact pulse_withheld haccepts hphase
  | true =>
    obtain ⟨hgate, hwatch⟩ := accepted_ungated h
    have hnone := gatePulse_none hgate hwatch
    rw [pulse_passed haccepts hphase, countedPulse_elsewhere (.inr ?_), hnone]
    rw [hnone, accepted_own]
    exact hstate

/-- Such a pulse changes its monitor alone, and no injection run of it. -/
theorem pulse_resting (h : s.Ungated l) (hstate : (s.lane l).pl.state ≠ .playing) :
    ∃ m, s.pulse l = s.modFtm l (fun _ => m) ∧ m.injection = (s.lane l).ftm.injection := by
  cases haccepts : (s.lane l).ftm.accepts (tickAt s.clock.now) with
  | false => exact ⟨_, pulse_glitch haccepts, rfl⟩
  | true => exact ⟨_, pulse_ungated h hstate haccepts, Monitor.divide_injection _ _⟩

/-- The run behind such a pulse, ended with its last (R117). -/
theorem injected_resting (h : s.Ungated l) (hstate : (s.lane l).pl.state ≠ .playing) (n : Nat) {x : State}
    (hx : x = if n = 0 then (s.pulse l).modFtm l (fun m => { m with injection := none }) else s.pulse l) :
    s.Silent l x ∧ (x.lane l).pl = (s.lane l).pl
      ∧ (x.lane l).ftm.injection = if n = 0 then none else (s.lane l).ftm.injection := by
  obtain ⟨m, hpulse, hrun⟩ := pulse_resting h hstate
  rw [hpulse] at hx
  subst hx
  split
  · refine ⟨(Silent.modFtm s l _).trans (.modFtm _ l _), ?_, ?_⟩
    · rw [lane_modFtm_same, lane_modFtm_same]
    · rw [lane_modFtm_same]
  · refine ⟨.modFtm s l _, ?_, ?_⟩
    · rw [lane_modFtm_same]
    · rw [lane_modFtm_same]
      exact hrun

/-- What a changed monitor leaves, when the event has settled. -/
theorem modFtm_settled (s : State) (l : LaneId) (f : Monitor → Monitor) : LaneFrame s (s.modFtm l f).settle l
    ∧ (s.modFtm l f).settle.held = s.held ∧ ((s.modFtm l f).settle.lane l).ftm = f (s.lane l).ftm
    ∧ ((s.modFtm l f).settle.lane l).pl.next = (s.lane l).pl.next := by
  refine ⟨(Silent.modFtm s l f).toBeside.settle, settle_held _, ?_, ?_⟩
  · rw [settle_ftm, lane_modFtm_same]
  · rw [settle_next, lane_modFtm_same]

end State

/-! ### The rows -/

theorem exec_rawPulse {s v : State} {c : ScreenId} {t : Instant} {l : LaneId} (hpin : s.pin = false) (hv : v = s.takeAt t)
    (hbound : v.boundTo c = some l) (hrun : (v.lane l).ftm.injection = none) :
    exec (.rawPulse c t) s = .next (v.pulse l).settle := by
  subst hv
  have hexec : exec (.rawPulse c t) s = execRawPulse c t s := rfl
  rw [hexec, execRawPulse, arriving_eq _ hpin]
  dsimp only
  rw [hbound]
  dsimp only
  rw [if_neg (by rw [hrun]; exact nofun)]

theorem exec_rawPulse_discarded {s v : State} {c : ScreenId} {t : Instant} (hpin : s.pin = false) (hv : v = s.takeAt t)
    (h : v.boundTo c = none ∨ ∃ l j, v.boundTo c = some l ∧ (v.lane l).ftm.injection = some j) :
    exec (.rawPulse c t) s = .next v.settle := by
  subst hv
  have hexec : exec (.rawPulse c t) s = execRawPulse c t s := rfl
  rw [hexec, execRawPulse, arriving_eq _ hpin]
  dsimp only
  rcases h with h | ⟨l, j, h, hj⟩
  · rw [h]
  · rw [h]
    dsimp only
    rw [if_pos (by rw [hj]; rfl)]

/-- The injection run behind one pulse of it (R117). -/
def Injection.next (j : Injection) : Injection := ⟨j.remaining - 1, j.q, j.nextTick + j.q + 1⟩

theorem State.injectedPulse_of {s : State} {l : LaneId} {j : Injection} (h : (s.lane l).ftm.injection = some j) :
    s.injectedPulse l = if j.remaining - 1 = 0 then
        ((s.modFtm l fun m => { m with injection := some j.next }).pulse l).modFtm l fun m => { m with injection := none }
      else (s.modFtm l fun m => { m with injection := some j.next }).pulse l := by
  unfold State.injectedPulse
  rw [h]
  rfl

theorem exec_injectedPulse {s v w : State} {l : LaneId} {j : Injection} (hpin : s.pin = false)
    (hrun : (s.lane l).ftm.injection = some j) (hhorizon : j.nextTick * 150 ≤ s.horizon)
    (hv : v = s.caughtUp (j.nextTick * 150)) (hstill : (v.lane l).ftm.injection = some j)
    (hw : w = v.clockTo (max v.clock.now (j.nextTick * 150))) :
    exec (.injectedPulse l) s = .next (if j.remaining - 1 = 0 then
        ((w.modFtm l fun m => { m with injection := some j.next }).pulse l).modFtm l fun m => { m with injection := none }
      else (w.modFtm l fun m => { m with injection := some j.next }).pulse l).settle := by
  have hexec : exec (.injectedPulse l) s = atInstant s l Monitor.injectAt fun s => s.injectedPulse l := rfl
  have hdue : ∀ m : Monitor, m.injection = some j → m.injectAt = some (j.nextTick * 150) := fun m hm => by
    unfold Monitor.injectAt
    rw [hm]
    rfl
  have hmoved : (w.lane l).ftm.injection = some j := by
    rw [hw, State.clockTo_lane_ftm]
    exact hstill
  rw [hexec, State.atInstant_eq _ hpin (hdue _ hrun) hhorizon hv (hdue _ hstill), ← hw, State.injectedPulse_of hmoved]

/-- A gate ended VALID by the pulse that brings its count to L (R120). -/
theorem Gate.ended_eq {g : Gate} {rate : Option Nat} {now : Instant} (h : g.opened = true) :
    g.ended rate now = { g with
      state := .done, pulses := satInc top32 g.pulses, count := min 16777215 (tickAt now - g.openTick), result := some .valid
      rate := some (measuredRate (satInc top32 g.pulses) (min 16777215 (tickAt now - g.openTick)))
      deviation := rate.map (Machine.deviation (measuredRate (satInc top32 g.pulses)
        (min 16777215 (tickAt now - g.openTick)))) } := by
  have hticks : g.ticks now = min 16777215 (tickAt now - g.openTick) := if_pos h
  unfold Gate.ended Gate.valid Gate.counted
  rw [hticks]

/-- Settles O48: the pulse by its filter, the divider and its lane, then the gate counter by its gate. -/
theorem pulsesConditioned : Obligations.PulsesConditioned := by
  refine ⟨fun s v c t hpin hv hdiscard => ?_, fun s v c t l hpin hv hbound hrun => ⟨fun last hlast hearly => ?_,
    fun hlate => ⟨fun hdivider hphase => ?_, fun hpasses hstate hgate hwatch => ?_⟩⟩,
    fun s v l j hpin hrun hhorizon hv hstill hcued hgate hwatch => ?_,
    ⟨fun s v c t l hpin hv hbound hrun => exec_rawPulse hpin hv hbound hrun,
      fun s v w l j hpin hrun hhorizon hv hstill hw => ?_, fun w l hlate hpasses => ?_,
      fun w l => ⟨fun hstate hcheck => ?_, fun hstate => State.countedPulse_elsewhere (.inl hstate), fun hstate hcheck => ?_⟩⟩,
    fun w u l g opened hg hu hopened => ?_⟩
  · refine ⟨exec_rawPulse_discarded hpin hv hdiscard, fun k => ?_⟩
    rw [State.settle_ftm, State.settle_next, State.settle_position]
    exact ⟨rfl, rfl, rfl⟩
  · refine ⟨_, exec_rawPulse hpin hv hbound hrun, ?_⟩
    rw [State.pulse_glitch (Monitor.not_accepts_of hlast hearly)]
    exact v.modFtm_settled l _
  · have hphased : (v.lane l).ftm.passes (v.lane l).pl.set.divider = false := by
      unfold Monitor.passes
      rw [hdivider, hphase]
      rfl
    obtain ⟨hframe, hheld, hftm, hnext⟩ := v.modFtm_settled l fun m =>
      (m.accept (tickAt v.clock.now) v.atNextBase).divide (v.lane l).pl.set.divider
    refine ⟨_, exec_rawPulse hpin hv hbound hrun, ?_⟩
    rw [State.pulse_withheld (Monitor.accepts_of hlate) hphased]
    refine ⟨hframe, hheld, hftm.trans ?_, hnext⟩
    rw [hdivider]
    exact Monitor.divide_of_withheld hphase
  · refine ⟨_, exec_rawPulse hpin hv hbound hrun, ?_⟩
    rw [State.pulse_ungated ⟨hgate, hwatch⟩ hstate (Monitor.accepts_of hlate), State.accepted_passed hpasses]
    exact v.modFtm_settled l _
  · have hexec := exec_injectedPulse hpin hrun hhorizon hv hstill rfl
    generalize hw : (v.clockTo (max v.clock.now (j.nextTick * 150))).modFtm l (fun m => { m with injection := some j.next }) = w
      at hexec
    have hown : w.lane l = { (v.clockTo (max v.clock.now (j.nextTick * 150))).lane l with
        ftm := { (v.lane l).ftm with injection := some j.next } } := by
      rw [← hw, State.lane_modFtm_same, State.clockTo_lane_ftm]
    have hpl : (w.lane l).pl.state = .cued ∧ (w.lane l).pl.next = (v.lane l).pl.next := by
      rw [hown, State.clockTo_lane_pl]
      exact ⟨hcued, rfl⟩
    have hungated : w.Ungated l := by
      unfold State.Ungated
      rw [hown]
      exact ⟨hgate, hwatch⟩
    obtain ⟨hquiet, hsame, hinjection⟩ := State.injected_resting hungated (by rw [hpl.1]; exact nofun) (j.remaining - 1) rfl
    have hmoved : (v.clockTo (max v.clock.now (j.nextTick * 150))).Silent l w := by
      rw [← hw]
      exact .modFtm _ l _
    have hstate := State.settle_state_eq (s := if j.remaining - 1 = 0 then
      (w.pulse l).modFtm l (fun m => { m with injection := none }) else w.pulse l) (l := l)
      (by rw [hsame, hpl.1]; exact nofun)
    refine ⟨_, hexec, (LaneFrame.clockTo v _ l).trans (hmoved.trans hquiet).toBeside.settle, ?_, ?_, ?_, ?_⟩
    · rw [State.settle_held, hquiet.held, hmoved.held]
      rfl
    · rw [State.settle_ftm, hinjection, hown]
      rfl
    · rw [hstate, hsame, hpl.1]
    · rw [State.settle_next, hsame, hpl.2]
  · subst hw
    exact exec_injectedPulse hpin hrun hhorizon hv hstill rfl
  · rw [State.pulse_passed (Monitor.accepts_of hlate) (Monitor.passes_of hpasses), State.accepted_passed hpasses]
  · exact State.countedPulse_playing hstate (by rw [State.gatePulse_pl hcheck]; exact hstate)
  · exact State.countedPulse_elsewhere (.inr (by rw [State.gatePulse_pl hcheck]; exact hstate))
  · subst hg hu hopened
    refine ⟨State.gatePulse_none, State.gatePulse_watch, State.gatePulse_opening, State.gatePulse_counting,
      fun n k done hstate hopened hlength hn hk hdone => ?_⟩
    subst hn hk
    have hended : done = (w.lane l).ftm.gate.ended (w.lane l).pl.rate w.clock.now := by
      rw [hdone, Gate.ended_eq hopened]
    have hdeviation : ∀ rate, (w.lane l).pl.rate = some rate → done.deviation.getD 0 = deviation (measuredRate
        (satInc top32 (w.lane l).ftm.gate.pulses) (min 16777215 (tickAt w.clock.now - (w.lane l).ftm.gate.openTick))) rate :=
      fun rate hrate => by
        rw [hdone, hrate]
        rfl
    have hgate := State.modGate_own w l fun _ => done
    have hpulse := State.gatePulse_ending hstate hopened hlength
    rw [← hended] at hpulse
    rw [hpulse]
    refine ⟨fun howner => ?_, fun rate howner hrate => ?_, fun rate out howner hrate hout => ?_⟩
    · rw [howner]
      exact State.ownerValid_host _ l _
    · have htolerance : ((w.modGate l fun _ => done).lane l).pl.set.tolerance = (w.lane l).pl.set.tolerance := by rw [hgate]
      rw [howner, ← hdeviation rate hrate, ← htolerance]
      refine ⟨?_, fun hwithin => ?_, fun hbeyond => ?_⟩
      · by_cases hwithin : (done.deviation.getD 0).natAbs ≤ ((w.modGate l fun _ => done).lane l).pl.set.tolerance
        · rw [State.ownerValid_check_passes l hwithin, State.passCheck, State.lane_modLane_same, hgate]
        · rw [State.ownerValid_check_fails l (by omega), State.failCheck_own, hgate]
      · rw [State.ownerValid_check_passes l hwithin, State.passCheck, State.lane_modLane_same, hgate]
        exact ⟨rfl, rfl, rfl⟩
      · rw [State.ownerValid_check_fails l hbeyond, State.failCheck_own, hgate]
        exact ⟨rfl, rfl, State.laneFault_raised _ l _⟩
    · rw [howner]
      rw [← hdeviation rate hrate] at hout
      have hverdict : Decidable.decide (((w.modGate l fun _ => done).lane l).pl.set.tolerance
          < (done.deviation.getD 0).natAbs) = out := by
        rw [hgate, hout]
      have hwas : ((w.modGate l fun _ => done).lane l).ftm.rateOut = (w.lane l).ftm.rateOut := by rw [hgate]
      refine ⟨?_, ?_, fun hsame => ?_, fun hchange => ?_⟩
      · rw [State.ownerValid_watch_own, hverdict, hgate]
        rfl
      · rw [State.ownerValid_watch_own, hgate]
      · exact State.ownerValid_watch_ntu_same l (hverdict.trans (hsame.trans hwas.symm))
      · exact State.ownerValid_watch_raised l (by rw [hverdict, hwas]; exact hchange)

end Sys2Proof.Machine
end

section
/-! PROOF. O51: the cue engine's activation, its banks and their records (R45, R144, R146, R147, R149 to R153). -/

namespace Sys2Proof.Machine

open Sys2Proof

/-! ### The bank order (R146) -/

theorem CueEntry.before_iff (x y : CueEntry) : x.before y = true ↔ x.inAt < y.inAt ∨ x.inAt = y.inAt ∧ (x.number < y.number
    ∨ x.number = y.number ∧ x.index ≤ y.index) := by
  unfold CueEntry.before
  simp

theorem CueEntry.before_trans (x y z : CueEntry) (h : x.before y = true) (k : y.before z = true) : x.before z = true := by
  rw [before_iff] at *
  omega

theorem CueEntry.before_total (x y : CueEntry) (h : x.before y = false) : y.before x = true := by
  rw [← Bool.not_eq_true, before_iff] at h
  rw [before_iff]
  omega

/-! ### A count raised more than once -/

theorem iterate_satInc {top : Nat} (n d : Nat) (h : d ≤ top) : (satInc top)^[n] d = min top (d + n) := by
  induction n with
  | zero => simpa using h
  | succ n ih =>
    rw [Function.iterate_succ_apply', ih]
    unfold satInc
    split <;> omega

namespace CueEngine

/-! ### The slots retired (R151 step 1) -/

/-- What a slot holds when its cue's time is over or not. -/
def keptAt (e : CueEngine) (f : Nat) (k : Fin 4) : Option ActiveCue := (e.active.get k).filter fun a => f < a.cue.outAt

/-- The HIDEs of the cues whose time is over. -/
def retireHides (e : CueEngine) (f : Nat) : List ScreenCommand :=
  fours.filterMap fun k => (e.active.get k).bind fun a =>
    if a.cue.outAt ≤ f ∧ a.hidden = false then some (.hide k.val) else none

theorem retireSlot_eq (f : Nat) : retireSlot f = slotwise (fun _ a => a.filter fun a => f < a.cue.outAt)
    (fun k a => a.bind fun a => if a.cue.outAt ≤ f ∧ a.hidden = false then some (.hide k.val) else none) := by
  funext o i
  unfold retireSlot
  cases ha : o.1.active.get i with
  | none =>
    refine (slotwise_none _ _ o i ?_ ?_).symm <;> rw [ha] <;> rfl
  | some a =>
    dsimp only
    by_cases hover : a.cue.outAt ≤ f
    · rw [if_pos hover]
      unfold freeActive slotwise
      rw [ha]
      have hlate : ¬ f < a.cue.outAt := by omega
      cases hhidden : a.hidden <;> simp [hover, hlate, hhidden, Option.filter_some]
    · rw [if_neg hover]
      have hearly : f < a.cue.outAt := by omega
      refine (slotwise_none _ _ o i ?_ ?_).symm <;> rw [ha] <;> simp [hover, hearly]

theorem retired_eq (e : CueEngine) (f : Nat) :
    fours.foldl (retireSlot f) (e, []) = ({ e with active := Quad.ofFn (e.keptAt f) }, e.retireHides f) := by
  rw [retireSlot_eq, slotwise_fours]
  rfl

/-! ### The entries that enter (R151 step 2, R152) -/

/-- The free slots in ascending order. -/
def freeSlots (e : CueEngine) : List (Fin 4) := fours.filter fun k => (e.active.get k).isNone

/-- One entry after another enters at its opacity. -/
def enterAll (f : Nat) (cs : List CueEntry) (o : CueOut) : CueOut :=
  cs.foldl (fun o c => enterCue c (opacityAt c f) o) o

theorem enterCues_eq (f : Nat) (cs : List CueEntry) (n : Nat) (o : CueOut) : enterCues f cs n o
    = (n + (cs.takeWhile fun c => c.inAt ≤ f).length,
      enterAll f ((cs.takeWhile fun c => c.inAt ≤ f).filter fun c => f < c.outAt) o) := by
  induction cs generalizing n o with
  | nil => rfl
  | cons c rest ih =>
    unfold enterCues
    by_cases hahead : f < c.inAt
    · rw [if_pos hahead, List.takeWhile_cons_of_neg (by simpa using hahead)]
      rfl
    · rw [if_neg hahead, List.takeWhile_cons_of_pos (by simpa using hahead), List.length_cons]
      by_cases hdue : f < c.outAt
      · rw [if_pos hdue, ih, List.filter_cons_of_pos (by simpa using hdue), Nat.add_right_comm]
        rfl
      · rw [if_neg hdue, ih, List.filter_cons_of_neg (by simpa using hdue), Nat.add_right_comm]
        rfl

theorem freeSlot_eq (e : CueEngine) : e.freeSlot = e.freeSlots.head? := by
  unfold CueEngine.freeSlot CueEngine.freeSlots
  rw [List.head?_filter]

theorem freeSlots_nodup (e : CueEngine) : e.freeSlots.Nodup := List.Nodup.filter _ (by decide)

theorem mem_freeSlots {e : CueEngine} {k : Fin 4} : k ∈ e.freeSlots ↔ e.active.get k = none := by
  unfold CueEngine.freeSlots
  simp [mem_fours]

/-- A slot taken is no longer free. -/
theorem freeSlots_set {e : CueEngine} {i : Fin 4} {rest : List (Fin 4)} (h : e.freeSlots = i :: rest) (a : ActiveCue) :
    ({ e with active := e.active.set i (some a) } : CueEngine).freeSlots = rest := by
  have hrest : i ∉ rest := (List.nodup_cons.mp (h ▸ e.freeSlots_nodup)).1
  have hfilter : ({ e with active := e.active.set i (some a) } : CueEngine).freeSlots = e.freeSlots.filter fun k => k ≠ i := by
    unfold CueEngine.freeSlots
    rw [List.filter_filter]
    refine List.filter_congr fun k _ => ?_
    by_cases hk : k = i
    · subst hk
      simp
    · simp [Quad.get_set_ne _ _ hk, hk]
  rw [hfilter, h, List.filter_cons_of_neg (by simp), List.filter_eq_self]
  intro k hk
  exact decide_eq_true fun heq => hrest (heq ▸ hk)

/-- What the entering of entries leaves: the first take the free slots in turn, the rest are dropped. -/
structure Entered (f : Nat) (cs : List CueEntry) (o u : CueOut) : Prop where
  same : u.1 = { o.1 with active := u.1.active, dropped := u.1.dropped }
  sent : u.2 = o.2 ++ (o.1.freeSlots.zip cs).map fun p =>
    .showCue p.1.val p.2.region p.2.offset p.2.style (opacityAt p.2 f) p.2.lines
  entered : ∀ k c, (k, c) ∈ o.1.freeSlots.zip cs → u.1.active.get k = some ⟨c, opacityAt c f, false⟩
  others : ∀ k, (∀ c, (k, c) ∉ o.1.freeSlots.zip cs) → u.1.active.get k = o.1.active.get k
  dropped : u.1.dropped = (satInc top32)^[cs.length - o.1.freeSlots.length] o.1.dropped

theorem Entered.enterAll (f : Nat) (cs : List CueEntry) (o : CueOut) : Entered f cs o (enterAll f cs o) := by
  induction cs generalizing o with
  | nil =>
    refine ⟨rfl, ?_, fun k c h => ?_, fun _ _ => rfl, ?_⟩
    · simp [CueEngine.enterAll]
    · simp at h
    · simp [CueEngine.enterAll]
  | cons c rest ih =>
    cases hfree : o.1.freeSlots with
    | nil =>
      have hstep : CueEngine.enterAll f (c :: rest) o
          = CueEngine.enterAll f rest ({ o.1 with dropped := satInc top32 o.1.dropped }, o.2) := by
        unfold CueEngine.enterAll
        rw [List.foldl_cons]
        unfold enterCue
        rw [freeSlot_eq, hfree]
        rfl
      have hsame : ({ o.1 with dropped := satInc top32 o.1.dropped } : CueEngine).freeSlots = [] := hfree
      obtain ⟨h1, h2, h3, h4, h5⟩ := ih ({ o.1 with dropped := satInc top32 o.1.dropped }, o.2)
      rw [hstep]
      dsimp only at h1 h2 h3 h4 h5
      rw [hsame] at h2 h3 h4 h5
      refine ⟨?_, ?_, ?_, ?_, ?_⟩
      · rw [h1]
      · rw [h2, hfree]
        rfl
      · rw [hfree]
        exact fun k c h => absurd h List.not_mem_nil
      · intro k _
        exact h4 k fun c h => absurd h List.not_mem_nil
      · rw [h5, hfree]
        rfl
    | cons i free =>
      have hstep : CueEngine.enterAll f (c :: rest) o = CueEngine.enterAll f rest
          ({ o.1 with active := o.1.active.set i (some ⟨c, opacityAt c f, false⟩) },
            o.2 ++ [showCommand i c (opacityAt c f)]) := by
        unfold CueEngine.enterAll
        rw [List.foldl_cons]
        unfold enterCue
        rw [freeSlot_eq, hfree]
        rfl
      have hsame := freeSlots_set hfree ⟨c, opacityAt c f, false⟩
      have hnot : i ∉ free := (List.nodup_cons.mp (hfree ▸ o.1.freeSlots_nodup)).1
      obtain ⟨h1, h2, h3, h4, h5⟩ := ih ({ o.1 with active := o.1.active.set i (some ⟨c, opacityAt c f, false⟩) },
            o.2 ++ [showCommand i c (opacityAt c f)])
      rw [hstep]
      dsimp only at h1 h2 h3 h4 h5
      rw [hsame] at h2 h3 h4 h5
      refine ⟨?_, ?_, ?_, ?_, ?_⟩
      · rw [h1]
      · rw [h2, hfree]
        simp [showCommand]
      · rw [hfree]
        intro k x h
        rw [List.zip_cons_cons] at h
        rcases List.mem_cons.mp h with h | h
        · obtain ⟨rfl, rfl⟩ := Prod.mk.inj h
          refine (h4 k fun y hy => hnot (List.of_mem_zip hy).1).trans ?_
          exact Quad.get_set_same _ _ _
        · exact h3 k x h
      · rw [hfree]
        intro k h
        rw [List.zip_cons_cons] at h
        refine (h4 k fun y hy => h y (List.mem_cons_of_mem _ hy)).trans (Quad.get_set_ne _ _ fun hk => ?_)
        exact h c (hk ▸ List.mem_cons_self)
      · rw [h5, hfree, List.length_cons, List.length_cons, Nat.add_sub_add_right]

/-! ### The slots kept (R151 step 3) -/

theorem slotwise_fours_behind (g : Fin 4 → Option ActiveCue → Option ActiveCue)
    (cmd : Fin 4 → Option ActiveCue → Option ScreenCommand) (e : CueEngine) (xs : List ScreenCommand) :
    fours.foldl (slotwise g cmd) (e, xs) = ({ e with active := Quad.ofFn fun k => g k (e.active.get k) },
      xs ++ fours.filterMap fun k => cmd k (e.active.get k)) := by
  have hsent : (fours.filterMap fun k => cmd k (e.active.get k)) = fours.flatMap fun k => (cmd k (e.active.get k)).toList :=
    List.filterMap_eq_flatMap_toList _ _
  rw [hsent]
  simp [fours, slotwise, Quad.ofFn, Quad.get, Quad.set]

/-- A cue at the opacity of a frame, but for a hidden one. -/
def updated (f : Nat) (a : ActiveCue) : ActiveCue := { a with opacity := if a.hidden then a.opacity else opacityAt a.cue f }

theorem updated_of {f : Nat} {a : ActiveCue} (h : opacityAt a.cue f = a.opacity ∨ a.hidden = true) : updated f a = a := by
  unfold updated
  by_cases hhidden : a.hidden = true
  · rw [if_pos hhidden]
  · rw [if_neg hhidden, h.resolve_right hhidden]

theorem updateSlot_eq (f : Nat) (kept : Quad (Option ActiveCue)) : updateSlot f kept = slotwise
    (fun k a => if (kept.get k).isSome then a.map (updated f) else a)
    (fun k a => if (kept.get k).isSome then a.bind fun a =>
      if a.hidden = false ∧ opacityAt a.cue f ≠ a.opacity then some (.opacity k.val (opacityAt a.cue f)) else none else none) := by
  funext o i
  unfold updateSlot
  cases hkept : kept.get i with
  | none =>
    refine (slotwise_none _ _ o i ?_ ?_).symm <;> rw [hkept] <;> rfl
  | some x =>
    cases ha : o.1.active.get i with
    | none =>
      refine (slotwise_none _ _ o i ?_ ?_).symm <;> rw [hkept, ha] <;> rfl
    | some a =>
      dsimp only
      by_cases hstays : opacityAt a.cue f = a.opacity ∨ a.hidden = true
      · rw [if_pos hstays]
        have hquiet : ¬ (a.hidden = false ∧ opacityAt a.cue f ≠ a.opacity) := fun h =>
          hstays.elim h.2 (by rw [h.1]; exact nofun)
        refine (slotwise_none _ _ o i ?_ ?_).symm <;> rw [hkept, ha]
        · rw [if_pos (by rfl), Option.map_some, updated_of hstays]
        · rw [if_pos (by rfl), Option.bind_some, if_neg hquiet]
      · rw [if_neg hstays]
        obtain ⟨hopacity, hhidden⟩ := not_or.mp hstays
        have hshown : a.hidden = false := Bool.eq_false_iff.mpr hhidden
        unfold slotwise
        dsimp only
        rw [hkept, ha, if_pos (by rfl), if_pos (by rfl), Option.map_some, Option.bind_some, if_pos ⟨hshown, hopacity⟩]
        unfold updated
        rw [if_neg hhidden]
        rfl

/-! ### A presented frame with its bank LOADED (R151) -/

variable {e : CueEngine} {b : BankId} {item reel f : Nat}

/-- The entries reached by a frame. -/
def reached (e : CueEngine) (b : BankId) (f : Nat) : List CueEntry :=
  ((e.bank b).entries.drop (e.bank b).cursor).takeWhile fun c => c.inAt ≤ f

/-- Those of them whose time is not over. -/
def due (e : CueEngine) (b : BankId) (f : Nat) : List CueEntry := (e.reached b f).filter fun c => f < c.outAt

/-- The slots free behind the retirement. -/
def freed (e : CueEngine) (f : Nat) : List (Fin 4) := fours.filter fun k => (e.keptAt f k).isNone

/-- The engine and its commands behind the entering. -/
def entered (e : CueEngine) (b : BankId) (f : Nat) : CueOut :=
  enterAll f (e.due b f) ({ e with active := Quad.ofFn (e.keptAt f) }, e.retireHides f)

theorem freed_eq (e : CueEngine) (f : Nat) : ({ e with active := Quad.ofFn (e.keptAt f) } : CueEngine).freeSlots = e.freed f := by
  unfold CueEngine.freeSlots CueEngine.freed
  simp only [Quad.get_ofFn]

theorem entered_spec (e : CueEngine) (b : BankId) (f : Nat) :
    Entered f (e.due b f) ({ e with active := Quad.ofFn (e.keptAt f) }, e.retireHides f) (e.entered b f) :=
  .enterAll f (e.due b f) _

theorem activate_eq (e : CueEngine) (b : BankId) (f : Nat) : e.activate b f =
    ({ (e.entered b f).1.modBank b (fun k => { k with cursor := k.cursor + (e.reached b f).length }) with
        active := Quad.ofFn fun k => if (e.keptAt f k).isSome then ((e.entered b f).1.active.get k).map (updated f)
          else (e.entered b f).1.active.get k },
      (e.entered b f).2 ++ fours.filterMap fun k => if (e.keptAt f k).isSome then
        ((e.entered b f).1.active.get k).bind fun a => if a.hidden = false ∧ opacityAt a.cue f ≠ a.opacity then
          some (.opacity k.val (opacityAt a.cue f)) else none else none) := by
  have hactive : ∀ (u : CueEngine) (g : Bank → Bank), (u.modBank b g).active = u.active := fun u g => by
    cases b <;> rfl
  unfold CueEngine.activate
  dsimp only
  rw [retired_eq, enterCues_eq, updateSlot_eq, slotwise_fours_behind]
  simp only [Quad.get_ofFn, hactive, Nat.zero_add]
  rfl

theorem activate_kept {k : Fin 4} {a : ActiveCue} (b : BankId) (hk : e.keptAt f k = some a) :
    (e.activate b f).1.active.get k = some (updated f a) := by
  have hsame : (e.entered b f).1.active.get k = some a := by
    refine ((e.entered_spec b f).others k fun c hc => ?_).trans ((Quad.get_ofFn _ k).trans hk)
    rw [freed_eq] at hc
    have hnone := (List.mem_filter.mp (List.of_mem_zip hc).1).2
    rw [hk] at hnone
    exact nomatch hnone
  rw [activate_eq, Quad.get_ofFn, if_pos (by rw [hk]; rfl), hsame, Option.map_some]

theorem activate_freed {k : Fin 4} (b : BankId) (hk : e.keptAt f k = none) :
    (e.activate b f).1.active.get k = (e.entered b f).1.active.get k := by
  rw [activate_eq, Quad.get_ofFn, if_neg (by rw [hk]; exact nofun)]

theorem activate_entered {k : Fin 4} {c : CueEntry} (h : (k, c) ∈ (e.freed f).zip (e.due b f)) :
    (e.activate b f).1.active.get k = some ⟨c, opacityAt c f, false⟩ := by
  have hfreed : e.keptAt f k = none := by simpa using (List.mem_filter.mp (List.of_mem_zip h).1).2
  rw [activate_freed b hfreed]
  refine (e.entered_spec b f).entered k c ?_
  rw [freed_eq]
  exact h

/-- A cue in a slot that was free is one of the entries due. -/
theorem entered_of_freed {k : Fin 4} {a : ActiveCue} (hk : e.keptAt f k = none)
    (ha : (e.activate b f).1.active.get k = some a) : ∃ c ∈ e.due b f, a = ⟨c, opacityAt c f, false⟩ := by
  by_cases hentered : ∃ c, (k, c) ∈ (e.freed f).zip (e.due b f)
  · obtain ⟨c, hc⟩ := hentered
    exact ⟨c, (List.of_mem_zip hc).2, Option.some.inj (ha.symm.trans (activate_entered hc))⟩
  · have hsame : (e.entered b f).1.active.get k = none := by
      refine ((e.entered_spec b f).others k fun c hc => ?_).trans ((Quad.get_ofFn _ k).trans hk)
      rw [freed_eq] at hc
      exact hentered ⟨c, hc⟩
    rw [activate_freed b hk, hsame] at ha
    exact nomatch ha

theorem bank_modBank (e : CueEngine) (b : BankId) (g : Bank → Bank) : (e.modBank b g).bank b = g (e.bank b) := by
  cases b <;> rfl

theorem bank_modBank_ne (e : CueEngine) {b k : BankId} (h : k ≠ b) (g : Bank → Bank) : (e.modBank b g).bank k = e.bank k := by
  cases b with
  | bankA =>
    cases k with
    | bankA => exact absurd rfl h
    | bankB => rfl
  | bankB =>
    cases k with
    | bankA => rfl
    | bankB => exact absurd rfl h

theorem activate_bank (e : CueEngine) (b : BankId) (f : Nat) : (e.activate b f).1.bank b
    = { e.bank b with cursor := (e.bank b).cursor + (e.reached b f).length } := by
  have hsame : (e.entered b f).1.bank b = e.bank b := by
    rw [(e.entered_spec b f).same]
    cases b <;> rfl
  have hmoved := (e.entered b f).1.bank_modBank b fun k => { k with cursor := k.cursor + (e.reached b f).length }
  rw [hsame] at hmoved
  rw [activate_eq, ← hmoved]
  cases b <;> rfl

theorem activate_current (e : CueEngine) (b : BankId) (f : Nat) : (e.activate b f).1.current = e.current := by
  rw [activate_eq, (e.entered_spec b f).same]
  cases b <;> rfl

theorem activate_dropped (e : CueEngine) (b : BankId) (f : Nat) : (e.activate b f).1.dropped
    = (satInc top32)^[(e.due b f).length - (e.freed f).length] e.dropped := by
  have hdropped := (e.entered_spec b f).dropped
  rw [freed_eq] at hdropped
  rw [activate_eq, ← hdropped]
  cases b <;> rfl

theorem activate_sent (e : CueEngine) (b : BankId) (f : Nat) : (e.activate b f).2 = e.retireHides f
    ++ ((e.freed f).zip (e.due b f)).map (fun p =>
      .showCue p.1.val p.2.region p.2.offset p.2.style (opacityAt p.2 f) p.2.lines)
    ++ fours.filterMap fun k => (e.keptAt f k).bind fun a => if a.hidden = false ∧ opacityAt a.cue f ≠ a.opacity then
        some (.opacity k.val (opacityAt a.cue f)) else none := by
  have hsent := (e.entered_spec b f).sent
  rw [freed_eq] at hsent
  rw [activate_eq, hsent]
  refine congrArg (_ ++ ·) (List.filterMap_congr fun k _ => ?_)
  cases hk : e.keptAt f k with
  | none => rfl
  | some a =>
    have hsame : (e.entered b f).1.active.get k = some a := by
      refine ((e.entered_spec b f).others k fun c hc => ?_).trans ((Quad.get_ofFn _ k).trans hk)
      rw [freed_eq] at hc
      have hnone := (List.mem_filter.mp (List.of_mem_zip hc).1).2
      rw [hk] at hnone
      exact nomatch hnone
    rw [hsame]
    rfl

/-- The first entry behind the cursor is still to come. -/
theorem ahead_of_cursor {c : CueEntry} (h : (e.bank b).entries[(e.bank b).cursor + (e.reached b f).length]? = some c) :
    f < c.inAt := by
  have hsplit : (e.bank b).entries.drop (e.bank b).cursor
      = e.reached b f ++ ((e.bank b).entries.drop (e.bank b).cursor).dropWhile fun c => c.inAt ≤ f :=
    List.takeWhile_append_dropWhile.symm
  rw [← List.getElem?_drop, hsplit, List.getElem?_append_right le_rfl, Nat.sub_self, ← List.head?_eq_getElem?] at h
  have hnot := List.head?_dropWhile_not (fun c : CueEntry => Decidable.decide (c.inAt ≤ f))
    ((e.bank b).entries.drop (e.bank b).cursor)
  rw [h] at hnot
  simpa using hnot

theorem mem_reached {c : CueEntry} (h : c ∈ e.reached b f) : c ∈ (e.bank b).entries ∧ c.inAt ≤ f :=
  ⟨List.mem_of_mem_drop ((List.takeWhile_sublist _).subset h), by simpa using List.mem_takeWhile_imp h⟩

/-- A presented frame of a reel whose bank is LOADED (R150, R151). -/
theorem presented_loaded (hbank : e.bankOf item reel = some b) (hstate : (e.bank b).state = .loaded)
    (hrebuild : e.rebuild = false) : e.presented item reel f = ({ e with current := some b } : CueEngine).activate b f := by
  have hentered : e.enterReel item reel = { e with current := some b } := by
    unfold CueEngine.enterReel
    rw [hbank]
  have hloaded : (({ e with current := some b } : CueEngine).bank b).state = .loaded := by
    cases b <;> exact hstate
  unfold CueEngine.presented
  dsimp only
  rw [hentered]
  dsimp only
  rw [hloaded]
  exact if_neg (by rw [hrebuild]; exact nofun)

/-! ### A bank built (R146, R149) -/

/-- A built bank's entries are those of the valid records that have a frame. -/
theorem mem_built (k : Bank) (c : CueEntry) : c ∈ k.built
    ↔ ∃ x r, x ∈ k.records ∧ x.2 = some r ∧ cueEntry k.delta k.frames x.1 r = some c := by
  unfold Bank.built
  rw [mem_sortBy, List.mem_filterMap]
  refine ⟨fun ⟨x, hx, h⟩ => ?_, fun ⟨x, r, hx, hr, h⟩ => ⟨x, hx, ?_⟩⟩
  · cases hr : x.2 with
    | none =>
      rw [hr] at h
      exact nomatch h
    | some r =>
      rw [hr] at h
      exact ⟨x, r, hx, hr, h⟩
  · rw [hr]
    exact h

theorem built_pairwise (k : Bank) : k.built.Pairwise fun x y => x.inAt < y.inAt ∨ x.inAt = y.inAt ∧ (x.number < y.number
    ∨ x.number = y.number ∧ x.index ≤ y.index) :=
  (sortBy_pairwise CueEntry.before_total CueEntry.before_trans _).imp fun {x y} h => (x.before_iff y).mp h

theorem build_eq (hstate : (e.bank b).state = .loading) (hawaiting : (e.bank b).awaiting = 0) : e.build b =
    { (e.modBank b fun k => { k with state := .loaded, entries := (e.bank b).built, cursor := 0, records := [] }) with
      bad := satAdd top32 e.bad ((e.bank b).records.length - (e.bank b).built.length) } := if_pos ⟨hstate, hawaiting⟩

end CueEngine

/-! ### The lines of a cue record (R144) -/

theorem b16_u16 {bs : List Byte} (h : 2 ≤ bs.length) : b16 (u16 bs 0) = bs.take 2 := by
  obtain ⟨x, y, rest, rfl⟩ : ∃ x y rest, bs = x :: y :: rest := by
    match bs, h with
    | x :: y :: rest, _ => exact ⟨x, y, rest, rfl⟩
  have hx := x.isLt
  have hy := y.isLt
  have hval : u16 (x :: y :: rest) 0 = x.toNat * 256 + y.toNat := rfl
  have hhigh : BitVec.ofNat 8 ((x.toNat * 256 + y.toNat) / 256) = x := by
    apply BitVec.eq_of_toNat_eq
    rw [BitVec.toNat_ofNat]
    omega
  have hlow : BitVec.ofNat 8 (x.toNat * 256 + y.toNat) = y := by
    apply BitVec.eq_of_toNat_eq
    rw [BitVec.toNat_ofNat]
    omega
  rw [hval]
  unfold b16
  rw [hhigh, hlow]
  rfl

/-- The lines of a record: each a length of two bytes and its bytes. -/
def linesBytes (ls : List (List Byte)) : List Byte := (ls.map fun x => b16 x.length ++ x).flatten

theorem cueLines_iff (n : Nat) (bs : List Byte) (ls : List (List Byte)) : cueLines n bs = some ls
    ↔ ls.length = n ∧ (∀ x ∈ ls, x.length < 65536) ∧ ∃ rest, bs = linesBytes ls ++ rest := by
  induction n generalizing bs ls with
  | zero =>
    refine ⟨fun h => ?_, fun ⟨hlen, _⟩ => ?_⟩
    · obtain rfl := Option.some.inj h
      exact ⟨rfl, fun x hx => absurd hx List.not_mem_nil, bs, rfl⟩
    · rw [List.length_eq_zero_iff.mp hlen]
      rfl
  | succ n ih =>
    refine ⟨fun h => ?_, fun ⟨hlen, hshort, rest, hbs⟩ => ?_⟩
    · unfold cueLines at h
      split at h
      · exact nomatch h
      · rename_i hlong
        dsimp only at h
        split at h
        · exact nomatch h
        · rename_i hfits
          obtain ⟨more, hmore, rfl⟩ := Option.map_eq_some_iff.mp h
          obtain ⟨hlen, hshort, rest, hrest⟩ := (ih _ _).mp hmore
          have hline : ((bs.drop 2).take (u16 bs 0)).length = u16 bs 0 := by
            rw [List.length_take, List.length_drop]
            omega
          refine ⟨by rw [List.length_cons, hlen], fun x hx => ?_, rest, ?_⟩
          · rcases List.mem_cons.mp hx with rfl | hx
            · rw [hline]
              exact u16_lt bs 0
            · exact hshort x hx
          · have hhead : linesBytes ((bs.drop 2).take (u16 bs 0) :: more)
                = bs.take 2 ++ (bs.drop 2).take (u16 bs 0) ++ linesBytes more := by
              unfold linesBytes
              rw [List.map_cons, List.flatten_cons, hline, b16_u16 (by omega)]
            rw [hhead, List.append_assoc, ← hrest, Nat.add_comm, ← List.drop_drop, List.append_assoc, List.take_append_drop,
              List.take_append_drop]
    · obtain ⟨x, more, rfl⟩ := List.exists_cons_of_length_eq_add_one hlen
      have hx : x.length < 65536 := hshort x List.mem_cons_self
      have hhead : bs = b16 x.length ++ (x ++ (linesBytes more ++ rest)) := by
        rw [hbs]
        unfold linesBytes
        simp
      have hval : u16 bs 0 = x.length := by
        rw [hhead]
        exact u16_b16 hx _
      have htwo : (b16 x.length).length = 2 := rfl
      have hlength : bs.length = 2 + (x.length + (linesBytes more ++ rest).length) := by
        rw [hhead, List.length_append, List.length_append, htwo]
      have hdrop : bs.drop 2 = x ++ (linesBytes more ++ rest) := by
        rw [hhead]
        rfl
      have hrest : cueLines n (bs.drop (x.length + 2)) = some more := by
        refine (ih _ _).mpr ⟨by simpa using hlen, fun y hy => hshort y (List.mem_cons_of_mem _ hy), rest, ?_⟩
        rw [Nat.add_comm, ← List.drop_drop, hdrop, List.drop_left]
      unfold cueLines
      rw [if_neg (by omega)]
      dsimp only
      rw [hval, if_neg (by omega), hrest, hdrop, List.take_left]
      rfl

/-! ### A reel's take-up (R45, R147) -/

namespace State

theorem subtitleTrack_none {s : State} {pid : Nat} (reel : Nat) (h : s.stc.find pid = none) :
    subtitleTrack s pid reel = .absent := by
  unfold subtitleTrack
  rw [h]

theorem subtitleTrack_absent {s : State} {pid reel n : Nat} {x : TableEntry} (h : s.stc.find pid = some (n, x))
    (htrack : x.record.track reel .subtitle = none) : subtitleTrack s pid reel = .absent := by
  unfold subtitleTrack
  rw [h]
  dsimp only
  rw [htrack]

theorem subtitleTrack_some {s : State} {pid reel n : Nat} {x : TableEntry} {t : Track}
    (h : s.stc.find pid = some (n, x)) (htrack : x.record.track reel .subtitle = some t) :
    subtitleTrack s pid reel = if t.complete then .complete t.units else .incomplete := by
  unfold subtitleTrack
  rw [h]
  dsimp only
  rw [htrack]

/-- The bank a take-up uses, taken with PKA's answer. -/
def bankTaken (s : State) (l : LaneId) (item reel frames : Nat) (answer : SubtitleAnswer) : State :=
  s.modSce l fun e => e.modBank (s.lane l).sce.takeBank fun _ =>
    takenBank item reel frames (s.lane l).pl.set.subtitleOffset answer

variable {s : State} {l : LaneId} {pid item reel frames : Nat}

theorem bankTaken_own (s : State) (l : LaneId) (item reel frames : Nat) (answer : SubtitleAnswer) :
    (s.bankTaken l item reel frames answer).lane l = { s.lane l with
      sce := (s.lane l).sce.modBank (s.lane l).sce.takeBank fun _ =>
        takenBank item reel frames (s.lane l).pl.set.subtitleOffset answer } := lane_modLane_same s l _

theorem takeUpReel_absent (h : subtitleTrack s pid reel = .absent) :
    s.takeUpReel l pid item reel frames = s.bankTaken l item reel frames .absent := by
  unfold State.takeUpReel
  rw [h]
  rfl

theorem takeUpReel_incomplete (h : subtitleTrack s pid reel = .incomplete) : s.takeUpReel l pid item reel frames
    = ((s.bankTaken l item reel frames .incomplete).modSce l fun e => { e with
        missing := satInc top32 e.missing }).raiseLane l srcSubsMissing := by
  unfold State.takeUpReel
  rw [h]
  rfl

theorem takeUpReel_complete {n : Nat} (h : subtitleTrack s pid reel = .complete n) : s.takeUpReel l pid item reel frames
    = (s.bankTaken l item reel frames (.complete n)).modFetch l fun f => { f with
        work := .cues (s.lane l).sce.takeBank 0 n } := by
  unfold State.takeUpReel
  rw [h]
  rfl

/-- A take-up changes the bank it uses, and no other (R147). -/
theorem takeUpReel_bank (s : State) (l : LaneId) (pid item reel frames : Nat) (k : BankId) :
    ((s.takeUpReel l pid item reel frames).lane l).sce.bank k
      = ((s.lane l).sce.modBank (s.lane l).sce.takeBank fun _ =>
        takenBank item reel frames (s.lane l).pl.set.subtitleOffset (subtitleTrack s pid reel)).bank k := by
  cases h : subtitleTrack s pid reel with
  | absent => rw [takeUpReel_absent h, bankTaken_own]
  | incomplete =>
    have hown : (((s.bankTaken l item reel frames .incomplete).modSce l fun e => { e with
        missing := satInc top32 e.missing }).lane l).sce = { ((s.bankTaken l item reel frames .incomplete).lane l).sce with
          missing := satInc top32 ((s.bankTaken l item reel frames .incomplete).lane l).sce.missing } :=
      congrArg Lane.sce (lane_modLane_same _ l _)
    rw [takeUpReel_incomplete h, raiseLane, lane_raise, hown, bankTaken_own]
    cases k <;> rfl
  | complete n => rw [takeUpReel_complete h, State.modFetch, lane_modPl_same, bankTaken_own]

end State

/-! ### A cue record (R144) -/

/-- The fields of a record within their values, its lines apart. -/
def CueRecord.InRange (c : CueRecord) (lines : Nat) : Prop :=
  1 ≤ c.number ∧ c.inFrame ≤ 216000 ∧ c.outFrame ≤ 216000 ∧ c.fadeIn ≤ 60 ∧ c.fadeOut ≤ 60
    ∧ c.region ≤ 1 ∧ c.offset ≤ 100 ∧ c.style ≤ 15 ∧ 1 ≤ lines ∧ lines ≤ 4

/-- The record of a block with given lines. -/
def cueOf (block : List Byte) (lines : List (List Byte)) : CueRecord :=
  { number := u16 block 0, inFrame := u32 block 2, outFrame := u32 block 6, fadeIn := u8 block 10,
    fadeOut := u8 block 11, region := u8 block 12, offset := u8 block 13, style := u8 block 14, lines := lines }

theorem parseCue_eq (block : List Byte) (c : CueRecord) : parseCue block = some c ↔ (cueOf block []).InRange (u8 block 15)
    ∧ ∃ ls, cueLines (u8 block 15) ((block.take 4096).drop 16) = some ls ∧ (ls.map List.length).sum ≤ 400
      ∧ c = cueOf block ls := by
  unfold parseCue
  dsimp only
  refine ⟨fun h => ?_, fun ⟨hrange, ls, hlines, hsum, hc⟩ => ?_⟩
  · split at h
    · rename_i hrange
      cases hlines : cueLines (u8 block 15) ((block.take 4096).drop 16) with
      | none =>
        rw [hlines] at h
        exact nomatch h
      | some ls =>
        rw [hlines] at h
        dsimp only at h
        split at h
        · rename_i hsum
          exact ⟨hrange, ls, rfl, hsum, (Option.some.inj h).symm⟩
        · exact nomatch h
    · exact nomatch h
  · refine (if_pos hrange).trans ?_
    rw [hlines]
    dsimp only
    rw [if_pos hsum, hc]
    rfl

theorem length_le_sum {ls : List (List Byte)} {x : List Byte} (h : x ∈ ls) : x.length ≤ (ls.map List.length).sum :=
  List.single_le_sum (fun _ _ => Nat.zero_le _) _ (List.mem_map_of_mem h)

theorem parseCue_iff (block : List Byte) (c : CueRecord) : parseCue block = some c ↔
    c.number = u16 block 0 ∧ c.inFrame = u32 block 2 ∧ c.outFrame = u32 block 6 ∧ c.fadeIn = u8 block 10
      ∧ c.fadeOut = u8 block 11 ∧ c.region = u8 block 12 ∧ c.offset = u8 block 13 ∧ c.style = u8 block 14
      ∧ c.lines.length = u8 block 15 ∧ 1 ≤ c.number ∧ c.inFrame ≤ 216000 ∧ c.outFrame ≤ 216000
      ∧ c.fadeIn ≤ 60 ∧ c.fadeOut ≤ 60 ∧ c.region ≤ 1 ∧ c.offset ≤ 100 ∧ c.style ≤ 15
      ∧ 1 ≤ c.lines.length ∧ c.lines.length ≤ 4 ∧ (c.lines.map List.length).sum ≤ 400
      ∧ ∃ rest, (block.take 4096).drop 16 = linesBytes c.lines ++ rest := by
  rw [parseCue_eq]
  refine ⟨fun ⟨hrange, ls, hlines, hsum, hc⟩ => ?_, fun h => ?_⟩
  · obtain ⟨hlen, -, hbytes⟩ := (cueLines_iff _ _ _).mp hlines
    obtain ⟨h1, h2, h3, h4, h5, h6, h7, h8, h9, h10⟩ := hrange
    subst hc
    exact ⟨rfl, rfl, rfl, rfl, rfl, rfl, rfl, rfl, hlen, h1, h2, h3, h4, h5, h6, h7, h8, hlen.symm ▸ h9, hlen.symm ▸ h10, hsum, hbytes⟩
  · obtain ⟨e1, e2, e3, e4, e5, e6, e7, e8, hlen, h1, h2, h3, h4, h5, h6, h7, h8, h9, h10, hsum, hbytes⟩ := h
    have hc : c = cueOf block c.lines := by
      unfold cueOf
      rw [← e1, ← e2, ← e3, ← e4, ← e5, ← e6, ← e7, ← e8]
    refine ⟨?_, c.lines, (cueLines_iff _ _ _).mpr ⟨hlen, fun x hx => ?_, hbytes⟩, hsum, hc⟩
    · unfold CueRecord.InRange cueOf
      rw [← e1, ← e2, ← e3, ← e4, ← e5, ← e6, ← e7, ← e8, ← hlen]
      exact ⟨h1, h2, h3, h4, h5, h6, h7, h8, h9, h10⟩
    · have := length_le_sum hx
      omega

/-- Settles O51: the activation slot by slot, the take-up by its track, the record and the bank built. -/
theorem cuesActivated : Obligations.CuesActivated := by
  refine ⟨fun e b item reel f hbank hstate hrebuild => ?_,
    fun e b item reel f reached due kept free hbank hstate hrebuild hreached hdue hkept hfree => ?_,
    fun s u l pid item reel frames b hu hb => ?_, fun s pid reel => ⟨⟨fun h n x hx => ?_, fun h => ?_⟩, fun n x t hx ht => ?_⟩,
    fun block c => parseCue_iff block c, fun e u b hstate hawaiting hu => ?_⟩
  · have hentries : (({ e with current := some b } : CueEngine).bank b) = e.bank b := by cases b <;> rfl
    rw [CueEngine.presented_loaded hbank hstate hrebuild]
    generalize he : ({ e with current := some b } : CueEngine) = x at hentries ⊢
    have hactive : ∀ k, x.active.get k = e.active.get k := fun k => by rw [← he]
    have hof : ∀ k a, (x.activate b f).1.active.get k = some a → f < a.cue.outAt := fun k a ha => by
      cases hk : x.keptAt f k with
      | none =>
        obtain ⟨c, hc, rfl⟩ := CueEngine.entered_of_freed hk ha
        simpa using (List.mem_filter.mp hc).2
      | some o =>
        obtain rfl := Option.some.inj (ha.symm.trans (CueEngine.activate_kept b hk))
        have hearly : f < o.cue.outAt := of_decide_eq_true (Option.filter_eq_some_iff.mp hk).2
        exact hearly
    refine ⟨?_, hof, fun k a ha hdue => ?_, fun k a hover ha => ?_, fun c hc => ?_, ?_⟩
    · rw [CueEngine.activate_current, ← he]
    · refine ⟨_, CueEngine.activate_kept b (k := k) (a := a) ?_, rfl⟩
      exact Option.filter_eq_some_iff.mpr ⟨(hactive k).trans ha, decide_eq_true hdue⟩
    · have hk : x.keptAt f k = none := by
        rw [Option.eq_none_iff_forall_ne_some]
        intro o ho
        obtain ⟨hsome, hlate⟩ := Option.filter_eq_some_iff.mp ho
        have := hover o ((hactive k).symm.trans hsome)
        have : f < o.cue.outAt := of_decide_eq_true hlate
        omega
      obtain ⟨c, hc, rfl⟩ := CueEngine.entered_of_freed hk ha
      obtain ⟨hmem, hin⟩ := CueEngine.mem_reached (List.mem_filter.mp hc).1
      exact ⟨hentries ▸ hmem, hin, rfl, rfl⟩
    · rw [CueEngine.activate_bank] at hc
      refine CueEngine.ahead_of_cursor (e := x) (b := b) ?_
      rw [hentries] at hc ⊢
      exact hc
    · rw [CueEngine.activate_bank, hentries]
  · subst hreached hdue hkept hfree
    have hentries : (({ e with current := some b } : CueEngine).bank b) = e.bank b := by cases b <;> rfl
    rw [CueEngine.presented_loaded hbank hstate hrebuild]
    generalize he : ({ e with current := some b } : CueEngine) = x at hentries ⊢
    have hreached : x.reached b f = ((e.bank b).entries.drop (e.bank b).cursor).takeWhile (fun c => decide (c.inAt ≤ f)) := by
      unfold CueEngine.reached
      rw [hentries]
    have hdue : x.due b f = (x.reached b f).filter (fun c => decide (f < c.outAt)) := rfl
    have hkept : x.keptAt f = fun k => (e.active.get k).filter (fun a => decide (f < a.cue.outAt)) := by
      rw [← he]
      rfl
    have hfree : x.freed f = fours.filter (fun k => ((e.active.get k).filter (fun a => decide (f < a.cue.outAt))).isNone) := by
      unfold CueEngine.freed
      rw [hkept]
    have hhides : x.retireHides f = e.retireHides f := by
      rw [← he]
      rfl
    have hdropped := x.activate_dropped b f
    have hsame : x.dropped = e.dropped := by rw [← he]
    beta_reduce
    rw [← hreached, ← hdue, ← hfree]
    refine ⟨?_, fun k c hkc => CueEngine.activate_entered hkc, fun hfits => ?_, fun hover htop => ?_, ?_⟩
    · rw [CueEngine.activate_bank, hentries]
    · rw [hdropped, Nat.sub_eq_zero_of_le hfits, hsame]
      rfl
    · rw [hdropped, hsame, iterate_satInc _ _ htop]
    · rw [CueEngine.activate_sent, hhides, hkept]
      rfl
  · subst hu
    have htake : b = (s.lane l).sce.takeBank := hb
    have hbank := s.takeUpReel_bank l pid item reel frames b
    rw [htake, CueEngine.bank_modBank, ← htake] at hbank
    refine ⟨?_, ?_, ?_, ?_, ?_, fun k hk => ?_, fun h => ?_, fun h => ?_, fun n h => ?_⟩
    · rw [hbank]
      rfl
    · rw [hbank]
      rfl
    · rw [hbank]
      rfl
    · rw [hbank]
      rfl
    · rw [hbank]
      rfl
    · rw [State.takeUpReel_bank, CueEngine.bank_modBank_ne _ (by rw [← htake]; exact hk)]
    · refine ⟨?_, ?_, ?_⟩
      · rw [hbank, h]
        rfl
      · rw [State.takeUpReel_absent h]
        rfl
      · rw [State.takeUpReel_absent h, State.bankTaken_own]
        cases (s.lane l).sce.takeBank <;> rfl
    · refine ⟨?_, ?_, ?_⟩
      · rw [hbank, h]
        rfl
      · rw [State.takeUpReel_incomplete h, State.raiseLane, State.lane_raise]
        refine (congrArg (fun n => n.sce.missing) (State.lane_modLane_same _ l _)).trans ?_
        rw [State.bankTaken_own]
        cases (s.lane l).sce.takeBank <;> rfl
      · rw [State.takeUpReel_incomplete h]
        exact State.raiseLane_raised _ l (by decide)
    · refine ⟨?_, ?_, ?_, ?_⟩
      · rw [hbank, h]
        rfl
      · rw [hbank, h]
        rfl
      · rw [State.takeUpReel_complete h, State.modFetch, State.lane_modPl_same, htake]
      · rw [State.takeUpReel_complete h]
        rfl
  · cases htrack : x.record.track reel .subtitle with
    | none => rfl
    | some t =>
      rw [State.subtitleTrack_some hx htrack] at h
      split at h <;> exact nomatch h
  · cases hfind : s.stc.find pid with
    | none => exact State.subtitleTrack_none reel hfind
    | some p => exact State.subtitleTrack_absent hfind (h p.1 p.2 hfind)
  · rw [State.subtitleTrack_some hx ht]
    unfold Track.complete
    refine ⟨fun h => if_pos (by rw [h]; exact beq_self_eq_true _), fun h => if_neg ?_⟩
    rw [beq_iff_eq]
    exact h
  · subst hu
    have hbank : ((e.build b).bank b) = { e.bank b with
        state := .loaded, entries := (e.bank b).built, cursor := 0, records := [] } := by
      rw [CueEngine.build_eq hstate hawaiting]
      cases b <;> rfl
    have hbad : (e.build b).bad = min top32 (e.bad + ((e.bank b).records.length - (e.bank b).built.length)) := by
      rw [CueEngine.build_eq hstate hawaiting]
      rfl
    rw [hbank]
    refine ⟨rfl, rfl, rfl, CueEngine.mem_built _, CueEngine.built_pairwise _, hbad, fun k hk => ?_, ?_⟩
    · rw [CueEngine.build_eq hstate hawaiting, ← e.bank_modBank_ne hk fun k => { k with
        state := .loaded, entries := (e.bank b).built, cursor := 0, records := [] }]
      cases k <;> rfl
    · rw [CueEngine.build_eq hstate hawaiting]
      cases b <;> rfl

end Sys2Proof.Machine
end

section
/-! PROOF. O53, first part: wall samples, their values and their contents (R130, R133 to R136, R166, R169, R171). -/

namespace Sys2Proof.Machine

open Sys2Proof

/-! ### The values of a wall sample (R136) -/

theorem Sound.carries_carry (u : Sound) (r : Nat) (content : Nat → Int) : u.Carries (u.carry r content) r content := by
  refine ⟨List.length_map _, fun i e c he hc => ?_⟩
  unfold Sound.carry
  rw [List.getElem?_map, he]
  dsimp only [Option.map]
  rw [hc]

namespace Lane

variable {n : Lane} {c : Int} {w : Nat}

theorem sample_running (hstate : n.sne.state = .running) : n.sample w = n.runningSample w := by
  unfold Lane.sample
  rw [hstate]

theorem sample_falling (hstate : n.sne.state = .falling) : n.sample w = { n with sne := n.sne.fallingSample w } := by
  unfold Lane.sample
  rw [hstate]

theorem sample_silent (hstate : n.sne.state = .off ∨ n.sne.state = .held) :
    n.sample w = { n with sne := { n.sne with built := n.sne.carry 48 (fun _ => 0) :: n.sne.built } } := by
  unfold Lane.sample
  rcases hstate with hstate | hstate <;> rw [hstate]

/-- A wall sample of a RUNNING lane that makes no correction (R166). -/
theorem runningSample_plain (hpointer : n.sne.pointer = some c)
    (hnone : n.sne.corrections.find? (fun k => k.sample == w) = none) : n.runningSample w = { n with sne := { n.sne with
      pointer := some (c + 1), built := n.runningValues w c :: n.sne.built, sounded := true,
      corrections := n.sne.corrections.filter (fun k => w < k.sample),
      ramp := rampAfter w n.sne.ramp, store := storeAfter w n.sne.ramp n.sne.store } } := by
  unfold Lane.runningSample
  dsimp only
  rw [hpointer]
  dsimp only
  rw [hnone]
  rfl

/-- A wall sample of a RUNNING lane that makes a correction (R133, R166). -/
theorem runningSample_corrected {k : Correction} (hpointer : n.sne.pointer = some c)
    (hfind : n.sne.corrections.find? (fun k => k.sample == w) = some k) : n.runningSample w = { n with sne := { n.sne with
      pointer := some (sampleMove c (some k)).2, built := n.runningValues w (sampleMove c (some k)).1 :: n.sne.built,
      sounded := true, corrections := n.sne.corrections.filter (fun k => w < k.sample),
      ramp := rampAfter w n.sne.ramp, store := storeAfter w n.sne.ramp n.sne.store,
      counts := n.sne.counts.corrected k.repeated } } := by
  unfold Lane.runningSample
  dsimp only
  rw [hpointer]
  dsimp only
  rw [hfind]

theorem runningValues_plain (idx : Int) (hramp : n.sne.ramp = .none) :
    n.runningValues w idx = n.sne.carry 48 fun ch => n.content ch idx := by
  unfold Lane.runningValues
  dsimp only
  rw [hramp]

theorem runningValues_up (idx : Int) {start : Nat} (hramp : n.sne.ramp = .up start) :
    n.runningValues w idx = n.sne.carry (min 48 (w - start)) fun ch => n.content ch idx := by
  unfold Lane.runningValues
  dsimp only
  rw [hramp]

theorem runningValues_down (idx : Int) {start : Nat} (hramp : n.sne.ramp = .resync start) (hw : w < start + 48) :
    n.runningValues w idx = n.sne.carry (47 - (w - start)) (n.sne.storeAt (w - start)) := by
  unfold Lane.runningValues
  dsimp only
  rw [hramp]
  exact if_pos (by omega)

theorem runningValues_rises (idx : Int) {start : Nat} (hramp : n.sne.ramp = .resync start) (hw : start + 48 ≤ w) :
    n.runningValues w idx = n.sne.carry (min 48 (w - start - 48)) fun ch => n.content ch idx := by
  unfold Lane.runningValues
  dsimp only
  rw [hramp]
  exact if_neg (by omega)

/-! ### A number of wall samples -/

/-- RUNNING at a pointer with given corrections and counts. -/
structure Runs (n : Lane) (c : Int) (ks : List Correction) (counts : SoundCounts) : Prop where
  state : n.sne.state = .running
  pointer : n.sne.pointer = some c
  corrections : n.sne.corrections = ks
  counts : n.sne.counts = counts

/-- C moves by the wall samples produced before the first correction (R166). -/
theorem Runs.samples {ks : List Correction} {counts : SoundCounts} (h : n.Runs c ks counts) (k : Nat)
    (hks : ∀ x ∈ ks, w + k ≤ x.sample) : (n.samples w k).Runs (c + k) ks counts := by
  induction k generalizing n c w with
  | zero => simpa [Lane.samples] using h
  | succ k ih =>
    obtain ⟨hstate, hpointer, hcorrections, hcounts⟩ := h
    have hnone : n.sne.corrections.find? (fun x => x.sample == w) = none := by
      rw [hcorrections, List.find?_eq_none]
      intro x hx
      have := hks x hx
      simp only [beq_iff_eq]
      omega
    have hstep : (n.sample w).Runs (c + 1) ks counts := by
      rw [sample_running hstate, runningSample_plain hpointer hnone]
      refine ⟨hstate, rfl, ?_, hcounts⟩
      dsimp only
      rw [hcorrections, List.filter_eq_self]
      intro x hx
      have := hks x hx
      exact decide_eq_true (by omega)
    have hrest := ih (w := w + 1) hstep fun x hx => by
      have := hks x hx
      omega
    have hsum : c + 1 + (k : Int) = c + ((k + 1 : Nat) : Int) := by push_cast; omega
    rw [hsum] at hrest
    exact hrest

/-- FALLING in a ramp-down. -/
structure Falls (n : Lane) (start : Nat) (off : Bool) (p : Option Int) : Prop where
  state : n.sne.state = .falling
  ramp : n.sne.ramp = .down start
  thenOff : n.sne.thenOff = off
  pointer : n.sne.pointer = p

variable {start : Nat} {off : Bool} {p : Option Int}

theorem Falls.downIndex (h : n.Falls start off p) (w : Nat) : n.sne.downIndex w = w - start := by
  unfold Sound.downIndex
  rw [h.ramp]

theorem Falls.sample (h : n.Falls start off p) (hw : w < start + 47) : (n.sample w).Falls start off p := by
  rw [sample_falling h.state]
  unfold Sound.fallingSample
  dsimp only
  rw [h.downIndex, if_pos (by omega)]
  exact ⟨h.state, h.ramp, h.thenOff, h.pointer⟩

theorem Falls.samples (h : n.Falls start off p) (k : Nat) (hw : w + k ≤ start + 47) : (n.samples w k).Falls start off p := by
  induction k generalizing n w with
  | zero => exact h
  | succ k ih => exact ih (h.sample (by omega)) (by omega)

/-- The last wall sample of a ramp-down (R169). -/
theorem Falls.last (h : n.Falls start off p) : (n.sample (start + 47)).sne.store = []
    ∧ (off = true → (n.sample (start + 47)).sne.state = .off ∧ (n.sample (start + 47)).sne.pointer = none)
    ∧ (off = false → (n.sample (start + 47)).sne.state = .held ∧ (n.sample (start + 47)).sne.pointer = p) := by
  rw [sample_falling h.state]
  unfold Sound.fallingSample
  dsimp only
  rw [h.downIndex, if_neg (by omega)]
  unfold Sound.fallen
  rw [h.thenOff]
  cases off with
  | true => exact ⟨rfl, fun _ => ⟨rfl, rfl⟩, fun hoff => absurd hoff.symm Bool.false_ne_true⟩
  | false => exact ⟨rfl, fun hoff => absurd hoff Bool.false_ne_true, fun _ => ⟨rfl, h.pointer⟩⟩

theorem samples_add (n : Lane) (w a b : Nat) : n.samples w (a + b) = (n.samples w a).samples (w + a) b := by
  induction a generalizing n w with
  | zero => rw [Nat.zero_add]; rfl
  | succ a ih =>
    rw [Nat.succ_add]
    refine (ih (n.sample w) (w + 1)).trans ?_
    rw [Nat.add_right_comm w 1 a]
    rfl

/-- The samples up to one and that one. -/
theorem samples_last (n : Lane) {w last : Nat} (h : w ≤ last) :
    n.samples w (last + 1 - w) = (n.samples w (last - w)).sample last := by
  have hcount : last + 1 - w = (last - w) + 1 := by omega
  have hlast : w + (last - w) = last := by omega
  rw [hcount, samples_add, hlast]
  rfl

end Lane

/-! ### An event at a wall sample -/

namespace State

variable {s v : State} {l : LaneId}

theorem takeOverdue_samples (s : State) : s.takeOverdue.clock.samples = s.clock.samples := by
  have hsecond : (if s.clock.secondDue then s.boothSecond else s).clock.samples = s.clock.samples := by
    split
    · unfold State.boothSecond
      dsimp only
      split
      · rfl
      · split
        · rw [setBooth_clock]
        · rfl
    · rfl
  have hlosses : s.secondAndLosses.clock.samples = s.clock.samples := by
    unfold State.secondAndLosses
    rw [lossFold_clock, hsecond]
  rw [takeOverdue_split]
  split
  · rw [(Calm.expireTickets _).clock, hlosses]
  · exact hlosses

theorem caughtUp_samples (s : State) (t : Instant) : (s.caughtUp t).clock.samples = s.clock.samples := by
  unfold State.caughtUp
  split
  · exact takeOverdue_samples s
  · rfl

/-- The lane and the clock behind an event at a wall sample. -/
theorem clockTo_sample {w : Nat} (hnow : v.clock.now ≤ w * 3125) (hsamples : v.clock.samples ≤ w) (l : LaneId) :
    ((v.clockTo (max v.clock.now (w * 3125 + 1))).lane l).sne
        = (((v.lane l).samples v.clock.samples (w - v.clock.samples)).sample w).sne
      ∧ (v.clockTo (max v.clock.now (w * 3125 + 1))).clock.samples = w + 1 := by
  have hinstant : max v.clock.now (w * 3125 + 1) = w * 3125 + 1 := by
    unfold Instant at *
    omega
  have hfrom : sampleFrom (w * 3125 + 1) = w + 1 := by
    unfold sampleFrom sampleUnits
    omega
  rw [hinstant]
  refine ⟨?_, ?_⟩
  · have hlane : (v.clockTo (w * 3125 + 1)).lane l = (v.lane l).samples v.clock.samples (w + 1 - v.clock.samples) := by
      rw [← hfrom]
      exact lane_produceTo v _ l
    rw [hlane, Lane.samples_last _ hsamples]
  · have hclock : (v.clockTo (w * 3125 + 1)).clock.samples = max v.clock.samples (sampleFrom (w * 3125 + 1)) := rfl
    rw [hclock, hfrom]
    omega

/-- An event that is due at a wall sample, before and behind what was overdue. -/
theorem atSample_eq {due : Sound → Option Nat} {w : Nat} (hpin : s.pin = false) (hdue : due (s.lane l).sne = some w)
    (hhorizon : w * 3125 < s.horizon) (hv : v = s.caughtUp (w * 3125 + 1)) (hsne : (v.lane l).sne = (s.lane l).sne) :
    atSample s l due = .next (v.clockTo (max v.clock.now (w * 3125 + 1))).settle := by
  subst hv
  unfold atSample
  rw [live_eq _ hpin, hdue]
  dsimp only
  rw [if_pos ⟨hhorizon, by exact (congrArg due hsne).trans hdue⟩]
  rfl

/-- What an event at a wall sample leaves (R166, R169). -/
theorem atSample_settled {w : Nat} (hv : v = s.caughtUp (w * 3125 + 1)) (hnow : s.clock.now ≤ w * 3125)
    (hsamples : s.clock.samples ≤ w) : LaneFrame v (v.clockTo (max v.clock.now (w * 3125 + 1))).settle l
      ∧ (v.clockTo (max v.clock.now (w * 3125 + 1))).settle.held = v.held
      ∧ ((v.clockTo (max v.clock.now (w * 3125 + 1))).settle.lane l).sne
          = (((v.lane l).samples s.clock.samples (w - s.clock.samples)).sample w).sne
      ∧ (v.clockTo (max v.clock.now (w * 3125 + 1))).settle.clock.samples = w + 1 := by
  obtain ⟨htime, -⟩ := s.caughtUp_sameTick (w * 3125 + 1)
  have hproduced := s.caughtUp_samples (w * 3125 + 1)
  rw [← hv] at htime hproduced
  obtain ⟨hsne, hclock⟩ := clockTo_sample (v := v) (w := w) (by rw [htime]; exact hnow) (by rw [hproduced]; exact hsamples) l
  refine ⟨(LaneFrame.clockTo v _ l).trans (Silent.refl _ l).toBeside.settle, settle_held _, ?_, ?_⟩
  · rw [settle_sne, hsne, hproduced]
  · rw [settle_clock, hclock]

end State

/-! ### The store and the content (R130, R169) -/

namespace Lane

variable {n : Lane} {c : Int} {ch : Nat}

theorem mem_stored (u : Sound) (ch : Nat) : ch ∈ u.stored ↔ ch < 16
    ∧ ((∃ x, u.map[ch]? = some x ∧ x.enabled = true) ∨ ∃ e ∈ u.latched, e.1 = ch) := by
  unfold Sound.stored
  rw [List.mem_filter, List.mem_range, Bool.or_eq_true]
  refine and_congr_right fun _ => or_congr ?_ ?_
  · cases hmap : u.map[ch]? with
    | none => simp
    | some x => simp
  · simp

/-- The stored sample of a stored channel (R169). -/
theorem storeAt_readAhead {u : Sound} {i : Nat} (hpointer : n.sne.pointer = some c) (hstore : u.store = n.readAhead)
    (hi : i < 48) (hch : ch ∈ n.sne.stored) : u.storeAt i ch = n.content ch (c + i) := by
  have hstored : u.store = n.sne.stored.map fun ch => (ch, (List.range 48).map fun j : Nat => n.content ch (c + j)) := by
    rw [hstore]
    unfold Lane.readAhead
    rw [hpointer]
  have hfind : u.store.find? (fun e => e.1 == ch) = some (ch, (List.range 48).map fun j : Nat => n.content ch (c + j)) := by
    rw [hstored, List.find?_map]
    have hfirst : n.sne.stored.find? ((fun e => e.1 == ch) ∘ fun ch => (ch, (List.range 48).map fun j : Nat =>
        n.content ch (c + j))) = some ch := by
      obtain ⟨y, hy⟩ : ∃ y, n.sne.stored.find? (fun x => x == ch) = some y :=
        Option.isSome_iff_exists.mp (List.find?_isSome.mpr ⟨ch, hch, beq_self_eq_true ch⟩)
      obtain rfl : y = ch := by simpa using List.find?_some hy
      exact hy
    rw [hfirst]
    rfl
  unfold Sound.storeAt
  rw [hfind]
  dsimp only
  rw [List.getD_eq_getElem?_getD, List.getElem?_map, List.getElem?_range hi]
  rfl

theorem rampDown_running (w : Nat) (off : Bool) (hstate : n.sne.state = .running) : n.rampDown w off = { n with
    sne := { n.sne with
      state := .falling, corrections := [], ramp := .down w, store := n.readAhead, thenOff := off } } := by
  unfold Lane.rampDown
  dsimp only
  rw [hstate]

theorem content_none (h : n.sne.item = none ∨ n.pl.rate = none) (ch : Nat) (c : Int) : n.content ch c = 0 := by
  unfold Lane.content
  rcases h with h | h
  · rw [h]
  · rw [h]
    cases n.sne.item <;> rfl

variable {it : SoundItem} {rate : Nat}

theorem content_outside (hitem : n.sne.item = some it) (hrate : n.pl.rate = some rate)
    (h : c < 0 ∨ it.channels ≤ ch ∨ it.total * (48000 / rate) ≤ c.toNat) : n.content ch c = 0 := by
  unfold Lane.content
  rw [hitem, hrate]
  exact if_pos h

theorem content_inside (hitem : n.sne.item = some it) (hrate : n.pl.rate = some rate) (hlow : 0 ≤ c)
    (hch : ch < it.channels) (hhigh : c.toNat < it.total * (48000 / rate)) {b : BufSlot}
    (hslot : n.pl.soundSlot it.item (c.toNat / (48000 / rate)) = some b) :
    n.content ch c = s24 b.sound ((c.toNat % (48000 / rate) * it.channels + ch) * 3) := by
  unfold Lane.content
  rw [hitem, hrate]
  dsimp only
  rw [if_neg (by unfold spf; omega)]
  unfold spf
  rw [hslot]

theorem content_unread (hitem : n.sne.item = some it) (hrate : n.pl.rate = some rate)
    (hslot : n.pl.soundSlot it.item (c.toNat / (48000 / rate)) = none) : n.content ch c = 0 := by
  by_cases hout : c < 0 ∨ it.channels ≤ ch ∨ it.total * (48000 / rate) ≤ c.toNat
  · exact content_outside hitem hrate hout
  · unfold Lane.content
    rw [hitem, hrate]
    dsimp only
    unfold spf
    rw [if_neg hout, hslot]

end Lane

theorem Playout.soundSlot_none (p : Playout) (item f : Nat) : p.soundSlot item f = none
    ↔ ∀ b ∈ p.buffer, b.item = item → b.pos.frame = f → b.stage = .reading ∨ b.faulted = true := by
  unfold Playout.soundSlot
  rw [List.find?_eq_none]
  refine forall_congr' fun b => imp_congr_right fun _ => ?_
  cases hfaulted : b.faulted with
  | true => simp
  | false =>
    simp only [Bool.and_eq_true, beq_iff_eq, bne_iff_ne, ne_eq, Bool.not_false, and_true, not_and, not_not, Bool.false_eq_true,
      or_false]
    tauto

theorem Playout.soundSlot_some {p : Playout} {item f : Nat} {b : BufSlot} (h : p.soundSlot item f = some b) :
    b ∈ p.buffer ∧ b.item = item ∧ b.pos.frame = f ∧ b.stage ≠ .reading ∧ b.faulted = false := by
  have hb := List.find?_some h
  simp only [Bool.and_eq_true, beq_iff_eq, bne_iff_ne, ne_eq, Bool.not_eq_true'] at hb
  obtain ⟨⟨⟨hitem, hframe⟩, hstage⟩, hfault⟩ := hb
  exact ⟨List.mem_of_find?_eq_some h, hitem, hframe, hstage, hfault⟩

theorem s24_bytes {bytes : List Byte} {i v : Nat} {a b c : Byte} (ha : bytes[i]? = some a) (hb : bytes[i + 1]? = some b)
    (hc : bytes[i + 2]? = some c) (hv : v = a.toNat * 65536 + b.toNat * 256 + c.toNat) :
    s24 bytes i = if v < 8388608 then (v : Int) else (v : Int) - 16777216 := by
  have hbyte : ∀ (k : Nat) (x : Byte), bytes[k]? = some x → u8 bytes k = x.toNat := fun k x hx => by
    unfold u8
    rw [List.getD_eq_getElem?_getD, hx]
    rfl
  have hvalue : u24 bytes i = v := by
    unfold u24 u16
    rw [hbyte i a ha, hbyte (i + 1) b hb, hbyte (i + 2) c hc, hv]
    omega
  unfold s24
  rw [hvalue]

/-! ### Presented frames (R131 to R134, R167, R168) -/

namespace Lane

variable {n : Lane} {c : Int}

theorem rampsUp_iff (u : Sound) (h : Handed) : u.rampsUp h = true ↔ u.state ≠ .running ∨ u.resumed = true ∨ h.gapEnded = true := by
  unfold Sound.rampsUp
  simp [or_assoc]

/-- The engine RUNNING with a frame, up to its pointer. -/
def handed (n : Lane) (h : Handed) (w : Nat) : Sound := n.sne.running h (n.sne.rampsUp h) w

/-- The target of a frame. -/
def target (n : Lane) (h : Handed) : Int := ((h.frame * h.samples : Nat) : Int) - n.pl.set.soundDelay

theorem soundFrame_first (h : Handed) (w : Nat) (hpointer : n.sne.pointer = none) : n.soundFrame h w = { n with
    sne := { n.handed h w with pointer := some (n.target h), error := none, last := .seat, seatPending := false } } := by
  unfold Lane.soundFrame
  dsimp only
  rw [hpointer]
  rfl

theorem soundFrame_seat {h : Handed} (w : Nat) (hpointer : n.sne.pointer = some c)
    (hseat : h.frame = 0 ∨ n.sne.seatPending = true) : n.soundFrame h w = { n with sne := { n.handed h w with
      pointer := some (n.target h), error := some (c - n.target h), last := .seat, seatPending := false } } := by
  unfold Lane.soundFrame
  dsimp only
  rw [hpointer]
  exact if_pos hseat

theorem soundFrame_slip {h : Handed} (w : Nat) (hpointer : n.sne.pointer = some c) (hframe : h.frame ≠ 0)
    (hseat : n.sne.seatPending = false) (hlimit : (c - n.target h).natAbs ≤ n.pl.set.resyncLimit) :
    n.soundFrame h w = { n with sne := { n.handed h w with
      pointer := some c, error := some (c - n.target h), last := .slip (slipOf (c - n.target h) n.pl.set.maxSlip),
      corrections := slipSchedule w h.samples (slipOf (c - n.target h) n.pl.set.maxSlip) } } := by
  have hnot : ¬ (h.frame = 0 ∨ n.sne.seatPending = true) := not_or.mpr ⟨hframe, by rw [hseat]; exact nofun⟩
  unfold Lane.soundFrame
  dsimp only
  rw [hpointer]
  exact (if_neg hnot).trans (if_pos hlimit)

theorem soundFrame_resync {h : Handed} (w : Nat) (hpointer : n.sne.pointer = some c) (hframe : h.frame ≠ 0)
    (hseat : n.sne.seatPending = false) (hlimit : n.pl.set.resyncLimit < (c - n.target h).natAbs) :
    n.soundFrame h w = { n with sne := { n.handed h w with
      pointer := some (n.target h), error := some (c - n.target h), last := .resync,
      ramp := if n.sne.rampsUp h then .up w else .resync w,
      store := if n.sne.rampsUp h then [] else n.readAhead,
      counts := { (n.handed h w).counts with resyncs := satInc top32 (n.handed h w).counts.resyncs } } } := by
  have hnot : ¬ (h.frame = 0 ∨ n.sne.seatPending = true) := not_or.mpr ⟨hframe, by rw [hseat]; exact nofun⟩
  unfold Lane.soundFrame
  dsimp only
  rw [hpointer]
  exact (if_neg hnot).trans (if_neg (not_le.mpr hlimit))

/-- What is the same of a frame whatever becomes of the pointer. -/
structure Presents (n m : Lane) (h : Handed) (w : Nat) : Prop where
  pl : m.pl = n.pl
  ftm : m.ftm = n.ftm
  sce : m.sce = n.sce
  state : m.sne.state = .running
  item : m.sne.item = some h.item
  frame : m.sne.frame = some h.frame
  resumed : m.sne.resumed = false
  map : m.sne.map = n.sne.map
  latched : m.sne.latched = n.sne.latched
  built : m.sne.built = n.sne.built
  rises : n.sne.rampsUp h = true → m.sne.ramp = .up w ∧ m.sne.store = []

theorem handed_rises {h : Handed} {w : Nat} (hup : n.sne.rampsUp h = true) :
    (n.handed h w).ramp = .up w ∧ (n.handed h w).store = [] := by
  unfold Lane.handed Sound.running
  rw [hup]
  exact ⟨rfl, rfl⟩

theorem Presents.soundFrame (n : Lane) (h : Handed) (w : Nat) : n.Presents (n.soundFrame h w) h w := by
  cases hpointer : n.sne.pointer with
  | none =>
    rw [soundFrame_first h w hpointer]
    exact ⟨rfl, rfl, rfl, rfl, rfl, rfl, rfl, rfl, rfl, rfl, handed_rises⟩
  | some c =>
    by_cases hseat : h.frame = 0 ∨ n.sne.seatPending = true
    · rw [soundFrame_seat w hpointer hseat]
      exact ⟨rfl, rfl, rfl, rfl, rfl, rfl, rfl, rfl, rfl, rfl, handed_rises⟩
    · obtain ⟨hframe, hpending⟩ := not_or.mp hseat
      by_cases hlimit : (c - n.target h).natAbs ≤ n.pl.set.resyncLimit
      · rw [soundFrame_slip w hpointer hframe (Bool.eq_false_iff.mpr hpending) hlimit]
        exact ⟨rfl, rfl, rfl, rfl, rfl, rfl, rfl, rfl, rfl, rfl, handed_rises⟩
      · rw [soundFrame_resync w hpointer hframe (Bool.eq_false_iff.mpr hpending) (not_le.mp hlimit)]
        exact ⟨rfl, rfl, rfl, rfl, rfl, rfl, rfl, rfl, rfl, rfl, fun hup => ⟨if_pos hup, if_pos hup⟩⟩

theorem resyncs_iff (n : Lane) (h : Handed) (w : Nat) : n.resyncs h = true ↔ (n.soundFrame h w).sne.last = .resync := by
  unfold Lane.resyncs
  cases hpointer : n.sne.pointer with
  | none =>
    rw [soundFrame_first h w hpointer]
    simp
  | some c =>
    dsimp only
    by_cases hseat : h.frame = 0 ∨ n.sne.seatPending = true
    · rw [soundFrame_seat w hpointer hseat]
      rcases hseat with hseat | hseat <;> simp [hseat]
    · obtain ⟨hframe, hpending⟩ := not_or.mp hseat
      have hpending : n.sne.seatPending = false := Bool.eq_false_iff.mpr hpending
      by_cases hlimit : (c - n.target h).natAbs ≤ n.pl.set.resyncLimit
      · rw [soundFrame_slip w hpointer hframe hpending hlimit]
        have hnot : ¬ n.pl.set.resyncLimit < (c - soundTarget h.frame h.samples n.pl.set.soundDelay).natAbs := not_lt.mpr hlimit
        simp [hnot]
      · rw [soundFrame_resync w hpointer hframe hpending (not_le.mp hlimit)]
        have hover : n.pl.set.resyncLimit < (c - soundTarget h.frame h.samples n.pl.set.soundDelay).natAbs := not_le.mp hlimit
        simp [hover, hframe, hpending]

end Lane

end Sys2Proof.Machine
end

section
/-! PROOF. O53, second part: the frame handed to the sound engine, and the statement (R92, R131 to R134, R175). -/

namespace Sys2Proof.Machine

open Sys2Proof

namespace State

variable {s : State} {l : LaneId} {h : Handed} {real : Bool}

/-! ### The frame handed to the engine -/

/-- A frame of an item with sound. -/
theorem soundPresented_sounds (hreal : real = true) (hchannels : 0 < h.item.channels) : s.soundPresented l h real
    = if (s.lane l).resyncs h then (s.modLane l fun n => (n.soundFrame h s.clock.samples).reported).raiseLane l srcSoundResync
      else s.modLane l fun n => (n.soundFrame h s.clock.samples).reported := if_pos ⟨hreal, hchannels⟩

/-- A frame of an item without sound. -/
theorem soundPresented_quiet (hnot : ¬ (real = true ∧ 0 < h.item.channels)) : s.soundPresented l h real
    = s.modLane l fun n => (n.silentFrame h s.clock.samples real).reported := if_neg hnot

/-- The lane handed a frame, before the engine's report. -/
def heard (s : State) (l : LaneId) (h : Handed) (real : Bool) : Lane :=
  if real = true ∧ 0 < h.item.channels then (s.lane l).soundFrame h s.clock.samples
  else (s.lane l).silentFrame h s.clock.samples real

theorem soundPresented_lane (s : State) (l : LaneId) (h : Handed) (real : Bool) :
    (s.soundPresented l h real).lane l = (s.heard l h real).reported := by
  unfold State.heard
  by_cases hsound : real = true ∧ 0 < h.item.channels
  · rw [soundPresented_sounds hsound.1 hsound.2, if_pos hsound]
    split
    · rw [raiseLane, lane_raise, lane_modLane_same]
    · rw [lane_modLane_same]
  · rw [soundPresented_quiet hsound, if_neg hsound, lane_modLane_same]

theorem soundPresented_out (s : State) (l : LaneId) (h : Handed) (real : Bool) : (s.soundPresented l h real).out = s.out := by
  rw [soundPresented_same]

theorem soundPresented_unraised (hnot : ¬ (real = true ∧ 0 < h.item.channels ∧ (s.heard l h real).sne.last = .resync)) :
    (s.soundPresented l h real).ntu = s.ntu := by
  by_cases hsound : real = true ∧ 0 < h.item.channels
  · have hresyncs : ¬ (s.lane l).resyncs h = true := by
      rw [Lane.resyncs_iff _ h s.clock.samples]
      intro hlast
      refine hnot ⟨hsound.1, hsound.2, ?_⟩
      unfold State.heard
      rw [if_pos hsound]
      exact hlast
    rw [soundPresented_sounds hsound.1 hsound.2, if_neg hresyncs]
    rfl
  · rw [soundPresented_quiet hsound]
    rfl

theorem soundPresented_raised (hreal : real = true) (hchannels : 0 < h.item.channels)
    (hlast : (s.heard l h real).sne.last = .resync) :
    (s.soundPresented l h real).ntu.raised.getLsbD (laneSource l srcSoundResync) = true := by
  unfold State.heard at hlast
  rw [if_pos ⟨hreal, hchannels⟩, ← Lane.resyncs_iff] at hlast
  rw [soundPresented_sounds hreal hchannels, if_pos hlast]
  exact raiseLane_raised _ l (by decide)

theorem heard_item (s : State) (l : LaneId) (h : Handed) (real : Bool) :
    (s.heard l h real).sne.item = some h.item ∧ (s.heard l h real).pl = (s.lane l).pl := by
  unfold State.heard
  split
  · have hpresents := Lane.Presents.soundFrame (s.lane l) h s.clock.samples
    exact ⟨hpresents.item, hpresents.pl⟩
  · unfold Lane.silentFrame
    cases real <;> exact ⟨rfl, rfl⟩

end State

/-- The slots left by the engine's report of C (R92, R175). -/
theorem Lane.mem_reported {n : Lane} {it : SoundItem} {rate : Nat} {c : Int} (hrate : n.pl.rate = some rate)
    (hitem : n.sne.item = some it) (hpointer : n.sne.pointer = some c) (b : BufSlot) : b ∈ n.reported.pl.buffer
      ↔ b ∈ n.pl.buffer ∧ ¬ (b.stage = .presented
        ∧ (b.item ≠ it.item ∨ (((b.pos.frame + 1) * (48000 / rate) : Nat) : Int) ≤ c)) := by
  unfold Lane.reported
  rw [hrate]
  dsimp only
  rw [List.mem_filter]
  refine and_congr_right fun _ => ?_
  unfold Sound.passes
  rw [hitem, hpointer]
  simp [spf, imp_iff_not_or]

/-- The sound of a frame's judgement by the pointer (R131 to R134). -/
theorem Lane.soundFrame_judged {n : Lane} {h : Handed} {w : Nat} {c : Int} (hpointer : n.sne.pointer = some c) :
    (n.soundFrame h w).sne.error = some (c - n.target h)
      ∧ ((h.frame = 0 ∨ n.sne.seatPending = true) → (n.soundFrame h w).sne.pointer = some (n.target h)
        ∧ (n.soundFrame h w).sne.last = .seat ∧ (n.soundFrame h w).sne.corrections = []
        ∧ (n.soundFrame h w).sne.seatPending = false ∧ (n.soundFrame h w).sne.counts = n.sne.counts)
      ∧ (h.frame ≠ 0 → n.sne.seatPending = false →
        (∀ slip, (c - n.target h).natAbs ≤ n.pl.set.resyncLimit →
          slip = clampInt (-(n.pl.set.maxSlip : Int)) n.pl.set.maxSlip (c - n.target h) →
          (n.soundFrame h w).sne.pointer = some c ∧ (n.soundFrame h w).sne.last = .slip slip
            ∧ (n.soundFrame h w).sne.corrections = slipSchedule w h.samples slip
            ∧ (n.soundFrame h w).sne.counts = n.sne.counts)
        ∧ (n.pl.set.resyncLimit < (c - n.target h).natAbs → (n.soundFrame h w).sne.pointer = some (n.target h)
          ∧ (n.soundFrame h w).sne.last = .resync ∧ (n.soundFrame h w).sne.corrections = []
          ∧ (n.soundFrame h w).sne.counts = { n.sne.counts with resyncs := satInc top32 n.sne.counts.resyncs }
          ∧ (n.sne.rampsUp h = false → (n.soundFrame h w).sne.ramp = .resync w
            ∧ (n.soundFrame h w).sne.store = n.readAhead))) := by
  refine ⟨?_, fun hseat => ?_, fun hframe hseat => ⟨fun slip hlimit hslip => ?_, fun hlimit => ?_⟩⟩
  · by_cases hseat : h.frame = 0 ∨ n.sne.seatPending = true
    · rw [soundFrame_seat w hpointer hseat]
    · obtain ⟨hframe, hpending⟩ := not_or.mp hseat
      by_cases hlimit : (c - n.target h).natAbs ≤ n.pl.set.resyncLimit
      · rw [soundFrame_slip w hpointer hframe (Bool.eq_false_iff.mpr hpending) hlimit]
      · rw [soundFrame_resync w hpointer hframe (Bool.eq_false_iff.mpr hpending) (not_le.mp hlimit)]
  · rw [soundFrame_seat w hpointer hseat]
    exact ⟨rfl, rfl, rfl, rfl, rfl⟩
  · subst hslip
    rw [soundFrame_slip w hpointer hframe hseat hlimit]
    exact ⟨rfl, rfl, rfl, rfl⟩
  · rw [soundFrame_resync w hpointer hframe hseat hlimit]
    refine ⟨rfl, rfl, rfl, rfl, fun hup => ⟨if_neg ?_, if_neg ?_⟩⟩
    · rw [hup]
      exact nofun
    · rw [hup]
      exact nofun

/-- The due wall sample of a single correction (R133). -/
theorem Sound.nextCorrection_one {u : Sound} {k : Correction} (hstate : u.state = .running) (hone : u.corrections = [k]) :
    u.nextCorrection = some k.sample := by
  unfold Sound.nextCorrection
  rw [if_pos hstate, hone]
  rfl

theorem Sound.lastFalling_of {u : Sound} {start : Nat} (hstate : u.state = .falling) (hramp : u.ramp = .down start) :
    u.lastFalling = some (start + 47) := by
  unfold Sound.lastFalling
  rw [hstate, hramp]

/-- The wall sample of a single correction (R133, R166). -/
theorem Lane.Runs.corrects {n : Lane} {c : Int} {k : Correction} {counts : SoundCounts} (h : n.Runs c [k] counts) :
    (n.sample k.sample).sne.corrections = []
      ∧ (n.sample k.sample).sne.pointer = some (c + if k.repeated then 0 else 2)
      ∧ (n.sample k.sample).sne.counts = counts.corrected k.repeated := by
  obtain ⟨hstate, hpointer, hcorrections, hcounts⟩ := h
  have hfind : n.sne.corrections.find? (fun x => x.sample == k.sample) = some k := by
    rw [hcorrections]
    simp
  rw [sample_running hstate, runningSample_corrected hpointer hfind]
  refine ⟨?_, ?_, ?_⟩
  · dsimp only
    rw [hcorrections]
    simp
  · dsimp only [sampleMove]
    cases k.repeated <;> simp
  · exact congrArg (SoundCounts.corrected · k.repeated) hcounts

/-- One wall sample of a RUNNING lane, with or without a correction (R166). -/
theorem Lane.runningSample_moves {n : Lane} {w : Nat} {c : Int} (hstate : n.sne.state = .running)
    (hpointer : n.sne.pointer = some c) :
    (n.sample w).sne.built
        = n.runningValues w (sampleMove c (n.sne.corrections.find? fun k => k.sample == w)).1 :: n.sne.built
      ∧ (n.sample w).sne.sounded = true
      ∧ (n.sample w).sne.pointer = some (sampleMove c (n.sne.corrections.find? fun k => k.sample == w)).2 := by
  rw [sample_running hstate]
  cases hfind : n.sne.corrections.find? (fun k => k.sample == w) with
  | none =>
    rw [runningSample_plain hpointer hfind]
    exact ⟨rfl, rfl, rfl⟩
  | some k =>
    rw [runningSample_corrected hpointer hfind]
    exact ⟨rfl, rfl, rfl⟩

/-- One wall sample of a ramp-down (R169). -/
theorem Lane.fallingSample_moves {n : Lane} {w start : Nat} (hstate : n.sne.state = .falling)
    (hramp : n.sne.ramp = .down start) :
    (n.sample w).sne.built = n.sne.carry (47 - (w - start)) (n.sne.storeAt (w - start)) :: n.sne.built
      ∧ (n.sample w).sne.sounded = true := by
  have hfalls : n.Falls start n.sne.thenOff n.sne.pointer := ⟨hstate, hramp, rfl, rfl⟩
  rw [sample_falling hstate]
  unfold Sound.fallingSample
  dsimp only
  rw [hfalls.downIndex]
  split
  · exact ⟨rfl, rfl⟩
  · unfold Sound.fallen
    dsimp only
    split <;> exact ⟨rfl, rfl⟩

/-- What stands of a lane's sound behind a ramp-down: its store empty, OFF without a pointer or HELD with it. -/
def Sound.Fallen (u : Sound) (off : Bool) (p : Option Int) : Prop := u.store = []
  ∧ (off = true → u.state = .off ∧ u.pointer = none) ∧ (off = false → u.state = .held ∧ u.pointer = p)

theorem Sound.Fallen.silent {u : Sound} {off : Bool} {p : Option Int} (h : u.Fallen off p) : u.state = .off ∨ u.state = .held := by
  cases off with
  | true => exact .inl (h.2.1 rfl).1
  | false => exact .inr (h.2.2 rfl).1

theorem Lane.fallen_samples {n : Lane} {off : Bool} {p : Option Int} (h : n.sne.Fallen off p) (w k : Nat) :
    (n.samples w k).sne.Fallen off p := by
  induction k generalizing n w with
  | zero => exact h
  | succ k ih =>
    refine ih (n := n.sample w) ?_ (w + 1)
    rw [sample_silent h.silent]
    exact h

/-- The clock behind a ramp-down's last wall sample (R169). -/
theorem State.fallen_settled {v : State} {l : LaneId} {start : Nat} {off : Bool} {p : Option Int} {t : Instant}
    (h : (v.lane l).Falls start off p) (hsamples : v.clock.samples ≤ start + 47) (ht : (start + 47) * 3125 + 1 ≤ t) :
    ((v.clockTo t).settle.lane l).sne.Fallen off p := by
  have hfrom : start + 48 ≤ sampleFrom t := by
    unfold Instant sampleFrom sampleUnits at *
    omega
  have hlane : (v.clockTo t).lane l = (v.lane l).samples v.clock.samples (sampleFrom t - v.clock.samples) := lane_produceTo v _ l
  have hcount : sampleFrom t - v.clock.samples = (start + 47 + 1 - v.clock.samples) + (sampleFrom t - (start + 48)) := by omega
  have hreached := h.samples (w := v.clock.samples) (start + 47 - v.clock.samples) (by omega)
  rw [settle_sne, hlane, hcount, Lane.samples_add, Lane.samples_last _ hsamples]
  exact Lane.fallen_samples hreached.last _ _

/-- Settles O53: the wall samples by the lane's sound, the content, and a presented frame by the pointer. -/
theorem samplesMoveSound : Obligations.SamplesMoveSound := by
  refine ⟨fun n w k c hstate hpointer hnone => ?_, fun s v l c k hpin hstate hpointer hone hsamples hnow hhorizon hv hsne => ?_,
    fun s v l start hpin hstate hramp hsamples hhorizon hv hsne => ?_,
    fun n m w c idx k hm hstate hpointer hk hidx => ?_, fun n m w hm => ⟨fun start hstate hramp hw => ?_, fun hstate => ?_⟩,
    fun n c hpointer => ⟨fun u i ch hstore hi hch => Lane.storeAt_readAhead hpointer hstore hi hch,
      fun ch => Lane.mem_stored n.sne ch, fun w off hstate => Lane.rampDown_running w off hstate⟩,
    fun n ch c => ⟨fun h => Lane.content_none h ch c, fun it rate f hitem hrate hf => ⟨fun hout => ?_, fun hunread => ?_,
      fun hslot => (n.pl.soundSlot_none it.item f).mp hslot, fun hlow hch hhigh b hslot => ?_⟩⟩,
    fun bytes i v a b c ha hb hc hv => ⟨fun hlow => ?_, fun hhigh => ?_⟩,
    fun n m h w target up hm htarget hup => ?_, fun n m h w real hm => ?_, fun s u l h real m hu hm => ?_⟩
  · have hruns : n.Runs c [] n.sne.counts := ⟨hstate, hpointer, hnone, rfl⟩
    have hmoved := hruns.samples (w := w) k fun x hx => absurd hx List.not_mem_nil
    exact ⟨hmoved.pointer, hmoved.state, hmoved.counts, n.samples_pl w k⟩
  · obtain ⟨hframe, hheld, hmoved, hclock⟩ := State.atSample_settled (l := l) hv hnow hsamples
    have hruns : (v.lane l).Runs c [k] (s.lane l).sne.counts := by
      constructor
      · rw [hsne, hstate]
      · rw [hsne, hpointer]
      · rw [hsne, hone]
      · rw [hsne]
    have hreached := hruns.samples (w := s.clock.samples) (k.sample - s.clock.samples) fun x hx => by
      rw [List.mem_singleton.mp hx]
      omega
    obtain ⟨hcorrections, hat, hcounts⟩ := hreached.corrects
    have hexec : exec (.slipCorrection l) s = atSample s l Sound.nextCorrection := rfl
    rw [State.atSample_eq hpin (Sound.nextCorrection_one hstate hone) hhorizon hv hsne] at hexec
    rw [← hmoved] at hcorrections hat hcounts
    exact ⟨_, hexec, hframe, hheld, hcorrections, hat, hcounts, hclock⟩
  · have hfalls : (v.lane l).Falls start (s.lane l).sne.thenOff (s.lane l).sne.pointer := by
      constructor
      · rw [hsne, hstate]
      · rw [hsne, hramp]
      · rw [hsne]
      · rw [hsne]
    have hproduced := s.caughtUp_samples ((start + 47) * 3125 + 1)
    rw [← hv] at hproduced
    have hended := State.fallen_settled hfalls (t := max v.clock.now ((start + 47) * 3125 + 1))
      (by rw [hproduced]; exact hsamples) (le_max_right _ _)
    have hexec : exec (.rampDownEnd l) s = atSample s l Sound.lastFalling := rfl
    rw [State.atSample_eq hpin (Sound.lastFalling_of hstate hramp) hhorizon hv hsne] at hexec
    obtain ⟨hstore, hoff, hheld⟩ := hended
    exact ⟨_, hexec, (LaneFrame.clockTo v _ l).trans (State.Silent.refl _ l).toBeside.settle, State.settle_held _, hstore, hoff,
      hheld⟩
  · subst hm
    obtain ⟨hbuilt, hsounded, hmoved⟩ := Lane.runningSample_moves (w := w) hstate hpointer
    rw [← hk] at hbuilt hmoved
    have hindex : idx = (sampleMove c k).1 := by
      rw [hidx]
      cases k with
      | none => rfl
      | some k =>
        dsimp only [sampleMove]
        split <;> rfl
    rw [← hindex] at hbuilt
    refine ⟨_, hbuilt, hsounded, hmoved.trans (congrArg some ?_), fun hramp => ?_, fun start hramp => ?_,
      fun start hramp => ⟨fun hw => ?_, fun hw => ?_⟩⟩
    · cases k with
      | none => rfl
      | some k =>
        dsimp only [sampleMove]
        split <;> rfl
    · rw [Lane.runningValues_plain _ hramp]
      exact Sound.carries_carry _ _ _
    · rw [Lane.runningValues_up _ hramp]
      exact Sound.carries_carry _ _ _
    · rw [Lane.runningValues_down _ hramp hw]
      exact Sound.carries_carry _ _ _
    · rw [Lane.runningValues_rises _ hramp hw]
      exact Sound.carries_carry _ _ _
  · subst hm
    obtain ⟨hbuilt, hsounded⟩ := Lane.fallingSample_moves (w := w) hstate hramp
    exact ⟨_, hbuilt, hsounded, Sound.carries_carry _ _ _⟩
  · subst hm
    exact ⟨_, Lane.sample_silent hstate, Sound.carries_carry _ _ _⟩
  · subst hf
    rcases hout with hlow | hch | hhigh
    · exact Lane.content_outside hitem hrate (.inl hlow)
    · exact Lane.content_outside hitem hrate (.inr (.inl hch))
    · exact Lane.content_outside hitem hrate (.inr (.inr (by omega)))
  · subst hf
    exact Lane.content_unread hitem hrate ((n.pl.soundSlot_none _ _).mpr hunread)
  · subst hf
    obtain ⟨hmem, hof, hframe, hstage, hfault⟩ := Playout.soundSlot_some hslot
    exact ⟨hmem, hof, hframe, hstage, hfault, Lane.content_inside hitem hrate hlow hch (by omega) hslot⟩
  · rw [s24_bytes ha hb hc hv, if_pos hlow]
  · rw [s24_bytes ha hb hc hv, if_neg (by omega)]
  · have hrises : n.sne.rampsUp h = up := by
      rw [Bool.eq_iff_iff, Lane.rampsUp_iff]
      exact hup.symm
    obtain ⟨hpl, hftm, hsce, hstate, hitem, hframe, hresumed, hmap, hlatched, hbuilt, hramp⟩ := Lane.Presents.soundFrame n h w
    have htarget : target = n.target h := htarget
    subst hm htarget
    rw [hrises] at hramp
    refine ⟨hpl, hftm, hsce, hstate, hitem, hframe, hresumed, hmap, hlatched, hbuilt, hramp, fun hpointer => ?_,
      fun c e hpointer he => ?_⟩
    · rw [Lane.soundFrame_first h w hpointer]
      exact ⟨rfl, rfl, rfl, rfl, rfl⟩
    · subst he
      have hjudged := Lane.soundFrame_judged (h := h) (w := w) hpointer
      rw [hrises] at hjudged
      exact hjudged
  · subst hm
    unfold Lane.silentFrame
    cases real with
    | true => exact ⟨rfl, rfl, rfl, rfl, rfl, rfl, rfl, rfl, rfl, fun _ => ⟨rfl, rfl⟩, fun hreal => absurd hreal.symm Bool.false_ne_true⟩
    | false =>
      exact ⟨rfl, rfl, rfl, rfl, rfl, rfl, rfl, rfl, rfl, fun hreal => absurd hreal Bool.false_ne_true, fun _ => ⟨rfl, rfl, rfl, rfl, rfl⟩⟩
  · have hm : m = s.heard l h real := hm
    subst hu hm
    obtain ⟨hitem, hpl⟩ := s.heard_item l h real
    have hlane := s.soundPresented_lane l h real
    refine ⟨?_, fun k hk => s.soundPresented_others l h real hk, s.soundPresented_out l h real, State.soundPresented_unraised,
      State.soundPresented_raised, fun rate c hrate hpointer b => ?_⟩
    · rw [hlane, Lane.reported_eq]
    · rw [hlane, Lane.mem_reported ((congrArg Playout.rate hpl).trans hrate) hitem hpointer b, hpl]

end Sys2Proof.Machine
end

section
/-! PROOF. O55: readies, the blocks of a tick and their offers (R171 to R174). -/

namespace Sys2Proof.Machine

open Sys2Proof

/-! ### The channels of a tick (R164, R171) -/

theorem Channel.mem_latch (map : List Channel) (e : Nat × Nat) :
    e ∈ Channel.latch map ↔ ∃ c, map[e.1]? = some c ∧ c.enabled = true ∧ e.2 = c.tag := by
  unfold Channel.latch
  rw [List.mem_map]
  refine ⟨fun ⟨x, hx, he⟩ => ?_, fun ⟨c, hc, hon, htag⟩ => ⟨(c, e.1), ?_, Prod.ext rfl htag.symm⟩⟩
  · obtain ⟨hmem, hon⟩ := List.mem_filter.mp hx
    subst he
    exact ⟨x.1, List.mem_zipIdx_iff_getElem?.mp hmem, hon, rfl⟩
  · exact List.mem_filter.mpr ⟨List.mem_zipIdx_iff_getElem?.mpr hc, hon⟩

theorem Channel.latch_ascending (map : List Channel) : (Channel.latch map).Pairwise fun a b => a.1 < b.1 := by
  unfold Channel.latch
  refine List.Pairwise.map _ (fun a b h => h) (List.Pairwise.filter _ ?_ (R := fun a b : Channel × Nat => a.2 < b.2))
  exact List.pairwise_map.mp (by rw [List.zipIdx_map_snd]; exact List.pairwise_lt_range')

/-! ### A tick's blocks (R171) -/

theorem Sound.blocks_tag (x : Sound) (l : LaneId) : (x.blocks l).map SoundBlock.tag = x.latched.map Prod.snd := by
  unfold Sound.blocks
  rw [List.map_map]
  refine Eq.trans ?_ (congrArg (List.map Prod.snd) (List.zipIdx_map_fst 0 x.latched))
  rw [List.map_map]
  rfl

theorem Sound.blocks_get {x : Sound} {l : LaneId} {i : Nat} {b : SoundBlock} (h : (x.blocks l)[i]? = some b) :
    b.lane = l ∧ b.samples = x.built.reverse.map fun v => v.getD i 0 := by
  unfold Sound.blocks at h
  rw [List.getElem?_map, List.getElem?_zipIdx] at h
  obtain ⟨e, he, rfl⟩ := Option.map_eq_some_iff.mp h
  obtain ⟨a, -, rfl⟩ := Option.map_eq_some_iff.mp he
  rw [Nat.zero_add]
  exact ⟨rfl, rfl⟩

theorem Sound.mem_blocks {x : Sound} {l : LaneId} {b : SoundBlock} (h : b ∈ x.blocks l) :
    b.lane = l ∧ b.samples.length = x.built.length := by
  obtain ⟨i, hi⟩ := List.mem_iff_getElem?.mp h
  obtain ⟨hlane, hsamples⟩ := Sound.blocks_get hi
  refine ⟨hlane, ?_⟩
  rw [hsamples, List.length_map, List.length_reverse]

theorem Sound.blocks_sample {x : Sound} {l : LaneId} {i j : Nat} {b : SoundBlock} {v : List Int} {y : Int}
    (hb : (x.blocks l)[i]? = some b) (hv : x.built.reverse[j]? = some v) (hy : v[i]? = some y) : b.samples[j]? = some y := by
  obtain ⟨-, hsamples⟩ := Sound.blocks_get hb
  rw [hsamples, List.getElem?_map, hv]
  simp [List.getD_eq_getElem?_getD, hy]

/-- The counts of an offer admitted (R177). -/
def SoundCounts.afterFit (k : SoundCounts) (n : Nat) : SoundCounts := { k with
  offered := satInc top32 k.offered, admitted := satInc top32 k.admitted, blocks := min top32 (k.blocks + n) }

/-- The counts of an offer dropped (R177). -/
def SoundCounts.refuse (k : SoundCounts) : SoundCounts := { k with
  offered := satInc top32 k.offered, dropped := satInc top32 k.dropped }

namespace State

variable {s u v : State} {l : LaneId}

/-! ### The sound link (R172 to R174) -/

theorem answerReady_cons {b : SoundBlock} {rest : List SoundBlock} (h : s.link.queue = b :: rest) :
    s.answerReady = { s with
      link := { s.link with queue := rest, ready := false, sent := satInc top32 s.link.sent }
      out := s.out ++ [.soundBlock b] } := by
  unfold State.answerReady
  rw [h]
  rfl

/-- An offer's counts (R177). -/
def counted (s : State) (l : LaneId) (f : SoundCounts → SoundCounts) : State :=
  s.modSne l fun u => { u with counts := f u.counts }

theorem counted_own (s : State) (l : LaneId) (f : SoundCounts → SoundCounts) :
    ((s.counted l f).lane l).sne = { (s.lane l).sne with counts := f (s.lane l).sne.counts } := by
  unfold State.counted
  rw [lane_modSne_same]

/-- The counts of an offer admitted, and its blocks at the tail. -/
def admitted (s : State) (l : LaneId) (blocks : List SoundBlock) : State :=
  { s.counted l (SoundCounts.afterFit · blocks.length) with link := { s.link with queue := s.link.queue ++ blocks } }

/-- The counts of an offer dropped. -/
def refusedOffer (s : State) (l : LaneId) : State :=
  ({ s.counted l SoundCounts.refuse with
    link := { s.link with dropped := satInc top32 s.link.dropped } } : State).raise srcSoundDrop

theorem offerBlocks_fits {blocks : List SoundBlock} (h : s.link.queue.length + blocks.length ≤ 1024) : s.offerBlocks l blocks
    = if s.link.ready then (s.admitted l blocks).answerReady else s.admitted l blocks := if_pos h

theorem offerBlocks_drops {blocks : List SoundBlock} (h : 1024 < s.link.queue.length + blocks.length) :
    s.offerBlocks l blocks = s.refusedOffer l := if_neg (by omega)

theorem answerReady_lane (s : State) (k : LaneId) : s.answerReady.lane k = s.lane k := by
  unfold State.answerReady
  split <;> rfl

theorem offerBlocks_lane_fits {blocks : List SoundBlock} (h : s.link.queue.length + blocks.length ≤ 1024) (k : LaneId) :
    (s.offerBlocks l blocks).lane k = (s.counted l (SoundCounts.afterFit · blocks.length)).lane k := by
  rw [offerBlocks_fits h]
  split
  · exact answerReady_lane _ k
  · rfl

theorem offerBlocks_lane_drops {blocks : List SoundBlock} (h : 1024 < s.link.queue.length + blocks.length) (k : LaneId) :
    (s.offerBlocks l blocks).lane k = (s.counted l SoundCounts.refuse).lane k := by
  rw [offerBlocks_drops h]
  rfl

/-- An offer changes the counts of a lane's sound alone. -/
theorem offerBlocks_own (s : State) (l : LaneId) (blocks : List SoundBlock) :
    ((s.offerBlocks l blocks).lane l).sne
      = { (s.lane l).sne with counts := ((s.offerBlocks l blocks).lane l).sne.counts } := by
  by_cases h : s.link.queue.length + blocks.length ≤ 1024
  · rw [offerBlocks_lane_fits h, counted_own]
  · rw [offerBlocks_lane_drops (not_le.mp h), counted_own]

/-! ### The tick closed (R171) -/

theorem closeTick_offers (hsounded : (s.lane l).sne.sounded = true) (hheld : s.laneHeld l = false)
    (hlatched : (s.lane l).sne.latched ≠ []) :
    s.closeTick l = (s.offerBlocks l ((s.lane l).sne.blocks l)).modSne l Sound.nextTick := by
  have hsome : (s.lane l).sne.latched.isEmpty = false := List.isEmpty_eq_false_iff.mpr hlatched
  unfold State.closeTick
  dsimp only
  rw [if_pos (by rw [hsounded, hheld, hsome]; rfl)]

theorem closeTick_rests (h : (s.lane l).sne.sounded = false ∨ s.laneHeld l = true ∨ (s.lane l).sne.latched = []) :
    s.closeTick l = s.modSne l Sound.nextTick := by
  unfold State.closeTick
  dsimp only
  refine congrArg (State.modSne · l Sound.nextTick) (if_neg ?_)
  rcases h with h | h | h <;> rw [h] <;> simp

theorem closeTick_latched (s : State) (l : LaneId) :
    ((s.closeTick l).lane l).sne.latched = Channel.latch (s.lane l).sne.map := by
  have hnext : ∀ u : State, ((u.modSne l Sound.nextTick).lane l).sne.latched = Channel.latch (u.lane l).sne.map := fun u => by
    rw [lane_modSne_same]
    rfl
  by_cases h : (s.lane l).sne.sounded = false ∨ s.laneHeld l = true ∨ (s.lane l).sne.latched = []
  · rw [closeTick_rests h, hnext]
  · obtain ⟨hsounded, h⟩ := not_or.mp h
    obtain ⟨hheld, hlatched⟩ := not_or.mp h
    rw [closeTick_offers (Bool.not_eq_false _ ▸ hsounded) (Bool.eq_false_iff.mpr hheld) hlatched, hnext, offerBlocks_own]

/-! ### The ticks closed lane by lane, and the reports of C -/

/-- The same sound, sound link and holds: what the closing of a tick looks at. -/
structure SameSound (s u : State) : Prop where
  link : u.link = s.link := by exact rfl
  out : u.out = s.out := by exact rfl
  held : u.held = s.held := by exact rfl
  sne : ∀ k, (u.lane k).sne = (s.lane k).sne := by exact fun _ => rfl
  screen : ∀ k, (u.lane k).pl.screen = (s.lane k).pl.screen := by exact fun _ => rfl

theorem SameSound.refl (s : State) : s.SameSound s := {}

theorem SameSound.trans (h : s.SameSound u) (k : u.SameSound v) : s.SameSound v where
  link := k.link.trans h.link
  out := k.out.trans h.out
  held := k.held.trans h.held
  sne := fun j => (k.sne j).trans (h.sne j)
  screen := fun j => (k.screen j).trans (h.screen j)

/-- A lane changed but for its sound and its screen. -/
theorem SameSound.modLane (l : LaneId) {f : Lane → Lane} (hsne : (f (s.lane l)).sne = (s.lane l).sne)
    (hscreen : (f (s.lane l)).pl.screen = (s.lane l).pl.screen) : s.SameSound (s.modLane l f) where
  sne k := by
    by_cases hk : k = l
    · rw [hk, lane_modLane_same, hsne]
    · exact congrArg Lane.sne (Quad.get_set_ne _ _ hk)
  screen k := by
    by_cases hk : k = l
    · rw [hk, lane_modLane_same, hscreen]
    · exact congrArg (fun n : Lane => n.pl.screen) (Quad.get_set_ne _ _ hk)

theorem SameSound.reported (s : State) (l : LaneId) : s.SameSound (s.modLane l Lane.reported) :=
  .modLane l (by rw [Lane.reported_eq]) (by rw [Lane.reported_eq])

theorem SameSound.lossTick (s : State) : s.SameSound s.lossTick := by
  unfold State.lossTick
  generalize fours = ls
  induction ls generalizing s with
  | nil => exact .refl s
  | cons l rest ih => exact (SameSound.modLane (s := s) l rfl rfl).trans (ih _)

/-- Two states with the same sound, after the same change of a lane's sound. -/
theorem SameSound.modSne (h : s.SameSound u) (l : LaneId) (f : Sound → Sound) : (s.modSne l f).SameSound (u.modSne l f) where
  link := h.link
  out := h.out
  held := h.held
  sne k := by
    by_cases hk : k = l
    · rw [hk, lane_modSne_same, lane_modSne_same, h.sne l]
    · exact (congrArg Lane.sne (Quad.get_set_ne _ _ hk)).trans
        ((h.sne k).trans (congrArg Lane.sne (Quad.get_set_ne _ _ hk)).symm)
  screen k := by
    by_cases hk : k = l
    · rw [hk, lane_modSne_same, lane_modSne_same]
      exact h.screen l
    · exact (congrArg (fun n : Lane => n.pl.screen) (Quad.get_set_ne _ _ hk)).trans
        ((h.screen k).trans (congrArg (fun n : Lane => n.pl.screen) (Quad.get_set_ne _ _ hk)).symm)

theorem SameSound.withLink (h : s.SameSound u) (x : SoundLink) : ({ s with link := x } : State).SameSound { u with link := x } where
  out := h.out
  held := h.held
  sne := h.sne
  screen := h.screen

theorem SameSound.answerReady (h : s.SameSound u) : s.answerReady.SameSound u.answerReady := by
  cases hqueue : s.link.queue with
  | nil =>
    have hnone : ∀ w : State, w.link.queue = [] → w.answerReady = w := fun w hw => by
      unfold State.answerReady
      rw [hw]
    rw [hnone s hqueue, hnone u (by rw [h.link]; exact hqueue)]
    exact h
  | cons b rest =>
    rw [answerReady_cons hqueue, answerReady_cons (s := u) (by rw [h.link]; exact hqueue), h.link, h.out]
    exact { held := h.held, sne := h.sne, screen := h.screen }

theorem SameSound.raise (h : s.SameSound u) (n : Nat) : (s.raise n).SameSound (u.raise n) :=
  { link := h.link, out := h.out, held := h.held, sne := h.sne, screen := h.screen }

theorem SameSound.offerBlocks (h : s.SameSound u) (l : LaneId) (blocks : List SoundBlock) :
    (s.offerBlocks l blocks).SameSound (u.offerBlocks l blocks) := by
  have hadmitted : (s.admitted l blocks).SameSound (u.admitted l blocks) := by
    unfold State.admitted
    rw [h.link]
    exact (h.modSne l _).withLink _
  have hrefused : (s.refusedOffer l).SameSound (u.refusedOffer l) := by
    unfold State.refusedOffer
    rw [h.link]
    exact ((h.modSne l _).withLink _).raise _
  by_cases hfits : s.link.queue.length + blocks.length ≤ 1024
  · rw [offerBlocks_fits hfits, offerBlocks_fits (s := u) (by rw [h.link]; exact hfits), h.link]
    split
    · exact hadmitted.answerReady
    · exact hadmitted
  · rw [offerBlocks_drops (not_le.mp hfits), offerBlocks_drops (s := u) (by rw [h.link]; exact not_le.mp hfits)]
    exact hrefused

theorem SameSound.laneHeld (h : s.SameSound u) (l : LaneId) : u.laneHeld l = s.laneHeld l :=
  laneHeld_congr h.held (h.screen l)

theorem SameSound.closeTick (h : s.SameSound u) (l : LaneId) : (s.closeTick l).SameSound (u.closeTick l) := by
  by_cases hrest : (s.lane l).sne.sounded = false ∨ s.laneHeld l = true ∨ (s.lane l).sne.latched = []
  · rw [closeTick_rests hrest, closeTick_rests (s := u) (by rw [h.sne, h.laneHeld]; exact hrest)]
    exact h.modSne l _
  · obtain ⟨hsounded, hrest⟩ := not_or.mp hrest
    obtain ⟨hheld, hlatched⟩ := not_or.mp hrest
    have hsounded : (s.lane l).sne.sounded = true := Bool.not_eq_false _ ▸ hsounded
    have hheld : s.laneHeld l = false := Bool.eq_false_iff.mpr hheld
    rw [closeTick_offers hsounded hheld hlatched, closeTick_offers (s := u) (by rw [h.sne]; exact hsounded)
      (by rw [h.laneHeld]; exact hheld) (by rw [h.sne]; exact hlatched), h.sne]
    exact (h.offerBlocks l _).modSne l _

/-- The reports of C change nothing that the closing of a later lane's tick looks at. -/
theorem SameSound.closeTicks (s : State) :
    ((((s.closeTick 0).closeTick 1).closeTick 2).closeTick 3).SameSound s.closeTicks := by
  have hclose : ∀ {s u : State} (l : LaneId), s.SameSound u → (s.closeTick l).SameSound ((u.closeTick l).modLane l Lane.reported) :=
    fun l h => (h.closeTick l).trans (.reported _ l)
  exact hclose 3 (hclose 2 (hclose 1 (hclose 0 (.refl s))))

/-- What a base tick closes, as its settling leaves it. -/
theorem SameSound.tickEnded (s : State) : (((((s.produceTo (48 * (s.clock.ticks + 1))).closeTick 0).closeTick 1).closeTick
    2).closeTick 3).SameSound s.tickEnded := (SameSound.closeTicks _).trans (.lossTick _)

end State

/-- Settles O55: the ready by the queue, the base tick, and the offer by the room there is. -/
theorem readyAnswered : Obligations.ReadyAnswered := by
  refine ⟨fun s hpin => ⟨fun b rest hqueue => ?_, fun hqueue hready => ?_, fun hqueue hready => ?_⟩,
    fun s w closed hpin hw hclosed => ?_, fun s u l blocks hu => ⟨fun hfits => ⟨?_, fun hready => ?_, fun b rest hready hqueue => ?_⟩,
      fun hover => ⟨?_, ?_, ?_, ?_⟩⟩, fun s l x hx => ⟨fun hsounded hheld hlatched => ?_, fun hrest => ?_, x.blocks_tag l,
        fun b hb => (Sound.mem_blocks hb).1, fun i j b v y hb hv hy => Sound.blocks_sample hb hv hy, fun hbuilt b hb => ?_, ?_⟩,
    fun map => ⟨Channel.latch_ascending map, Channel.mem_latch map⟩⟩
  · have hexec : exec .soundReady s = execSoundReady s := rfl
    rw [hexec, execSoundReady, arriving_eq _ hpin, hqueue]
    dsimp only
    rw [State.answerReady_cons hqueue]
  · have hexec : exec .soundReady s = execSoundReady s := rfl
    rw [hexec, execSoundReady, arriving_eq _ hpin, hqueue]
    exact if_neg (by rw [hready]; exact nofun)
  · have hexec : exec .soundReady s = execSoundReady s := rfl
    rw [hexec, execSoundReady, arriving_eq _ hpin, hqueue]
    exact if_pos hready
  · have hnext : exec .baseTick s = .next (s.takeOverdue.takeTimed 8).baseTick.settle := live_eq _ hpin
    rw [← hw] at hnext
    have hsame := State.SameSound.tickEnded w
    rw [← hclosed] at hsame
    obtain ⟨more, hmore, hstorage⟩ := w.baseTick.settle_frame.out
    refine ⟨_, more, hnext, ?_, ?_, fun b hb => ?_, ?_, fun l => ?_⟩
    · rw [State.settle_link]
      exact hsame.link
    · rw [hmore]
      exact congrArg (· ++ more) hsame.out
    · exact nomatch hstorage _ hb
    · rw [State.settle_clock, State.baseTick_clock, (State.tick_counts _).1, w.tickEnded_counts.1]
    · rw [State.settle_sne, State.lane_baseTick]
      exact hsame.sne l
  · rw [hu, State.offerBlocks_lane_fits hfits, State.counted_own]
    rfl
  · rw [hu, State.offerBlocks_fits hfits, if_neg (by rw [hready]; exact nofun)]
    exact ⟨rfl, rfl⟩
  · rw [hu, State.offerBlocks_fits hfits, if_pos hready, State.answerReady_cons (s := s.admitted l blocks) hqueue]
    exact ⟨rfl, rfl⟩
  · rw [hu, State.offerBlocks_drops hover]
    rfl
  · rw [hu, State.offerBlocks_drops hover]
    rfl
  · rw [hu, State.offerBlocks_lane_drops hover, State.counted_own]
    rfl
  · rw [hu, State.offerBlocks_drops hover]
    exact State.raise_raised _ (by decide)
  · subst hx
    rw [State.closeTick_offers hsounded hheld hlatched, State.lane_modSne_same]
    exact ⟨rfl, rfl⟩
  · subst hx
    rw [State.closeTick_rests hrest, State.lane_modSne_same]
    exact ⟨rfl, rfl⟩
  · obtain ⟨hcount, -, -⟩ := hbuilt.produced (48 * (s.clock.ticks + 1)) l
    obtain ⟨-, -, hsamples, -⟩ := hbuilt
    rw [(Sound.mem_blocks hb).2]
    omega
  · subst hx
    exact s.closeTick_latched l

end Sys2Proof.Machine
end

section
/-! PROOF. O25: chunk offers, fresh ones and re-offers (R29 to R32, R37 to R39). -/

namespace Sys2Proof.Machine

open Sys2Proof

/-! ### A list at the place behind its leading part -/

theorem modifyAt_append {α : Type} (f : α → α) (before : List α) (x : α) (behind : List α) :
    modifyAt f before.length (before ++ x :: behind) = before ++ f x :: behind := by
  induction before with
  | nil => rfl
  | cons a rest ih => exact congrArg (a :: ·) ih

theorem removeAt_append {α : Type} (before : List α) (x : α) (behind : List α) :
    removeAt before.length (before ++ x :: behind) = before ++ behind := by
  induction before with
  | nil => rfl
  | cons a rest ih => exact congrArg (a :: ·) ih

theorem findFrom_append {α : Type} {p : α → Bool} {before : List α} {x : α} (behind : List α)
    (hbefore : ∀ a ∈ before, p a = false) (hx : p x = true) :
    findFrom p 0 (before ++ x :: behind) = some (before.length, x) := by
  refine (findFrom_eq_some 0 before.length ?_ hx fun j b hj hb => ?_).trans (by rw [Nat.zero_add])
  · simp
  · rw [List.getElem?_append_left hj] at hb
    exact hbefore b (List.mem_of_getElem? hb)

theorem findFrom_none_of {α : Type} {p : α → Bool} {i : Nat} {l : List α} (h : ∀ a ∈ l, p a = false) : findFrom p i l = none := by
  induction l generalizing i with
  | nil => rfl
  | cons a rest ih =>
    unfold findFrom
    rw [if_neg (by rw [h a List.mem_cons_self]; exact nofun)]
    exact ih fun b hb => h b (List.mem_cons_of_mem _ hb)

/-- An element inserted stands behind those it is not to precede, and before the first that it is. -/
theorem insertBy_split {α : Type} (le : α → α → Bool) (a : α) (l : List α) : ∃ before behind, l = before ++ behind
    ∧ insertBy le a l = before ++ a :: behind ∧ (∀ y ∈ before, le a y = false)
    ∧ ∀ y, behind.head? = some y → le a y = true := by
  induction l with
  | nil => exact ⟨[], [], rfl, rfl, fun y hy => absurd hy List.not_mem_nil, nofun⟩
  | cons b rest ih =>
    unfold insertBy
    by_cases hle : le a b = true
    · refine ⟨[], b :: rest, rfl, if_pos hle, fun y hy => absurd hy List.not_mem_nil, fun y hy => ?_⟩
      rw [← Option.some.inj hy]
      exact hle
    · obtain ⟨before, behind, hl, hinsert, hbefore, hbehind⟩ := ih
      refine ⟨b :: before, behind, by rw [hl, List.cons_append], ?_, fun y hy => ?_, hbehind⟩
      · rw [if_neg hle, hinsert, List.cons_append]
      · rcases List.mem_cons.mp hy with rfl | hy
        · exact Bool.eq_false_iff.mpr hle
        · exact hbefore y hy

/-! ### A slot passed on (R37) -/

theorem Ticket.waits_iff (t : Ticket) : (t.cause == .stagingFull && t.slot.isNone) = true ↔ t.waits := by
  unfold Ticket.waits
  simp

theorem Ticket.not_waits {t : Ticket} (h : ¬ t.waits) : (t.cause == .stagingFull && t.slot.isNone) = false :=
  Bool.eq_false_iff.mpr fun hw => h ((t.waits_iff).mp hw)

theorem Assembler.passOnAll_one (p : Assembler) (slot : Nat) : p.passOnAll [slot] = p.passOn slot := rfl

/-! ### The judgement (R30, R31) -/

/-- The tests of a track, all passed. -/
structure PassesTrack (d : Declaration) (k : TrackKind) (t : Track) (c : Chunk) (slotReady : Bool) : Prop where
  inTrack : c.id.first < t.units ∧ c.id.first + c.id.count ≤ t.units
  sizes : sizesFit d k c = true
  check : (crc32 c.payload).toNat = c.crc
  fresh : inside t.received c.id.span = false
  apart : t.inFlight.any (Span.overlaps c.id.span) = false
  fragments : (mergeSpan t.received c.id.span).length + t.inFlight.length ≤ 16
  slot : slotReady = true

theorem judgeTrack_accepted {d : Declaration} {k : TrackKind} {t : Track} {c : Chunk} {slotReady : Bool}
    (h : judgeTrack d k t c slotReady = .accepted) : PassesTrack d k t c slotReady := by
  unfold judgeTrack at h
  split at h
  · exact nomatch h
  · rename_i hrange
    split at h
    · exact nomatch h
    · rename_i hsizes
      split at h
      · exact nomatch h
      · rename_i hcheck
        split at h
        · exact nomatch h
        · rename_i hfresh
          split at h
          · exact nomatch h
          · rename_i hapart
            split at h
            · exact nomatch h
            · rename_i hfragments
              split at h
              · exact nomatch h
              · rename_i hslot
                exact ⟨by omega, by simpa using hsizes, not_not.mp hcheck, by simpa using hfresh, by simpa using hapart,
                  by omega, by simpa using hslot⟩

theorem judge_accepted {s : State} {c : Chunk} {slotReady : Bool} (h : judge s c slotReady = .accepted) :
    ∃ i e k t, s.stc.find c.id.packageId = some (i, e) ∧ e.window.state ≠ .retiring ∧ trackKind c.id.track = some k
      ∧ e.record.track c.id.reel k = some t ∧ PassesTrack e.record.decl k t c slotReady := by
  unfold judge at h
  split at h
  · exact nomatch h
  · split at h
    · exact nomatch h
    · rename_i i e hfind
      split at h
      · exact nomatch h
      · rename_i hstate
        split at h
        · exact nomatch h
        · rename_i k hkind
          split at h
          · exact nomatch h
          · rename_i t htrack
            exact ⟨i, e, k, t, hfind, hstate, hkind, htrack, judgeTrack_accepted h⟩

/-- A track with a staged chunk's range in flight (R32). -/
def Track.joined (n : Span) (t : Track) : Track := { t with inFlight := insertBy (fun a b => a.lo ≤ b.lo) n t.inFlight }

namespace State

variable {s : State} {c : Chunk}

/-! ### An offer (R29, R38) -/

theorem offer_overrun (h : 8 ≤ s.pka.outstanding) : s.offer c = s.verdict c.id (.refused .overrun) false := if_pos h

theorem offer_fresh (h : s.pka.outstanding < 8) (hnew : ∀ t ∈ s.pka.tickets, t.chunk ≠ c.id) :
    s.offer c = s.freshOffer c := by
  have hnone : findFrom (fun t : Ticket => t.chunk == c.id) 0 s.pka.tickets = none :=
    findFrom_none_of fun t ht => beq_eq_false_iff_ne.mpr (hnew t ht)
  unfold State.offer
  rw [if_neg (by omega), hnone]

theorem offer_again {before behind : List Ticket} {x : Ticket} (h : s.pka.outstanding < 8)
    (htickets : s.pka.tickets = before ++ x :: behind) (hx : x.chunk = c.id) (hfirst : ∀ t ∈ before, t.chunk ≠ c.id) :
    s.offer c = s.reOffer c before.length x := by
  have hfind : findFrom (fun t : Ticket => t.chunk == c.id) 0 s.pka.tickets = some (before.length, x) := by
    rw [htickets]
    exact findFrom_append behind (fun t ht => beq_eq_false_iff_ne.mpr (hfirst t ht)) (beq_iff_eq.mpr hx)
  unfold State.offer
  rw [if_neg (by omega), hfind]

theorem freshOffer_accepted {slot : Nat} (hslot : s.pka.freeSlot = some slot) (h : judge s c true = .accepted) :
    s.freshOffer c = s.stage c slot := by
  unfold State.freshOffer
  rw [hslot, Option.isSome_some, h]

theorem freshOffer_duplicate (h : judge s c s.pka.freeSlot.isSome = .duplicate) :
    s.freshOffer c = s.verdict c.id .duplicate false := by
  unfold State.freshOffer
  rw [h]

theorem freshOffer_refused {why : OfferRefusal} (h : judge s c s.pka.freeSlot.isSome = .refused why) :
    s.freshOffer c = (s.countRefusal c.id why).verdict c.id (.refused why) false := by
  unfold State.freshOffer
  rw [h]

theorem freshOffer_deferred {cause : RetryCause} (h : judge s c s.pka.freeSlot.isSome = .deferred cause) : s.freshOffer c
    = if s.pka.tickets.length < 8 then
        (s.modPka fun p => { p with tickets := p.tickets ++ [⟨c.id, cause, s.clock.ticks, none⟩] }).verdict c.id
          (.retry cause) true
      else s.verdict c.id (.retry cause) false := by
  unfold State.freshOffer
  rw [h]

/-! ### A re-offer (R39) -/

/-- The state without the ticket that a re-offer consumes. -/
def consumed (s : State) (tickets : List Ticket) : State := s.modPka fun p => { p with tickets := tickets }

variable {before behind : List Ticket} {x : Ticket}

theorem consumed_eq (htickets : s.pka.tickets = before ++ x :: behind) :
    (s.modPka fun p => { p with tickets := removeAt before.length p.tickets }) = s.consumed (before ++ behind) := by
  unfold State.consumed State.modPka
  dsimp only
  rw [htickets, removeAt_append]

theorem reOffer_accepted {slot : Nat} (htickets : s.pka.tickets = before ++ x :: behind)
    (hslot : x.slot = some slot ∨ x.slot = none ∧ (s.consumed (before ++ behind)).pka.freeSlot = some slot)
    (h : judge (s.consumed (before ++ behind)) c true = .accepted) :
    s.reOffer c before.length x = (s.consumed (before ++ behind)).stage c slot := by
  unfold State.reOffer
  dsimp only
  rw [consumed_eq htickets]
  rcases hslot with hslot | ⟨hnone, hslot⟩
  · rw [hslot, Option.isSome_some, Bool.true_or, h]
  · rw [hnone, hslot, Option.isSome_none, Bool.false_or, Option.isSome_some, h]

theorem reOffer_duplicate (htickets : s.pka.tickets = before ++ x :: behind)
    (h : judge (s.consumed (before ++ behind)) c (x.slot.isSome || (s.consumed (before ++ behind)).pka.freeSlot.isSome)
      = .duplicate) :
    s.reOffer c before.length x = ((s.consumed (before ++ behind)).handBack x.slot).verdict c.id .duplicate false := by
  unfold State.reOffer
  dsimp only
  rw [consumed_eq htickets, h]

theorem reOffer_refused {why : OfferRefusal} (htickets : s.pka.tickets = before ++ x :: behind)
    (h : judge (s.consumed (before ++ behind)) c (x.slot.isSome || (s.consumed (before ++ behind)).pka.freeSlot.isSome)
      = .refused why) : s.reOffer c before.length x
        = (((s.consumed (before ++ behind)).countRefusal c.id why).handBack x.slot).verdict c.id (.refused why) false := by
  unfold State.reOffer
  dsimp only
  rw [consumed_eq htickets, h]

theorem reOffer_deferred {cause : RetryCause} (htickets : s.pka.tickets = before ++ x :: behind)
    (h : judge (s.consumed (before ++ behind)) c (x.slot.isSome || (s.consumed (before ++ behind)).pka.freeSlot.isSome)
      = .deferred cause) : s.reOffer c before.length x
        = ((s.consumed (before ++ { x with cause := cause, slot := none } :: behind)).handBack x.slot).verdict c.id
          (.retry cause) true := by
  unfold State.reOffer
  dsimp only
  rw [consumed_eq htickets, h]
  dsimp only
  rw [htickets, modifyAt_append]
  rfl

/-! ### Staging (R32) -/

theorem stage_eq {slot : Nat} {k : TrackKind} (hkind : trackKind c.id.track = some k) : s.stage c slot = { s with
    pka := { s.pka with
      staging := modifyAt (fun _ => .held c.id c.payload) slot s.pka.staging
      order := s.pka.order ++ [slot]
      outstanding := s.pka.outstanding + 1 }
    stc := s.stc.modRecord c.id.packageId fun r => r.modTrack c.id.reel k (Track.joined c.id.span) } := by
  unfold State.stage
  dsimp only
  rw [hkind]
  rfl

end State

/-- Settles O25: the offer by its ticket and its judgement, the slot handed back, and what staging leaves. -/
theorem offerJudged : Obligations.OfferJudged := by
  have hoffer : ∀ (s : State) (frame : List Byte) (c : Chunk), s.pin = false → parseChunk frame = some c →
      exec (.chunkOffer frame) s = .next (s.offer c).settle := fun s frame c hpin hparse => by
    have hexec : exec (.chunkOffer frame) s = execChunkOffer frame s := rfl
    rw [hexec, execChunkOffer, arriving_eq _ hpin, hparse]
  refine ⟨fun s frame hpin => ⟨fun hparse => ?_, fun c hparse hfull => ?_, fun c hparse hroom hnew =>
      ⟨fun slot hslot hjudge => ?_, fun hjudge => ?_, fun why hjudge => ?_, fun cause hjudge hlist => ?_,
        fun cause hjudge hlist => ?_⟩⟩,
    fun s frame c before behind x s1 hpin hparse hroom htickets hx hfirst hs1 => ?_,
    fun s p slot => ⟨rfl, rfl, fun hnone => ?_, fun before x behind htickets hbefore hx => ?_⟩,
    fun s u c slot n k x e t hkind hslot hfind htrack hu => ?_, fun s c slotReady hjudge => ?_⟩
  · have hexec : exec (.chunkOffer frame) s = execChunkOffer frame s := rfl
    rw [hexec, execChunkOffer, arriving_eq _ hpin, hparse]
  · rw [hoffer s frame c hpin hparse, State.offer_overrun hfull]
  · rw [hoffer s frame c hpin hparse, State.offer_fresh hroom hnew, State.freshOffer_accepted hslot hjudge]
  · rw [hoffer s frame c hpin hparse, State.offer_fresh hroom hnew, State.freshOffer_duplicate hjudge]
  · rw [hoffer s frame c hpin hparse, State.offer_fresh hroom hnew, State.freshOffer_refused hjudge]
  · rw [hoffer s frame c hpin hparse, State.offer_fresh hroom hnew, State.freshOffer_deferred hjudge, if_pos hlist]
  · rw [hoffer s frame c hpin hparse, State.offer_fresh hroom hnew, State.freshOffer_deferred hjudge, if_neg (by omega)]
  · have hs1 : s1 = s.consumed (before ++ behind) := hs1
    subst hs1
    rw [hoffer s frame c hpin hparse, State.offer_again hroom htickets hx hfirst]
    refine ⟨fun slot hslot hjudge => ?_, fun hjudge => ?_, fun why hjudge => ?_, fun cause hjudge => ?_⟩
    · rw [State.reOffer_accepted htickets hslot hjudge]
    · rw [State.reOffer_duplicate htickets hjudge]
    · rw [State.reOffer_refused htickets hjudge]
    · rw [State.reOffer_deferred htickets hjudge]
      rfl
  · exact Assembler.passOn_none (findFrom_none_of fun t ht => Ticket.not_waits (hnone t ht))
  · have hfound : findFrom (fun t : Ticket => t.cause == .stagingFull && t.slot.isNone) 0 p.tickets = some (before.length, x) := by
      rw [htickets]
      exact findFrom_append behind (fun t ht => Ticket.not_waits (hbefore t ht)) ((x.waits_iff).mpr hx)
    rw [Assembler.passOn_some hfound, htickets, modifyAt_append]
  · rw [State.stage_eq hkind] at hu
    subst hu
    obtain ⟨ahead, behind, hlist, hinserted, hbefore, hbehind⟩ :=
      insertBy_split (fun a b : Span => a.lo ≤ b.lo) c.id.span t.inFlight
    refine ⟨?_, fun j hj => ?_, rfl, rfl, rfl, rfl, rfl, rfl,
      { e with record := e.record.modTrack c.id.reel k (Track.joined c.id.span) }, t.joined c.id.span, ahead, behind, ?_, rfl, ?_,
      rfl, rfl, hlist, hinserted, fun y hy => ?_, fun y hy => ?_⟩
    · dsimp only
      rw [modifyAt_getElem?, if_pos rfl, hslot]
      rfl
    · dsimp only
      rw [modifyAt_getElem?, if_neg hj]
    · dsimp only
      rw [Storage.find_modRecord, hfind]
      rfl
    · dsimp only
      rw [PackageRecord.track_modTrack, if_pos rfl, htrack]
      rfl
    · exact not_le.mp (of_decide_eq_false (hbefore y hy))
    · exact of_decide_eq_true (hbehind y hy)
  · obtain ⟨i, e, k, t, hfind, hstate, hkind, htrack, hpasses⟩ := judge_accepted hjudge
    refine ⟨hpasses.slot, i, e, k, t, hfind, hstate, hkind, htrack, hpasses.inTrack.2, hpasses.check, fun r hr => ?_,
      hpasses.fragments⟩
    rintro ⟨hlow, hhigh⟩
    refine List.any_eq_false.mp hpasses.apart r hr ?_
    unfold Span.overlaps
    exact (Bool.and_eq_true _ _).mpr ⟨decide_eq_true hlow, decide_eq_true hhigh⟩

end Sys2Proof.Machine
end

section
/-! PROOF. O26, first part: the operations of the storage port, the package record and a chunk write's return (R1, R9, R17, R22,
R35, R36, R42, R43, R46). -/

namespace Sys2Proof.Machine

open Sys2Proof

/-! ### An operation that returns (R1, R9, R11) -/

theorem removeAt_eq {α : Type} (n : Nat) (l : List α) : removeAt n l = l.take n ++ l.drop (n + 1) := by
  induction l generalizing n with
  | nil => cases n <;> rfl
  | cons a rest ih =>
    cases n with
    | zero => rfl
    | succ n => exact congrArg (a :: ·) (ih n)

/-- Whether an operation writes a catalogue slot. -/
def Operation.isSlotWrite (o : Operation) : Prop := ∃ slot retry, o.kind = .slotWrite slot retry

namespace Storage

variable {c x : Storage} {o : Operation} {op : Nat}

theorem returned_slotWrite {slot : Nat} {retry : Bool} (h : o.kind = .slotWrite slot retry) :
    x.returned op o = { x with flight := removeAt op x.flight } := by
  unfold Storage.returned
  rw [h]

/-- A returned operation counted in its window, or its draining range. -/
def counted (x : Storage) (block : Nat) : Storage :=
  { x.modAt block (fun w => { w with ops := w.ops - 1 }) with draining := x.draining.filterMap (Drain.returned block) }

theorem returned_other (h : ¬ o.isSlotWrite) :
    x.returned op o = ({ x with flight := removeAt op x.flight } : Storage).counted o.first := by
  unfold Storage.returned
  split
  · rename_i slot retry hkind
    exact absurd ⟨slot, retry, hkind⟩ h
  · rfl

theorem modAt_entry (x : Storage) (block : Nat) (f : Window → Window) (j : Nat) : (x.modAt block f).table[j]?
    = x.table[j]?.map fun e => e.map fun e => if e.window.holds block then { e with window := f e.window } else e :=
  List.getElem?_map

theorem holds_iff (w : Window) (block : Nat) : w.holds block = true ↔ w.base ≤ block ∧ block ≤ w.limit := by
  unfold Window.holds
  rw [Bool.and_eq_true, decide_eq_true_iff, decide_eq_true_iff]

theorem modAt_some {block : Nat} {f : Window → Window} {j : Nat} {e : TableEntry} (h : x.table[j]? = some (some e)) :
    (x.modAt block f).table[j]?
      = some (some (if e.window.base ≤ block ∧ block ≤ e.window.limit then { e with window := f e.window } else e)) := by
  rw [modAt_entry, h, Option.map_some, Option.map_some]
  simp only [holds_iff]

theorem counts_modAt (x : Storage) (block : Nat) (f : Nat → Nat) :
    x.Counts (x.modAt block fun w => { w with ops := f w.ops }) block f := by
  refine fun j => ⟨fun h => ?_, fun e h => ?_⟩
  · rw [modAt_entry, h]
    rfl
  · rw [modAt_some h]
    split <;> rfl

theorem mem_drained (block : Nat) (ds : List Drain) (d : Drain) : d ∈ ds.filterMap (Drain.returned block) ↔ ∃ d0 ∈ ds,
    (¬ (d0.first ≤ block ∧ block ≤ d0.last) ∧ d = d0)
      ∨ d0.first ≤ block ∧ block ≤ d0.last ∧ 1 < d0.ops ∧ d = { d0 with ops := d0.ops - 1 } := by
  rw [List.mem_filterMap]
  refine exists_congr fun d0 => and_congr_right fun _ => ?_
  unfold Drain.returned
  by_cases hin : d0.first ≤ block ∧ block ≤ d0.last
  · rw [if_pos hin]
    by_cases hlast : d0.ops ≤ 1
    · rw [if_pos hlast]
      refine ⟨nofun, fun h => ?_⟩
      rcases h with ⟨hout, -⟩ | ⟨-, -, hops, -⟩
      · exact absurd hin hout
      · omega
    · rw [if_neg hlast]
      refine ⟨fun h => .inr ⟨hin.1, hin.2, by omega, (Option.some.inj h).symm⟩, fun h => ?_⟩
      rcases h with ⟨hout, -⟩ | ⟨-, -, -, hd⟩
      · exact absurd hin hout
      · rw [hd]
  · rw [if_neg hin]
    refine ⟨fun h => .inl ⟨hin, (Option.some.inj h).symm⟩, fun h => ?_⟩
    rcases h with ⟨-, hd⟩ | ⟨hlow, hhigh, -⟩
    · rw [hd]
    · exact absurd ⟨hlow, hhigh⟩ hin

/-! ### What a request leaves -/

theorem find_request (c : Storage) (i pid : Nat) : (c.request i).find pid = c.find pid := by
  rw [request_eq]
  rfl

theorem find_table {d : Storage} (h : d.table = c.table) (pid : Nat) : d.find pid = c.find pid := by
  unfold Storage.find
  rw [h]

end Storage

/-! ### The tracks of a record (R26, R42) -/

theorem ReelTracks.mem_present (r : ReelTracks) (k : TrackKind) (t : Track) : (k, t) ∈ r.present ↔ r.get k = some t := by
  unfold ReelTracks.present
  cases k <;> simp [ReelTracks.get, eq_comm]

theorem PackageRecord.complete_iff (p : PackageRecord) :
    p.complete = true ↔ ∀ reel k t, p.track reel k = some t → t.received = [⟨0, t.units⟩] := by
  have hcomplete : ∀ t : Track, t.complete = true ↔ t.received = [⟨0, t.units⟩] := fun t => beq_iff_eq
  unfold PackageRecord.complete
  rw [List.all_eq_true]
  refine ⟨fun h reel k t htrack => ?_, fun h r hr => List.all_eq_true.mpr fun kt hkt => ?_⟩
  · unfold PackageRecord.track at htrack
    cases hreel : p.reels[reel]? with
    | none =>
      rw [hreel] at htrack
      exact nomatch htrack
    | some r =>
      rw [hreel] at htrack
      have hall := List.all_eq_true.mp (h r (List.mem_of_getElem? hreel)) (k, t) ((r.mem_present k t).mpr htrack)
      exact (hcomplete t).mp hall
  · obtain ⟨reel, hreel⟩ := List.mem_iff_getElem?.mp hr
    refine (hcomplete kt.2).mpr (h reel kt.1 kt.2 ?_)
    unfold PackageRecord.track
    rw [hreel]
    exact (r.mem_present kt.1 kt.2).mp hkt

/-- The registrations of lanes on a track withdrawn (R46). -/
def Track.awoken (lanes : List LaneId) (t : Track) : Track := { t with stalled := t.stalled.filter fun l => !(lanes.contains l) }

/-- Lanes woken on every track of a reel (R46). -/
def PackageRecord.awoken (p : PackageRecord) (reel : Nat) (lanes : List LaneId) : PackageRecord :=
  { p with reels := modifyAt (ReelTracks.mapAll (Track.awoken lanes)) reel p.reels }

theorem PackageRecord.track_awoken (p : PackageRecord) (reel : Nat) (lanes : List LaneId) (k : TrackKind) :
    (p.awoken reel lanes).track reel k = (p.track reel k).map (Track.awoken lanes) := by
  unfold PackageRecord.track PackageRecord.awoken
  dsimp only
  rw [modifyAt_getElem?, if_pos rfl]
  cases p.reels[reel]? with
  | none => rfl
  | some r => cases k <;> rfl

/-- A taken chunk's units on its track (R35). -/
def Track.taken (c : ChunkId) (t : Track) : Track := { t.landed c with received := mergeSpan t.received c.span }

/-- A fetcher that asks again, if it is STALLED. -/
def Fetcher.asked (f : Fetcher) : Fetcher := if f.state = .stalled then { f with state := .running } else f

/-- A lane whose fetcher asks again. -/
def Lane.asked (n : Lane) : Lane := { n with pl := { n.pl with fetch := n.pl.fetch.asked } }

theorem Fetcher.asked_eq (f : Fetcher) : f.asked = { f with state := if f.state = .stalled then .running else f.state } := by
  unfold Fetcher.asked
  split <;> rfl

theorem Lane.asked_asked (n : Lane) : n.asked.asked = n.asked := by
  unfold Lane.asked
  dsimp only
  rw [Fetcher.asked_eq, Fetcher.asked_eq]
  by_cases h : n.pl.fetch.state = .stalled <;> simp [h]

namespace State

variable {s u : State} {l : LaneId} {pid i : Nat} {e : TableEntry}

/-! ### The lanes woken (R46) -/


/-- Lanes asked again, one after another. -/
def askAgain (s : State) (lanes : List LaneId) : State := lanes.foldl (fun s l => s.modFetch l Fetcher.asked) s

theorem askAgain_lane (lanes : List LaneId) (s : State) (l : LaneId) :
    (s.askAgain lanes).lane l = if l ∈ lanes then (s.lane l).asked else s.lane l := by
  unfold State.askAgain
  induction lanes generalizing s with
  | nil => exact (if_neg List.not_mem_nil).symm
  | cons k rest ih =>
    rw [List.foldl_cons, ih]
    by_cases hk : l = k
    · subst hk
      have hown : (s.modFetch l Fetcher.asked).lane l = (s.lane l).asked := lane_modPl_same s l _
      rw [hown, Lane.asked_asked, ite_self, if_pos List.mem_cons_self]
    · have hsame : (s.modFetch k Fetcher.asked).lane l = s.lane l := lane_modPl_ne s _ hk
      have hmem : l ∈ k :: rest ↔ l ∈ rest := by simp [hk]
      rw [hsame]
      simp only [hmem]

theorem askAgain_same (lanes : List LaneId) (s : State) : s.askAgain lanes = { s with lanes := (s.askAgain lanes).lanes } := by
  unfold State.askAgain
  induction lanes generalizing s with
  | nil => rfl
  | cons k rest ih =>
    rw [List.foldl_cons, ih]
    rfl

theorem wake_eq (s : State) (pid reel : Nat) (lanes : List LaneId) : s.wake pid reel lanes
    = ({ s with stc := s.stc.modRecord pid fun r => r.awoken reel lanes } : State).askAgain lanes := rfl

/-! ### The checkpoint and the completion (R42, R43) -/

theorem checkpoint_due (hfind : s.stc.find pid = some (i, e)) (h : 63 ≤ e.record.takenSince) : s.checkpoint pid
    = { s with stc := (s.stc.modRecord pid fun r => { r with takenSince := 0 }).request i } := by
  unfold State.checkpoint
  rw [hfind]
  exact if_pos (by omega)

theorem checkpoint_early (hfind : s.stc.find pid = some (i, e)) (h : e.record.takenSince < 63) : s.checkpoint pid
    = { s with stc := s.stc.modRecord pid fun r => { r with takenSince := r.takenSince + 1 } } := by
  unfold State.checkpoint
  rw [hfind]
  exact if_neg (by omega)

theorem testComplete_done (hfind : s.stc.find pid = some (i, e)) (hfilling : e.window.state = .filling)
    (hcomplete : e.record.complete = true) : s.testComplete pid = ({ s with
      stc := (s.stc.modWindow pid fun w => { w with state := .complete }).request i } : State).raise srcIngestDone := by
  unfold State.testComplete
  rw [hfind]
  exact if_pos ⟨hfilling, hcomplete⟩

theorem testComplete_rests (hfind : s.stc.find pid = some (i, e))
    (h : e.window.state ≠ .filling ∨ e.record.complete = false) : s.testComplete pid = s := by
  unfold State.testComplete
  rw [hfind]
  refine if_neg fun hboth => ?_
  rcases h with h | h
  · exact h hboth.1
  · rw [h] at hboth
    exact Bool.false_ne_true hboth.2

/-! ### A chunk taken (R35) -/

variable {c : ChunkId} {k : TrackKind} {t : Track}

/-- The record behind a chunk taken, up to the checkpoint. -/
def takenRecord (r : PackageRecord) (c : ChunkId) (k : TrackKind) (lanes : List LaneId) : PackageRecord :=
  (r.modTrack c.reel k (Track.taken c)).awoken c.reel lanes

/-- A chunk taken, up to the checkpoint: its units, its verdict and the lanes woken (R35, R46). -/
def landedChunk (s : State) (c : ChunkId) (k : TrackKind) (lanes : List LaneId) : State :=
  ({ s with
      stc := (s.stc.modRecord c.packageId fun r => r.modTrack c.reel k (Track.taken c)).modRecord c.packageId fun r =>
        r.awoken c.reel lanes
      out := s.out ++ [.verdict c .taken false]
      pka := { s.pka with outstanding := s.pka.outstanding - 1 } } : State).askAgain lanes

theorem chunkTaken_eq (hfind : s.stc.find c.packageId = some (i, e)) (htrack : e.record.track c.reel k = some t) :
    s.chunkTaken c k = ((s.landedChunk c k t.stalled).checkpoint c.packageId).testComplete c.packageId := by
  have hfound : (s.stc.modRecord c.packageId fun r => r.modTrack c.reel k (Track.taken c)).find c.packageId
      = some (i, { e with record := e.record.modTrack c.reel k (Track.taken c) }) := by
    rw [Storage.find_modRecord, hfind]
    rfl
  have hstalled : (((e.record.modTrack c.reel k (Track.taken c)).track c.reel k).map Track.stalled).getD [] = t.stalled := by
    rw [PackageRecord.track_modTrack, if_pos rfl, htrack]
    rfl
  have hwaiting : s.chunkTaken c k = ((s.landedChunk c k (match (s.stc.modRecord c.packageId fun r =>
      r.modTrack c.reel k (Track.taken c)).find c.packageId with
        | none => []
        | some (_, e) => ((e.record.track c.reel k).map Track.stalled).getD [])).checkpoint c.packageId).testComplete
          c.packageId := rfl
  rw [hwaiting, hfound]
  dsimp only
  rw [hstalled]

theorem landedChunk_stc (s : State) (c : ChunkId) (k : TrackKind) (lanes : List LaneId) :
    (s.landedChunk c k lanes).stc = (s.stc.modRecord c.packageId fun r =>
      r.modTrack c.reel k (Track.taken c)).modRecord c.packageId fun r => r.awoken c.reel lanes := by
  unfold State.landedChunk
  rw [askAgain_same]

theorem landedChunk_find (lanes : List LaneId) (hfind : s.stc.find c.packageId = some (i, e)) :
    (s.landedChunk c k lanes).stc.find c.packageId = some (i, { e with record := takenRecord e.record c k lanes }) := by
  rw [landedChunk_stc, Storage.find_modRecord, Storage.find_modRecord, hfind]
  rfl

/-- What of a landed chunk no later part changes. -/
structure Landed (s : State) (c : ChunkId) (lanes : List LaneId) (u : State) : Prop where
  out : u.out = s.out ++ [.verdict c .taken false]
  outstanding : u.pka.outstanding = s.pka.outstanding - 1
  lane : ∀ l, u.lane l = if l ∈ lanes then (s.lane l).asked else s.lane l

theorem Landed.landedChunk (s : State) (c : ChunkId) (k : TrackKind) (lanes : List LaneId) :
    s.Landed c lanes (s.landedChunk c k lanes) := by
  refine ⟨?_, ?_, fun l => ?_⟩
  · unfold State.landedChunk
    rw [askAgain_same]
  · unfold State.landedChunk
    rw [askAgain_same]
  · exact askAgain_lane lanes _ l

/-- The record behind the checkpoint (R43). -/
def countedRecord (r : PackageRecord) : PackageRecord :=
  { r with takenSince := if 63 ≤ r.takenSince then 0 else r.takenSince + 1 }

/-- The checkpoint behind a landed chunk. -/
theorem checkpoint_spec (hfind : u.stc.find pid = some (i, e)) :
    (u.checkpoint pid).stc.find pid = some (i, { e with record := countedRecord e.record })
      ∧ (u.checkpoint pid).stc.status = u.stc.status
      ∧ (63 ≤ e.record.takenSince → u.stc.status ≠ some .unavailable → ∃ q ∈ (u.checkpoint pid).stc.queue, q.slot = i)
      ∧ (e.record.takenSince < 63 → (u.checkpoint pid).stc.queue = u.stc.queue)
      ∧ u.checkpoint pid = { u with stc := (u.checkpoint pid).stc } := by
  unfold countedRecord
  by_cases hdue : 63 ≤ e.record.takenSince
  · rw [checkpoint_due hfind hdue, if_pos hdue]
    refine ⟨?_, ?_, fun _ hstatus => ?_, fun hearly => absurd hdue (by omega), rfl⟩
    · dsimp only
      rw [Storage.find_request, Storage.find_modRecord, hfind]
      rfl
    · dsimp only
      rw [Storage.request_eq]
      rfl
    · exact Storage.request_queued i hstatus
  · rw [checkpoint_early hfind (by omega), if_neg hdue]
    refine ⟨?_, rfl, fun hlate => absurd hlate hdue, fun _ => rfl, rfl⟩
    dsimp only
    rw [Storage.find_modRecord, hfind]
    rfl

/-- The completion test behind a landed chunk (R42). -/
theorem testComplete_spec (hfind : u.stc.find pid = some (i, e)) :
    (e.window.state = .filling → e.record.complete = true →
      (u.testComplete pid).stc.find pid = some (i, { e with window := { e.window with state := .complete } })
        ∧ (u.testComplete pid).ntu.raised.getLsbD srcIngestDone = true
        ∧ (u.stc.status ≠ some .unavailable → ∃ q ∈ (u.testComplete pid).stc.queue, q.slot = i))
    ∧ (e.window.state ≠ .filling ∨ e.record.complete = false → u.testComplete pid = u)
    ∧ u.testComplete pid = { u with stc := (u.testComplete pid).stc, ntu := (u.testComplete pid).ntu } := by
  refine ⟨fun hfilling hcomplete => ?_, testComplete_rests hfind, ?_⟩
  · rw [testComplete_done hfind hfilling hcomplete]
    refine ⟨?_, raise_raised _ (by decide), fun hstatus => Storage.request_queued i hstatus⟩
    have hfound : ((u.stc.modWindow pid fun w => { w with state := .complete }).request i).find pid
        = some (i, { e with window := { e.window with state := .complete } }) := by
      rw [Storage.find_request, Storage.find_modWindow _ _ (by exact fun _ => rfl), hfind]
      rfl
    exact hfound
  · by_cases h : e.window.state = .filling ∧ e.record.complete = true
    · rw [testComplete_done hfind h.1 h.2]
      rfl
    · rw [testComplete_rests hfind (by
        rcases not_and_or.mp h with h | h
        · exact .inl h
        · exact .inr (Bool.eq_false_iff.mpr h))]

/-- The request of the completion test loses no request that stands. -/
theorem testComplete_queue (hfind : u.stc.find pid = some (i, e)) {q : SlotRequest} (hq : q ∈ u.stc.queue) :
    q ∈ (u.testComplete pid).stc.queue := by
  by_cases h : e.window.state = .filling ∧ e.record.complete = true
  · rw [testComplete_done hfind h.1 h.2]
    exact Storage.request_queue _ i hq
  · rw [testComplete_rests hfind (by
      rcases not_and_or.mp h with h | h
      · exact .inl h
      · exact .inr (Bool.eq_false_iff.mpr h))]
    exact hq

/-- A track of the record behind a chunk taken. -/
theorem takenRecord_track (r : PackageRecord) (c : ChunkId) (k k2 : TrackKind) (lanes : List LaneId) {t2 : Track}
    (h : r.track c.reel k2 = some t2) : (countedRecord (takenRecord r c k lanes)).track c.reel k2
      = some (Track.awoken lanes (if k2 = k then Track.taken c t2 else t2)) := by
  have htrack : (takenRecord r c k lanes).track c.reel k2 = some (Track.awoken lanes (if k2 = k then Track.taken c t2 else t2)) := by
    unfold takenRecord
    rw [PackageRecord.track_awoken, PackageRecord.track_modTrack, h]
    split <;> rfl
  exact htrack

end State

end Sys2Proof.Machine
end

section
/-! PROOF. O26: chunk and catalogue writes return (R1, R9, R11, R17, R18, R22, R33, R35, R36, R42, R43, R44, R46, R50). -/

namespace Sys2Proof.Machine

open Sys2Proof

namespace State

variable {s u : State} {i : Nat} {e : TableEntry} {c : ChunkId} {k : TrackKind} {t : Track}

/-! ### A chunk taken, whole (R35, R42, R43, R46) -/

/-- The state behind a chunk taken and its checkpoint. -/
def checkedChunk (s : State) (c : ChunkId) (k : TrackKind) (lanes : List LaneId) : State :=
  (s.landedChunk c k lanes).checkpoint c.packageId

/-- The record behind a chunk taken and its checkpoint. -/
def checkedRecord (r : PackageRecord) (c : ChunkId) (k : TrackKind) (lanes : List LaneId) : PackageRecord :=
  countedRecord (takenRecord r c k lanes)

theorem landedChunk_ntu (s : State) (c : ChunkId) (k : TrackKind) (lanes : List LaneId) :
    (s.landedChunk c k lanes).ntu = s.ntu := by
  unfold State.landedChunk
  rw [askAgain_same]

theorem checkedChunk_spec (lanes : List LaneId) (hfind : s.stc.find c.packageId = some (i, e)) :
    (s.checkedChunk c k lanes).stc.find c.packageId = some (i, { e with record := checkedRecord e.record c k lanes })
      ∧ (s.checkedChunk c k lanes).stc.status = s.stc.status
      ∧ (63 ≤ e.record.takenSince → s.stc.status ≠ some .unavailable →
        ∃ q ∈ (s.checkedChunk c k lanes).stc.queue, q.slot = i)
      ∧ (e.record.takenSince < 63 → (s.checkedChunk c k lanes).stc.queue = s.stc.queue)
      ∧ (s.checkedChunk c k lanes).ntu = s.ntu ∧ s.Landed c lanes (s.checkedChunk c k lanes) := by
  obtain ⟨hfound, hstatus, hdue, hearly, hsame⟩ := checkpoint_spec (landedChunk_find (k := k) lanes hfind)
  have hstc := s.landedChunk_stc c k lanes
  have hold : (s.landedChunk c k lanes).stc.status = s.stc.status := by
    rw [hstc]
    rfl
  have hqueue : (s.landedChunk c k lanes).stc.queue = s.stc.queue := by
    rw [hstc]
    rfl
  have hland := Landed.landedChunk s c k lanes
  refine ⟨hfound, hstatus.trans hold, fun h hok => hdue h (hold ▸ hok), fun h => (hearly h).trans hqueue, ?_, ?_⟩
  · unfold State.checkedChunk
    rw [hsame]
    exact s.landedChunk_ntu c k lanes
  · unfold State.checkedChunk
    rw [hsame]
    exact ⟨hland.out, hland.outstanding, hland.lane⟩

/-- The entry behind a chunk taken: its record, and its window COMPLETE or as it was. -/
theorem chunkTaken_spec (hfind : s.stc.find c.packageId = some (i, e)) (htrack : e.record.track c.reel k = some t) :
    ∃ e', (s.chunkTaken c k).stc.find c.packageId = some (i, e') ∧ e'.record = checkedRecord e.record c k t.stalled
      ∧ s.Landed c t.stalled (s.chunkTaken c k)
      ∧ (63 ≤ e.record.takenSince ∨ e.window.state = .filling ∧ e'.record.complete = true →
        s.stc.status ≠ some .unavailable → ∃ q ∈ (s.chunkTaken c k).stc.queue, q.slot = i)
      ∧ (e.record.takenSince < 63 → e.window.state ≠ .filling ∨ e'.record.complete = false →
        (s.chunkTaken c k).stc.queue = s.stc.queue)
      ∧ (e.window.state = .filling → e'.record.complete = true → e'.window = { e.window with state := .complete }
          ∧ (s.chunkTaken c k).ntu.raised.getLsbD srcIngestDone = true)
      ∧ (e.window.state ≠ .filling ∨ e'.record.complete = false →
        e'.window = e.window ∧ (s.chunkTaken c k).ntu = s.ntu) := by
  have htaken : s.chunkTaken c k = (s.checkedChunk c k t.stalled).testComplete c.packageId := chunkTaken_eq hfind htrack
  obtain ⟨hfound, hstatus, hdue, hearly, hntu, hland⟩ := checkedChunk_spec (k := k) t.stalled hfind
  obtain ⟨hdone, hrests, hsame⟩ := testComplete_spec hfound
  have hland' : s.Landed c t.stalled (s.chunkTaken c k) := by
    rw [htaken, hsame]
    exact ⟨hland.out, hland.outstanding, hland.lane⟩
  by_cases hcomplete : e.window.state = .filling ∧ (checkedRecord e.record c k t.stalled).complete = true
  · obtain ⟨hdoneFind, hraised, hqueued⟩ := hdone hcomplete.1 hcomplete.2
    have hnot : ¬ (e.window.state ≠ .filling ∨ (checkedRecord e.record c k t.stalled).complete = false) := fun h => by
      rcases h with h | h
      · exact h hcomplete.1
      · exact absurd (h.symm.trans hcomplete.2) Bool.false_ne_true
    rw [← htaken] at hdoneFind hraised hqueued
    exact ⟨_, hdoneFind, rfl, hland', fun _ hok => hqueued (hstatus ▸ hok), fun _ h => absurd h hnot,
      fun _ _ => ⟨rfl, hraised⟩, fun h => absurd h hnot⟩
  · have hrest : s.chunkTaken c k = s.checkedChunk c k t.stalled := by
      rw [htaken]
      refine hrests ?_
      rcases not_and_or.mp hcomplete with h | h
      · exact .inl h
      · exact .inr (Bool.eq_false_iff.mpr h)
    rw [hrest] at hland' ⊢
    refine ⟨_, hfound, rfl, hland', fun h hok => ?_, fun h _ => hearly h, fun h hc => absurd ⟨h, hc⟩ hcomplete,
      fun _ => ⟨rfl, hntu⟩⟩
    rcases h with h | h
    · exact hdue h hok
    · exact absurd h hcomplete

/-- The lane behind a chunk taken, by its fetcher. -/
theorem Landed.fetch {lanes : List LaneId} (h : s.Landed c lanes u) (l : LaneId) :
    u.lane l = { s.lane l with pl := { (s.lane l).pl with fetch := { (s.lane l).pl.fetch with
      state := (if l ∈ lanes ∧ (s.lane l).pl.fetch.state = .stalled then .running
        else (s.lane l).pl.fetch.state) } } } := by
  rw [h.lane l]
  by_cases hl : l ∈ lanes
  · rw [if_pos hl]
    simp only [hl, true_and]
    unfold Lane.asked
    rw [Fetcher.asked_eq]
  · rw [if_neg hl, if_neg fun hboth => hl hboth.1]

/-- What a taken chunk leaves (O26). -/
theorem chunkTaken_leaves (hfind : s.stc.find c.packageId = some (i, e)) (htrack : e.record.track c.reel k = some t) :
    ∃ e' t', (s.chunkTaken c k).stc.find c.packageId = some (i, e')
      ∧ e'.record.track c.reel k = some t' ∧ t'.received = mergeSpan t.received c.span
      ∧ t'.inFlight = t.inFlight.filter (fun r => r != c.span)
      ∧ (s.chunkTaken c k).out = s.out ++ [.verdict c .taken false]
      ∧ (s.chunkTaken c k).pka.outstanding = s.pka.outstanding - 1
      ∧ (∀ k2 t2, e.record.track c.reel k2 = some t2 → ∃ t2', e'.record.track c.reel k2 = some t2'
        ∧ t2'.stalled = t2.stalled.filter (fun l => !t.stalled.contains l))
      ∧ (∀ l, (s.chunkTaken c k).lane l = { s.lane l with pl := { (s.lane l).pl with
          fetch := { (s.lane l).pl.fetch with
            state := (if l ∈ t.stalled ∧ (s.lane l).pl.fetch.state = .stalled then .running
              else (s.lane l).pl.fetch.state) } } })
      ∧ e'.record.takenSince = (if 63 ≤ e.record.takenSince then 0 else e.record.takenSince + 1)
      ∧ (63 ≤ e.record.takenSince ∨ e.window.state = .filling ∧ e'.record.complete = true →
        s.stc.status ≠ some .unavailable → ∃ q ∈ (s.chunkTaken c k).stc.queue, q.slot = i)
      ∧ (e.record.takenSince < 63 → e.window.state ≠ .filling ∨ e'.record.complete = false →
        (s.chunkTaken c k).stc.queue = s.stc.queue)
      ∧ (e.window.state = .filling → e'.record.complete = true →
        e'.window = { e.window with state := .complete }
          ∧ (s.chunkTaken c k).ntu.raised.getLsbD srcIngestDone = true)
      ∧ (e.window.state ≠ .filling ∨ e'.record.complete = false →
        e'.window = e.window ∧ (s.chunkTaken c k).ntu = s.ntu) := by
  obtain ⟨e', hfound, hrecord, hland, hqueued, hkept, hdone, hrests⟩ := chunkTaken_spec hfind htrack
  have htracks : ∀ k2 t2, e.record.track c.reel k2 = some t2 → e'.record.track c.reel k2
      = some (Track.awoken t.stalled (if k2 = k then Track.taken c t2 else t2)) := fun k2 t2 h2 => by
    rw [hrecord]
    exact takenRecord_track e.record c k k2 t.stalled h2
  have hown := htracks k t htrack
  rw [if_pos rfl] at hown
  refine ⟨e', Track.awoken t.stalled (Track.taken c t), hfound, hown, rfl, rfl, hland.out, hland.outstanding, fun k2 t2 h2 => ?_, hland.fetch, ?_,
    hqueued, hkept, hdone, hrests⟩
  · refine ⟨_, htracks k2 t2 h2, ?_⟩
    split <;> rfl
  · rw [hrecord]
    rfl

/-! ### A chunk faulted (R36) -/

/-- What a faulted chunk leaves (O26). -/
theorem chunkFaulted_leaves (hfind : s.stc.find c.packageId = some (i, e))
    (htrack : e.record.track c.reel k = some t) :
    ∃ e' t', (s.chunkFaulted c k).stc.find c.packageId = some (i, e')
      ∧ e'.record.track c.reel k = some t' ∧ t'.received = t.received
      ∧ t'.inFlight = t.inFlight.filter (fun r => r != c.span)
      ∧ e'.record.writeFaults = satInc top16 e.record.writeFaults
      ∧ (s.chunkFaulted c k).out = s.out ++ [.verdict c .fault false]
      ∧ (s.chunkFaulted c k).pka.outstanding = s.pka.outstanding - 1
      ∧ (s.chunkFaulted c k).ntu.raised.getLsbD srcIngestFault = true := by
  have hfound : (s.chunkFaulted c k).stc.find c.packageId = some (i, { e with record :=
      { e.record.modTrack c.reel k (Track.landed c) with writeFaults := satInc top16 e.record.writeFaults } }) := by
    have hstc : (s.chunkFaulted c k).stc = s.stc.modRecord c.packageId (fun r =>
      { (r.modTrack c.reel k (Track.landed c)) with writeFaults := satInc top16 r.writeFaults }) := rfl
    rw [hstc, Storage.find_modRecord, hfind]
    rfl
  have hown : (e.record.modTrack c.reel k (Track.landed c)).track c.reel k = some (t.landed c) := by
    rw [PackageRecord.track_modTrack, if_pos rfl, htrack]
    rfl
  exact ⟨_, _, hfound, hown, rfl, rfl, rfl, rfl, rfl, raise_raised _ (by decide)⟩

/-! ### The returns of writes (R11, R17, R33) -/

theorem withOperation_returns {op : Nat} {o : Operation} {f : Operation → State → Option State} {v : State}
    (hpin : s.pin = false) (hflight : s.stc.flight[op]? = some o)
    (hf : f o { s with stc := s.stc.returned op o } = some v) : withOperation s op f = .next v.settle := by
  have hf' : f o (s.modStc fun c => c.returned op o) = some v := hf
  unfold withOperation
  rw [arriving_eq _ hpin, hflight]
  dsimp only
  rw [hf']

theorem discarding_iff : s.discarding = true ↔ s.stc.load = .awaitingPort := beq_iff_eq

/-- A returned operation leaves the load's state. -/
theorem returned_load (x : Storage) (op : Nat) (o : Operation) : (x.returned op o).load = x.load := by
  unfold Storage.returned
  split <;> rfl

theorem discarding_returned (op : Nat) (o : Operation) :
    ({ s with stc := s.stc.returned op o } : State).discarding = s.discarding :=
  congrArg (· == _) (returned_load _ op o)

/-- A chunk write's return that is not discarded (O26). -/
theorem chunkWriteReturn_taken {op slot first count : Nat} {ok : Bool} (hpin : s.pin = false)
    (hload : s.stc.load ≠ .awaitingPort) (hflight : s.stc.flight[op]? = some ⟨.chunkWrite slot, first, count⟩) :
    exec (.chunkWriteReturn op ok) s = .next ((({ s with
      stc := s.stc.returned op ⟨.chunkWrite slot, first, count⟩ } : State).countFault first (!ok)).chunkReturn slot ok).settle := by
  have hexec : exec (.chunkWriteReturn op ok) s = execChunkWriteReturn op ok s := rfl
  rw [hexec]
  unfold execChunkWriteReturn
  refine withOperation_returns hpin hflight (if_neg fun h => hload ?_)
  rw [discarding_returned] at h
  exact discarding_iff.mp h

/-- A chunk write's return that is discarded (R18, R33, R50). -/
theorem chunkWriteReturn_discarded {op slot first count : Nat} {ok : Bool} (hpin : s.pin = false)
    (hload : s.stc.load = .awaitingPort) (hflight : s.stc.flight[op]? = some ⟨.chunkWrite slot, first, count⟩) :
    exec (.chunkWriteReturn op ok) s = .next (({ s with
      stc := s.stc.returned op ⟨.chunkWrite slot, first, count⟩ } : State).modPka fun p => p.passOn slot).settle := by
  have hexec : exec (.chunkWriteReturn op ok) s = execChunkWriteReturn op ok s := rfl
  rw [hexec]
  unfold execChunkWriteReturn
  refine withOperation_returns hpin hflight (if_pos ?_)
  rw [discarding_returned]
  exact discarding_iff.mpr hload

/-- A catalogue write's return that needs nothing more (R17, R18). -/
theorem catalogueWriteReturn_rests {op slot first count : Nat} {retry ok : Bool} (hpin : s.pin = false)
    (h : s.stc.load = .awaitingPort ∨ ok = true)
    (hflight : s.stc.flight[op]? = some ⟨.slotWrite slot retry, first, count⟩) :
    exec (.catalogueWriteReturn op ok) s = .next (({ s with
      stc := s.stc.returned op ⟨.slotWrite slot retry, first, count⟩ } : State)).settle := by
  have hexec : exec (.catalogueWriteReturn op ok) s = execCatalogueWriteReturn op ok s := rfl
  rw [hexec]
  unfold execCatalogueWriteReturn
  refine withOperation_returns hpin hflight (if_pos ?_)
  rw [discarding_returned, discarding_iff]
  exact h

/-- A catalogue write's return with a fault (R17). -/
theorem catalogueWriteReturn_fault {op slot first count : Nat} {retry : Bool} (hpin : s.pin = false)
    (hload : s.stc.load ≠ .awaitingPort)
    (hflight : s.stc.flight[op]? = some ⟨.slotWrite slot retry, first, count⟩) :
    exec (.catalogueWriteReturn op false) s = .next (({ s with
      stc := s.stc.returned op ⟨.slotWrite slot retry, first, count⟩ } : State).slotWriteFault slot retry).settle := by
  have hexec : exec (.catalogueWriteReturn op false) s = execCatalogueWriteReturn op false s := rfl
  rw [hexec]
  unfold execCatalogueWriteReturn
  refine withOperation_returns hpin hflight (if_neg fun h => ?_)
  rw [discarding_returned, discarding_iff] at h
  rcases h with h | h
  · exact hload h
  · exact Bool.false_ne_true h

/-- What a chunk write's return does by what its slot holds (R35, R36, R44). -/
theorem chunkReturn_eq {slot : Nat} {payload : List Byte} {orphan ok : Bool}
    (hslot : u.pka.staging[slot]? = some (.writing c payload orphan)) (hkind : trackKind c.track = some k) :
    u.chunkReturn slot ok = (if orphan then u.orphanReturn c ok
      else if ok then u.chunkTaken c k else u.chunkFaulted c k).modPka fun p => p.passOn slot := by
  unfold State.chunkReturn
  rw [hslot]
  dsimp only
  rw [hkind]
  cases orphan <;> rfl

/-! ### A catalogue write's fault (R17, R22) -/

/-- What a catalogue write's fault leaves (O26). -/
theorem slotWriteFault_spec (s : State) (slot : Nat) (retry : Bool) :
    (s.slotWriteFault slot retry).stc.faults = satInc top16 s.stc.faults
      ∧ (s.slotWriteFault slot retry).ntu.raised.getLsbD srcStorageFault = true
      ∧ (s.slotWriteFault slot retry).stc.table = s.stc.table
      ∧ (retry = true → (s.slotWriteFault slot retry).stc.queue = s.stc.queue)
      ∧ (retry = false → (∀ q ∈ s.stc.queue, q.slot ≠ slot) →
        (s.slotWriteFault slot retry).stc.queue = s.stc.queue ++ [⟨slot, true⟩])
      ∧ (retry = false → (∃ q ∈ s.stc.queue, q.slot = slot) →
        (s.slotWriteFault slot retry).stc.queue.map SlotRequest.slot = s.stc.queue.map SlotRequest.slot
          ∧ ∀ q ∈ (s.slotWriteFault slot retry).stc.queue, q.slot = slot → q.retry = true) := by
  have hraised : s.catalogueFault.ntu.raised.getLsbD srcStorageFault = true := raise_raised _ (by decide)
  cases retry with
  | true => exact ⟨rfl, hraised, rfl, fun _ => rfl, nofun, nofun⟩
  | false =>
    have hfault : s.slotWriteFault slot false = s.catalogueFault.modStc fun c => c.requeue slot := rfl
    have hstc : (s.slotWriteFault slot false).stc = s.stc.countFault.requeue slot := rfl
    have hqueued : (∃ q ∈ s.stc.queue, q.slot = slot) ↔ s.stc.queue.any (fun q => q.slot == slot) = true := by
      simp only [List.any_eq_true, beq_iff_eq]
    refine ⟨?_, by rw [hfault]; exact hraised, ?_, nofun, fun _ hnone => ?_, fun _ hsome => ?_⟩
    · rw [hstc, Storage.requeue_eq]
      rfl
    · rw [hstc, Storage.requeue_eq]
      rfl
    · rw [hstc]
      refine congrArg Storage.queue (if_neg fun h => ?_)
      obtain ⟨q, hq, hslot⟩ := hqueued.mpr h
      exact hnone q hq hslot
    · have hmap : (s.slotWriteFault slot false).stc.queue
          = s.stc.queue.map fun q => if q.slot = slot then { q with retry := true } else q := by
        rw [hstc]
        exact congrArg Storage.queue (if_pos (hqueued.mp hsome))
      rw [hmap, List.map_map]
      refine ⟨List.map_congr_left fun q _ => ?_, fun q hq hslot => ?_⟩
      · dsimp only [Function.comp_apply]
        split <;> rfl
      · obtain ⟨q0, -, rfl⟩ := List.mem_map.mp hq
        by_cases h0 : q0.slot = slot
        · rw [if_pos h0]
        · rw [if_neg h0] at hslot
          exact absurd hslot h0

end State

/-! ### The faults of a window (R22) -/

theorem Storage.countFaultAt_spec (x : Storage) (first : Nat) : (x.countFaultAt first).faults = satInc top16 x.faults
    ∧ ∀ (j : Nat) (e : TableEntry), x.table[j]? = some (some e) → ∃ e',
      (x.countFaultAt first).table[j]? = some (some e') ∧ e'.record = e.record
        ∧ e'.window = { e.window with faults :=
            if e.window.base ≤ first ∧ first ≤ e.window.limit then satInc top16 e.window.faults
            else e.window.faults } := by
  refine ⟨rfl, fun j e h => ?_⟩
  have hold : x.countFault.table[j]? = some (some e) := h
  refine ⟨_, Storage.modAt_some hold, ?_, ?_⟩ <;> split <;> rfl

/-- The port and the windows behind an operation's return (O26). -/
theorem Storage.returned_spec (x : Storage) (op : Nat) (o : Operation) : x.returned op o
      = { x with flight := x.flight.take op ++ x.flight.drop (op + 1), table := (x.returned op o).table,
                 draining := (x.returned op o).draining }
    ∧ (∀ slot retry, o.kind = .slotWrite slot retry →
      (x.returned op o).table = x.table ∧ (x.returned op o).draining = x.draining)
    ∧ ((∀ slot retry, o.kind ≠ .slotWrite slot retry) → x.Counts (x.returned op o) o.first (fun n => n - 1)
      ∧ ∀ d, d ∈ (x.returned op o).draining ↔ ∃ d0 ∈ x.draining,
          (¬ (d0.first ≤ o.first ∧ o.first ≤ d0.last) ∧ d = d0)
            ∨ d0.first ≤ o.first ∧ o.first ≤ d0.last ∧ 1 < d0.ops ∧ d = { d0 with ops := d0.ops - 1 }) := by
  refine ⟨?_, fun slot retry h => ?_, fun h => ?_⟩
  · rw [← removeAt_eq]
    by_cases hslot : o.isSlotWrite
    · obtain ⟨slot, retry, hkind⟩ := hslot
      rw [Storage.returned_slotWrite hkind]
    · rw [Storage.returned_other hslot]
      rfl
  · rw [Storage.returned_slotWrite h]
    exact ⟨rfl, rfl⟩
  · rw [Storage.returned_other fun ⟨slot, retry, hkind⟩ => h slot retry hkind]
    refine ⟨?_, Storage.mem_drained o.first x.draining⟩
    have hcounts := Storage.counts_modAt ({ x with flight := removeAt op x.flight }) o.first (fun n => n - 1)
    exact hcounts

/-- Settles O26: a chunk write's return by what its slot holds and by its result, each chunk taken through its record, its
checkpoint and its completion test. -/
theorem writesReturned : Obligations.WritesReturned := by
  unfold Obligations.WritesReturned
  refine ⟨fun s op slot first count c payload k hpin hload hflight hkind => ⟨fun hslot => ⟨?_, ?_⟩, fun hslot => ⟨?_, ?_⟩⟩,
    fun s op slot first count retry ok hpin hload => ⟨State.chunkWriteReturn_discarded hpin hload,
      State.catalogueWriteReturn_rests hpin (.inl hload)⟩,
    fun s c k i e t hfind htrack => ⟨State.chunkTaken_leaves hfind htrack, State.chunkFaulted_leaves hfind htrack⟩,
    PackageRecord.complete_iff, ?_, fun s c v => ⟨rfl, rfl⟩, Storage.countFaultAt_spec,
    fun s op slot first count retry hpin hload hflight => ⟨?_, ?_⟩, State.slotWriteFault_spec⟩
  · rw [State.chunkWriteReturn_taken hpin hload hflight, State.chunkReturn_eq (k := k) (by exact hslot) hkind]
    rfl
  · rw [State.chunkWriteReturn_taken hpin hload hflight, State.chunkReturn_eq (k := k) (by exact hslot) hkind]
    rfl
  · rw [State.chunkWriteReturn_taken hpin hload hflight, State.chunkReturn_eq (k := k) (by exact hslot) hkind]
    rfl
  · rw [State.chunkWriteReturn_taken hpin hload hflight, State.chunkReturn_eq (k := k) (by exact hslot) hkind]
    rfl
  · rintro x y op o - rfl
    exact Storage.returned_spec x op o
  · rw [State.catalogueWriteReturn_rests hpin (.inr rfl) hflight, Storage.returned_slotWrite rfl]
  · rw [State.catalogueWriteReturn_fault hpin hload hflight, Storage.returned_slotWrite rfl]

end Sys2Proof.Machine
end

section
/-! PROOF. O28: lane and cue reads return (R18, R22, R89, R105, R148, R149). -/

namespace Sys2Proof.Machine

open Sys2Proof

/-! ### A cue read taken (R148, R149) -/

namespace CueEngine

variable {e : CueEngine} {b : BankId} {item reel index : Nat} {r : Returned}

/-- The engine behind a cue read's count, before its bank takes it. -/
def judged (e : CueEngine) (r : Returned) : CueEngine := { e with bad := if readFailed r then satInc top32 e.bad else e.bad }

theorem judged_bank (e : CueEngine) (r : Returned) (k : BankId) : (e.judged r).bank k = e.bank k := by cases k <;> rfl

theorem cueReturn_eq (e : CueEngine) (b : BankId) (item reel index : Nat) (r : Returned) :
    e.cueReturn b item reel index r = if (e.bank b).state = .loading ∧ (e.bank b).reel = some (item, reel) then
      ((e.judged r).modBank b (Bank.returned index r)).build b else e.judged r := by
  cases r with
  | data block => rfl
  | fault =>
    rw [← e.judged_bank .fault b]
    rfl

theorem cueReturn_waits (hstate : (e.bank b).state = .loading) (hreel : (e.bank b).reel = some (item, reel))
    (h : (e.bank b).awaiting - 1 ≠ 0) : e.cueReturn b item reel index r
      = (e.judged r).modBank b (Bank.returned index r) := by
  rw [cueReturn_eq, if_pos ⟨hstate, hreel⟩]
  unfold CueEngine.build
  rw [bank_modBank, judged_bank]
  exact if_neg fun hboth => h hboth.2

theorem cueReturn_last (hstate : (e.bank b).state = .loading) (hreel : (e.bank b).reel = some (item, reel))
    (h : (e.bank b).awaiting - 1 = 0) : e.cueReturn b item reel index r
      = { (((e.judged r).modBank b (Bank.returned index r)).modBank b fun k =>
          { k with state := .loaded, entries := (Bank.returned index r (e.bank b)).built, cursor := 0, records := [] }) with
        bad := satAdd top32 (e.judged r).bad ((Bank.returned index r (e.bank b)).records.length
          - (Bank.returned index r (e.bank b)).built.length) } := by
  have hbank : ((e.judged r).modBank b (Bank.returned index r)).bank b = Bank.returned index r (e.bank b) := by
    rw [bank_modBank, judged_bank]
  rw [cueReturn_eq, if_pos ⟨hstate, hreel⟩, build_eq (by rw [hbank]; exact hstate) (by rw [hbank]; exact h), hbank]
  cases b <;> rfl

theorem bank_bad (e : CueEngine) (n : Nat) (k : BankId) : ({ e with bad := n } : CueEngine).bank k = e.bank k := by
  cases k <;> rfl

theorem modBank_bad (e : CueEngine) (b : BankId) (g : Bank → Bank) : (e.modBank b g).bad = e.bad := by cases b <;> rfl

/-- The other bank, and the active slots, of a cue read's return. -/
theorem cueReturn_others (e : CueEngine) (b : BankId) (item reel index : Nat) (r : Returned) :
    (∀ k, k ≠ b → (e.cueReturn b item reel index r).bank k = e.bank k)
      ∧ (e.cueReturn b item reel index r).active = e.active := by
  by_cases h : (e.bank b).state = .loading ∧ (e.bank b).reel = some (item, reel)
  · by_cases hlast : (e.bank b).awaiting - 1 = 0
    · rw [cueReturn_last h.1 h.2 hlast]
      refine ⟨fun k hk => ?_, (modBank_active _ b _).trans (modBank_active _ b _)⟩
      rw [bank_bad, bank_modBank_ne _ hk, bank_modBank_ne _ hk, judged_bank]
    · rw [cueReturn_waits h.1 h.2 hlast]
      refine ⟨fun k hk => ?_, modBank_active _ b _⟩
      rw [bank_modBank_ne _ hk, judged_bank]
  · rw [cueReturn_eq, if_neg h]
    exact ⟨fun k _ => e.judged_bank r k, rfl⟩

/-- What a cue read's return leaves (O28). -/
theorem cueReturn_spec (e : CueEngine) (b : BankId) (item reel index : Nat) (r : Returned) (u : CueEngine)
    (recs : List (Nat × Option CueRecord)) (bad : Nat) (hu : u = e.cueReturn b item reel index r)
    (hbad : bad = (if readFailed r then satInc top32 e.bad else e.bad))
    (hrecs : recs = (Bank.returned index r (e.bank b)).records) :
    (¬ ((e.bank b).state = .loading ∧ (e.bank b).reel = some (item, reel)) → u = { e with bad := bad })
    ∧ ((e.bank b).state = .loading → (e.bank b).reel = some (item, reel) → 1 < (e.bank b).awaiting →
      u.bank b = { e.bank b with awaiting := (e.bank b).awaiting - 1, records := recs } ∧ u.bad = bad)
    ∧ ((e.bank b).state = .loading → (e.bank b).reel = some (item, reel) → (e.bank b).awaiting = 1 →
      (u.bank b).state = .loaded ∧ (u.bank b).cursor = 0 ∧ (u.bank b).reel = some (item, reel)
        ∧ (u.bank b).entries = ({ e.bank b with records := recs } : Bank).built
        ∧ u.bad = min top32 (bad + (recs.length - (u.bank b).entries.length)))
    ∧ (∀ k, k ≠ b → u.bank k = e.bank k) ∧ u.active = e.active := by
  subst hu hbad hrecs
  refine ⟨fun h => ?_, fun hstate hreel hmore => ?_, fun hstate hreel hlast => ?_, e.cueReturn_others b item reel index r⟩
  · rw [cueReturn_eq, if_neg h]
    rfl
  · rw [cueReturn_waits hstate hreel (by omega), bank_modBank, judged_bank, modBank_bad]
    exact ⟨rfl, rfl⟩
  · rw [cueReturn_last hstate hreel (by omega), bank_bad, bank_modBank, bank_modBank, judged_bank]
    exact ⟨rfl, rfl, hreel, rfl, rfl⟩

end CueEngine

/-! ### A lane read taken into its slot (R89) -/

/-- What a read leaves of its slot. -/
theorem BufSlot.returned_spec (b : BufSlot) (blocks : Nat) (sound : Bool) (r : Returned) (hreading : b.stage = .reading) :
    (b.returned blocks sound r).num = b.num ∧ (b.returned blocks sound r).item = b.item
      ∧ (b.returned blocks sound r).pos = b.pos ∧ (b.returned blocks sound r).awaiting = b.awaiting - 1
      ∧ (b.returned blocks sound r).stage = (if b.awaiting ≤ 1 then .ready else .reading)
      ∧ (r = .fault → (b.returned blocks sound r).faulted = true ∧ (b.returned blocks sound r).picture = b.picture
        ∧ (b.returned blocks sound r).sound = b.sound)
      ∧ (∀ bytes, r = .data bytes → sound = true → (b.returned blocks sound r).sound = bytes
        ∧ (b.returned blocks sound r).picture = b.picture ∧ (b.returned blocks sound r).faulted = b.faulted)
      ∧ (∀ bytes, r = .data bytes → sound = false → (b.returned blocks sound r).picture = bytes
        ∧ (b.returned blocks sound r).sound = b.sound
        ∧ ((b.returned blocks sound r).faulted = true ↔ b.faulted = true ∨ u32 bytes 0 = 0
          ∨ blocks * 4096 - 4 < u32 bytes 0)) := by
  cases r with
  | fault =>
    refine ⟨rfl, rfl, rfl, rfl, ?_, fun _ => ⟨rfl, rfl, rfl⟩, nofun, nofun⟩
    exact congrArg (fun g => if b.awaiting ≤ 1 then SlotStage.ready else g) hreading
  | data bytes =>
    have hstage : (if b.awaiting ≤ 1 then SlotStage.ready else b.stage) = (if b.awaiting ≤ 1 then .ready else .reading) :=
      congrArg (fun g => if b.awaiting ≤ 1 then SlotStage.ready else g) hreading
    cases sound with
    | true => exact ⟨rfl, rfl, rfl, rfl, hstage, nofun, fun _ h _ => ⟨Returned.data.inj h, rfl, rfl⟩, nofun⟩
    | false =>
      refine ⟨rfl, rfl, rfl, rfl, hstage, nofun, nofun, fun _ h _ => ?_⟩
      cases h
      refine ⟨rfl, rfl, ?_⟩
      have hfaulted : (b.returned blocks false (.data bytes)).faulted = (b.faulted || badLengthWord blocks bytes) := rfl
      rw [hfaulted]
      unfold badLengthWord
      simp only [Bool.or_eq_true, beq_iff_eq, decide_eq_true_eq]

namespace State

variable {s : State} {l : LaneId}

theorem slotSource_num {slot : Nat} {b : BufSlot} {i : Item} {e : TableEntry}
    (h : s.slotSource l slot = some (b, i, e)) : b.num = slot := by
  unfold State.slotSource at h
  dsimp only at h
  split at h
  · exact nomatch h
  · rename_i x hx
    split at h
    · exact nomatch h
    · split at h
      · exact nomatch h
      · obtain ⟨n, -, hfound⟩ := Option.map_eq_some_iff.mp h
        cases hfound
        have hnum := List.find?_some hx
        exact beq_iff_eq.mp hnum

/-- The lane behind a read taken. -/
theorem readInto_lane {slot item frame : Nat} {sound : Bool} {r : Returned} {b : BufSlot} {i : Item} {e : TableEntry}
    (hsource : s.slotSource l slot = some (b, i, e)) (hstage : b.stage = .reading) (hitem : b.item = item)
    (hframe : b.pos.frame = frame) :
    ((s.readInto l slot item frame sound r).lane l).pl.buffer = (s.lane l).pl.buffer.map (fun x =>
        if x.num = slot then x.returned e.record.decl.slotBlocks sound r else x)
      ∧ ((s.readInto l slot item frame sound r).lane l).pl.stats.readFaults
        = if readFaulted e.record.decl.slotBlocks sound r then satInc top32 (s.lane l).pl.stats.readFaults
          else (s.lane l).pl.stats.readFaults := by
  have hread : s.readInto l slot item frame sound r = if readFaulted e.record.decl.slotBlocks sound r then
      (s.modPl l fun p => { p with buffer := p.buffer.map (fun x =>
        if x.num = slot then x.returned e.record.decl.slotBlocks sound r else x) }).countReadFault l
      else s.modPl l fun p => { p with buffer := p.buffer.map (fun x =>
        if x.num = slot then x.returned e.record.decl.slotBlocks sound r else x) } := by
    unfold State.readInto
    rw [hsource]
    exact if_pos ⟨hstage, hitem, hframe⟩
  rw [hread]
  split
  · unfold State.countReadFault State.modStats
    rw [lane_modPl_same, lane_modPl_same]
    exact ⟨rfl, rfl⟩
  · rw [lane_modPl_same]
    exact ⟨rfl, rfl⟩

/-! ### The lane reset's end (R105) -/

/-- What the test for a lane reset's end does. -/
theorem completeReset_spec (s : State) (l : LaneId) :
    ((s.lane l).pl.state = .resetting → s.stc.flight.any (Operation.ofLane l) = false →
      ((s.completeReset l).lane l).pl.state = .idle
        ∧ (s.completeReset l).ntu.raised.getLsbD (laneSource l srcLaneReady) = true)
    ∧ ((s.lane l).pl.state ≠ .resetting ∨ s.stc.flight.any (Operation.ofLane l) = true →
      s.completeReset l = s)
    ∧ ((s.completeReset l).lane l).pl.buffer = (s.lane l).pl.buffer
    ∧ ((s.completeReset l).lane l).sce = (s.lane l).sce := by
  have hidle : ((s.modPl l fun p => { p with state := .idle }).raiseLane l srcLaneReady).lane l
      = { s.lane l with pl := { (s.lane l).pl with state := .idle } } :=
    lane_modPl_same s l fun p => { p with state := .idle }
  refine ⟨fun hstate hflight => ?_, fun h => ?_, ?_, ?_⟩
  · have hdone : s.completeReset l = (s.modPl l fun p => { p with state := .idle }).raiseLane l srcLaneReady :=
      if_pos ⟨hstate, by rw [hflight]; rfl⟩
    rw [hdone]
    exact ⟨by rw [hidle], raise_raised _ (by have := l.isLt; unfold laneSource srcLaneReady; omega)⟩
  · refine if_neg fun hboth => ?_
    rcases h with h | h
    · exact h hboth.1
    · rw [h] at hboth
      exact Bool.false_ne_true hboth.2
  · rcases completeReset_cases s l with h | ⟨-, -, h⟩
    · rw [h]
    · rw [h, hidle]
  · rcases completeReset_cases s l with h | ⟨-, -, h⟩
    · rw [h]
    · rw [h, hidle]

/-! ### The rows (R11, R18) -/

/-- A lane read's return, by its moment and what it finds. -/
theorem laneReadReturn_eq {t : Instant} {op first count slot item frame epoch : Nat} {sound : Bool} {r : Returned}
    {u : State} (hpin : s.pin = false)
    (hflight : s.stc.flight[op]? = some ⟨.laneRead l epoch slot item frame sound, first, count⟩)
    (hu : u = ({ s with
      stc := s.stc.returned op ⟨.laneRead l epoch slot item frame sound, first, count⟩ } : State).takeAt t) :
    exec (.laneReadReturn op r t) s = .next (if s.discarding then u.completeReset l
      else State.completeReset (if epoch = ((u.countFault first (readFailed r)).lane l).pl.fetch.epoch
        then (u.countFault first (readFailed r)).readInto l slot item frame sound r
        else u.countFault first (readFailed r)) l).settle := by
  have hexec : exec (.laneReadReturn op r t) s = execLaneReadReturn op r t s := rfl
  have hdiscard : u.discarding = s.discarding := by
    rw [hu]
    unfold State.discarding
    rw [takeAt_stc, returned_load]
  rw [hexec, ← hdiscard]
  unfold execLaneReadReturn
  refine withOperation_returns hpin hflight ?_
  dsimp only
  rw [← hu]
  cases u.discarding <;> rfl

/-- A cue read's return, by what it finds. -/
theorem cueReadReturn_eq {op first count item reel index epoch : Nat} {bank : BankId} {r : Returned} {u : State}
    (hpin : s.pin = false)
    (hflight : s.stc.flight[op]? = some ⟨.cueRead l epoch bank item reel index, first, count⟩)
    (hu : u = ({ s with stc := s.stc.returned op ⟨.cueRead l epoch bank item reel index, first, count⟩ } : State)) :
    exec (.cueReadReturn op r) s = .next (if s.discarding then u.completeReset l
      else State.completeReset (if epoch = ((u.countFault first (readFailed r)).lane l).pl.fetch.epoch
        then (u.countFault first (readFailed r)).cueReturned l bank item reel index r
        else u.countFault first (readFailed r)) l).settle := by
  have hexec : exec (.cueReadReturn op r) s = execCueReadReturn op r s := rfl
  have hdiscard : u.discarding = s.discarding := by
    rw [hu]
    exact discarding_returned op _
  rw [hexec, ← hdiscard]
  unfold execCueReadReturn
  refine withOperation_returns hpin hflight ?_
  dsimp only
  rw [← hu]
  cases u.discarding <;> rfl

theorem lane_countFault (u : State) (first : Nat) (failed : Bool) (l : LaneId) :
    (u.countFault first failed).lane l = u.lane l := by cases failed <;> rfl

/-- The lane behind a cue read taken. -/
theorem cueReturned_lane (s : State) (l : LaneId) (bank : BankId) (item reel index : Nat) (r : Returned) :
    ((s.cueReturned l bank item reel index r).lane l).sce = (s.lane l).sce.cueReturn bank item reel index r
      ∧ ((s.cueReturned l bank item reel index r).lane l).pl.stats.readFaults
        = if readFailed r then satInc top32 (s.lane l).pl.stats.readFaults else (s.lane l).pl.stats.readFaults := by
  unfold State.cueReturned State.countReadFault State.modStats
  dsimp only
  cases readFailed r with
  | false =>
    rw [if_neg Bool.false_ne_true, if_neg Bool.false_ne_true, lane_modSce_same]
    exact ⟨rfl, rfl⟩
  | true =>
    rw [if_pos rfl, if_pos rfl, lane_modPl_same, lane_modSce_same]
    exact ⟨rfl, rfl⟩

end State

/-- Settles O28: a return is dropped, counted or taken by the load and its epoch; a slot and a bank take theirs. -/
theorem readsReturn : Obligations.ReadsReturn := by
  unfold Obligations.ReadsReturn
  refine ⟨fun s t op first count slot item frame epoch l sound r u v hpin hflight hu hv => ?_,
    fun s op first count item reel index epoch l bank r u v hpin hflight hu hv => ?_,
    fun s l slot item frame sound r b i e u hsource hstage hitem hframe hu => ?_,
    fun e b item reel index r u recs bad hu hbad hrecs => ?_, State.completeReset_spec⟩
  · have hexec := State.laneReadReturn_eq (r := r) hpin hflight hu
    have hv : v = u.countFault first (readFailed r) := hv
    rw [← hv] at hexec
    have hepoch : v.lane l = u.lane l := by rw [hv, State.lane_countFault]
    rw [hepoch] at hexec
    refine ⟨fun hload => ?_, fun hload h => ?_, fun hload h => ?_⟩
    · rw [hexec, if_pos (State.discarding_iff.mpr hload)]
    · rw [hexec, if_neg (fun hd => hload (State.discarding_iff.mp hd)), if_pos h]
    · rw [hexec, if_neg (fun hd => hload (State.discarding_iff.mp hd)), if_neg h]
  · have hexec := State.cueReadReturn_eq (r := r) hpin hflight hu
    have hv : v = u.countFault first (readFailed r) := hv
    rw [← hv] at hexec
    have hepoch : v.lane l = s.lane l := by
      rw [hv, State.lane_countFault, hu]
      rfl
    rw [hepoch] at hexec
    refine ⟨fun hload => ?_, fun hload h => ⟨?_, v.cueReturned_lane l bank item reel index r⟩, fun hload h => ?_⟩
    · rw [hexec, if_pos (State.discarding_iff.mpr hload)]
    · rw [hexec, if_neg (fun hd => hload (State.discarding_iff.mp hd)), if_pos h]
    · rw [hexec, if_neg (fun hd => hload (State.discarding_iff.mp hd)), if_neg h]
  · obtain ⟨hbuffer, hfaults⟩ := State.readInto_lane (sound := sound) (r := r) hsource hstage hitem hframe
    rw [← hu] at hbuffer hfaults
    obtain ⟨hb, -⟩ := State.slotSource_item hsource
    obtain ⟨hnum, hsame, hpos, hrest⟩ := b.returned_spec e.record.decl.slotBlocks sound r hstage
    refine ⟨⟨b.returned e.record.decl.slotBlocks sound r, ?_, hnum.trans (State.slotSource_num hsource), hsame.trans hitem,
      hpos, hrest⟩, fun x hx hother => ?_, hfaults⟩
    · rw [hbuffer]
      refine List.mem_map.mpr ⟨b, hb, if_pos (State.slotSource_num hsource)⟩
    · rw [hbuffer]
      exact List.mem_map.mpr ⟨x, hx, if_neg hother⟩
  · refine e.cueReturn_spec b item reel index r u recs bad hu hbad ?_
    rw [hrecs]
    cases r with
    | data block => rfl
    | fault => exact List.append_nil _

end Sys2Proof.Machine
end

section
/-! PROOF. O29: the arbiter's tiers, its guard, and the operation of a grant (R1, R11, R13, R14, R15, R33, R34, R89, R148). -/

namespace Sys2Proof.Machine

open Sys2Proof

/-! ### The lane with fewest buffered frames (R13) -/

theorem fewest_none (s : State) {lanes : List LaneId} : fewest s lanes = none ↔ lanes = [] := by
  cases lanes with
  | nil => exact ⟨fun _ => rfl, fun _ => rfl⟩
  | cons l rest =>
    refine ⟨fun h => ?_, nofun⟩
    unfold fewest at h
    split at h
    · exact nomatch h
    · split at h <;> exact nomatch h

/-- The lane granted has fewest buffered frames, and is the lowest on a tie. -/
theorem fewest_spec (s : State) {lanes : List LaneId} (hlanes : lanes.Pairwise (· < ·)) {k : LaneId}
    (h : fewest s lanes = some k) : k ∈ lanes ∧ ∀ l ∈ lanes, (s.lane k).pl.buffered < (s.lane l).pl.buffered
      ∨ (s.lane k).pl.buffered = (s.lane l).pl.buffered ∧ k.val ≤ l.val := by
  induction lanes generalizing k with
  | nil => exact nomatch h
  | cons a rest ih =>
    obtain ⟨hbefore, hrest⟩ := List.pairwise_cons.mp hlanes
    unfold fewest at h
    split at h
    · rename_i hnone
      obtain rfl := Option.some.inj h
      rw [(fewest_none s).mp hnone]
      exact ⟨List.mem_singleton_self a, fun l hl => .inr (List.mem_singleton.mp hl ▸ ⟨rfl, le_rfl⟩)⟩
    · rename_i m hm
      obtain ⟨hmem, hleast⟩ := ih hrest hm
      split at h
      · rename_i hle
        obtain rfl := Option.some.inj h
        refine ⟨List.mem_cons_self, fun l hl => ?_⟩
        rcases List.mem_cons.mp hl with rfl | hl
        · exact .inr ⟨rfl, le_rfl⟩
        · have hless := hleast l hl
          have hlow : a.val < l.val := hbefore l hl
          omega
      · rename_i hgt
        obtain rfl := Option.some.inj h
        refine ⟨List.mem_cons_of_mem a hmem, fun l hl => ?_⟩
        rcases List.mem_cons.mp hl with rfl | hl
        · exact .inl (by omega)
        · exact hleast l hl

namespace State

variable {s : State} {l : LaneId}

theorem tierLanes_pairwise (s : State) (urgent : Bool) : (s.tierLanes urgent).Pairwise (· < ·) := by
  have hfours : fours.Pairwise (· < ·) := by decide
  exact hfours.filter _

theorem mem_tierLanes (s : State) (urgent : Bool) (l : LaneId) : l ∈ s.tierLanes urgent ↔ s.laneWaits l = true
    ∧ ((s.lane l).pl.buffered < (s.lane l).pl.set.lowMark ↔ urgent = true) := by
  have hfours : l ∈ fours := by
    revert l
    decide
  unfold State.tierLanes
  simp only [List.mem_filter, hfours, true_and, Bool.and_eq_true, beq_iff_eq, and_congr_right_iff]
  intro _
  cases urgent <;> simp

/-! ### The tiers (R13, R14) -/

/-- With a waiting chunk write not passed over 16 times, a lane of the first tier is granted. -/
theorem decide_urgent (hguard : s.stc.guard < 16 ∨ s.pka.order = []) {k : LaneId}
    (h : fewest s (s.tierLanes true) = some k) : s.decide = some (.lane k) := by
  have hnot : ¬ (16 ≤ s.stc.guard ∧ (s.pka.order.head?.map Grant.chunk).isSome = true) := fun hboth => by
    rcases hguard with hlow | hnone
    · omega
    · rw [hnone] at hboth
      exact Bool.false_ne_true hboth.2
  unfold State.decide
  dsimp only
  rw [if_neg hnot, h]

theorem decide_passed {slot : Nat} {rest : List Nat} (hguard : 16 ≤ s.stc.guard) (horder : s.pka.order = slot :: rest) :
    s.decide = some (.chunk slot) := by
  unfold State.decide
  dsimp only
  rw [horder]
  exact if_pos ⟨hguard, rfl⟩

theorem decide_catalogue (hguard : s.stc.guard < 16 ∨ s.pka.order = []) (hnone : s.tierLanes true = []) {q : SlotRequest}
    (h : s.stc.catalogueRequest = some q) : s.decide = some (.catalogue q) := by
  have hnot : ¬ (16 ≤ s.stc.guard ∧ (s.pka.order.head?.map Grant.chunk).isSome = true) := fun hboth => by
    rcases hguard with hlow | hnone
    · omega
    · rw [hnone] at hboth
      exact Bool.false_ne_true hboth.2
  unfold State.decide
  dsimp only
  rw [if_neg hnot, hnone, h]
  rfl

theorem decide_chunk (hnone : s.tierLanes true = []) (hcatalogue : s.stc.catalogueRequest = none) {slot : Nat}
    {rest : List Nat} (horder : s.pka.order = slot :: rest) : s.decide = some (.chunk slot) := by
  unfold State.decide
  dsimp only
  rw [hnone, hcatalogue, horder]
  split <;> rfl

theorem decide_rest (hnone : s.tierLanes true = []) (hcatalogue : s.stc.catalogueRequest = none)
    (horder : s.pka.order = []) : s.decide = (fewest s (s.tierLanes false)).map Grant.lane := by
  unfold State.decide
  dsimp only
  rw [hnone, hcatalogue, horder]
  exact if_neg fun h => Bool.false_ne_true h.2

/-- A tier that holds a lane grants the least of it. -/
theorem fewest_of_mem {urgent : Bool} (h : l ∈ s.tierLanes urgent) : ∃ k, fewest s (s.tierLanes urgent) = some k
    ∧ k ∈ s.tierLanes urgent ∧ ((s.lane k).pl.buffered < (s.lane l).pl.buffered
      ∨ (s.lane k).pl.buffered = (s.lane l).pl.buffered ∧ k.val ≤ l.val) := by
  cases hk : fewest s (s.tierLanes urgent) with
  | none =>
    rw [(fewest_none s).mp hk] at h
    exact absurd h List.not_mem_nil
  | some k =>
    obtain ⟨hmem, hleast⟩ := fewest_spec s (s.tierLanes_pairwise urgent) hk
    exact ⟨k, rfl, hmem, hleast l h⟩

theorem tierLanes_nil (h : ∀ l, s.laneWaits l = true → (s.lane l).pl.set.lowMark ≤ (s.lane l).pl.buffered) :
    s.tierLanes true = [] := by
  refine List.eq_nil_iff_forall_not_mem.mpr fun l hl => ?_
  obtain ⟨hwaits, hlow⟩ := (s.mem_tierLanes true l).mp hl
  have hhigh := h l hwaits
  have hlow := hlow.mpr rfl
  omega

end State

/-! ### An operation put on the port (R1, R11) -/

namespace Storage

variable {c : Storage} {o : Operation}

theorem granted_slotWrite {slot : Nat} {retry : Bool} (h : o.kind = .slotWrite slot retry) :
    c.granted o = { c with flight := c.flight ++ [o] } := by
  unfold Storage.granted
  rw [h]

theorem granted_other (h : ¬ o.isSlotWrite) :
    c.granted o = ({ c with flight := c.flight ++ [o] } : Storage).modAt o.first fun w => { w with ops := w.ops + 1 } := by
  unfold Storage.granted
  dsimp only
  split
  · rename_i slot retry hkind
    exact absurd ⟨slot, retry, hkind⟩ h
  · rfl

theorem granted_same (c : Storage) (o : Operation) : c.granted o = { c with
    flight := c.flight ++ [o], table := (c.granted o).table } := by
  by_cases h : o.isSlotWrite
  · obtain ⟨slot, retry, hkind⟩ := h
    rw [granted_slotWrite hkind]
  · rw [granted_other h]
    rfl

theorem granted_guard (c : Storage) (o : Operation) : (c.granted o).guard = c.guard := by
  rw [granted_same]

theorem granted_counts (h : ¬ o.isSlotWrite) : c.Counts (c.granted o) o.first (fun n => n + 1) := by
  rw [granted_other h]
  have hcounts := counts_modAt ({ c with flight := c.flight ++ [o] }) o.first (fun n => n + 1)
  exact hcounts

end Storage

namespace State

variable {s u : State} {l : LaneId}

theorem issueRead_issues (s : State) {kind : OpKind} (first count : Nat) (h : ∀ slot retry, kind ≠ .slotWrite slot retry) :
    s.Issues (s.issueRead kind first count) ⟨kind, first, count⟩ none := by
  have hcounts : s.stc.Counts (s.stc.granted ⟨kind, first, count⟩) first (fun n => n + 1) :=
    Storage.granted_counts fun ⟨slot, retry, hkind⟩ => h slot retry hkind
  have hflight : (s.stc.granted ⟨kind, first, count⟩).flight = s.stc.flight ++ [⟨kind, first, count⟩] := by
    rw [Storage.granted_same]
  refine ⟨hflight, ?_, rfl⟩
  cases kind with
  | slotWrite slot retry => exact absurd rfl (h slot retry)
  | laneRead _ _ _ _ _ _ => exact hcounts
  | cueRead _ _ _ _ _ _ => exact hcounts
  | chunkWrite _ => exact hcounts

theorem issue_chunkWrite (s : State) (slot first count : Nat) (data : List Byte) :
    s.Issues (s.issue ⟨.chunkWrite slot, first, count⟩ (.storageWrite first count data)) ⟨.chunkWrite slot, first, count⟩
      (some data) := by
  have hflight : (s.stc.granted ⟨.chunkWrite slot, first, count⟩).flight
      = s.stc.flight ++ [⟨.chunkWrite slot, first, count⟩] := by
    rw [Storage.granted_same]
  exact ⟨hflight, Storage.granted_counts fun ⟨_, _, hkind⟩ => (nomatch hkind), rfl⟩

/-! ### A lane's grant (R89, R148) -/

theorem grantLane_picture {slot : Nat} {sound : Bool} {b : BufSlot} {i : Item} {e : TableEntry}
    (hwork : (s.lane l).pl.fetch.work = .picture slot sound) (hsource : s.slotSource l slot = some (b, i, e)) :
    s.grantLane l = (s.issueRead (.laneRead l (s.lane l).pl.fetch.epoch slot b.item b.pos.frame false)
        ((e.reelAt b.pos.reel).picture + b.pos.reelFrame * e.record.decl.slotBlocks)
        e.record.decl.slotBlocks).modFetch l fun f =>
      { f with work := if sound then .sound slot else .nothing,
               cursor := if sound then f.cursor else some (i.cursorAfter b.pos) } := by
  unfold State.grantLane
  dsimp only
  rw [hwork]
  dsimp only
  rw [hsource]
  cases sound <;> rfl

theorem grantLane_sound {slot : Nat} {b : BufSlot} {i : Item} {e : TableEntry}
    (hwork : (s.lane l).pl.fetch.work = .sound slot) (hsource : s.slotSource l slot = some (b, i, e)) :
    s.grantLane l = (s.issueRead (.laneRead l (s.lane l).pl.fetch.epoch slot b.item b.pos.frame true)
        ((e.reelAt b.pos.reel).sound + b.pos.reelFrame * e.record.decl.soundBlocks)
        e.record.decl.soundBlocks).frameGranted l i b.pos := by
  unfold State.grantLane
  dsimp only
  rw [hwork]
  dsimp only
  rw [hsource]

theorem grantLane_cues {bank : BankId} {index count item reel pid n : Nat} {i : Item} {e : TableEntry}
    (hwork : (s.lane l).pl.fetch.work = .cues bank index count)
    (hbank : ((s.lane l).sce.bank bank).reel = some (item, reel)) (hitem : (s.lane l).pl.item item = some i)
    (hpackage : i.package = some pid) (hfind : s.stc.find pid = some (n, e)) :
    s.grantLane l = (s.issueRead (.cueRead l (s.lane l).pl.fetch.epoch bank item reel index)
        ((e.reelAt reel).subtitle + index) 1).modFetch l fun f =>
      { f with work := if index + 1 < count then .cues bank (index + 1) count else .nothing } := by
  unfold State.grantLane
  dsimp only
  rw [hwork]
  dsimp only
  rw [hbank]
  dsimp only
  rw [hitem, Option.bind_some, hpackage]
  dsimp only
  rw [hfind]

theorem issueRead_stc (s : State) (l : LaneId) (kind : OpKind) (first count : Nat) (g : Fetcher → Fetcher) :
    ((s.issueRead kind first count).modFetch l g).stc = s.stc.granted ⟨kind, first, count⟩ := rfl

/-- A lane's grant puts one read on the port, or none. -/
theorem grantLane_stc (s : State) (l : LaneId) :
    (s.grantLane l).stc = s.stc ∨ ∃ o, (s.grantLane l).stc = s.stc.granted o := by
  unfold State.grantLane
  dsimp only
  split
  · exact .inl rfl
  · split
    · exact .inl rfl
    · split
      · exact .inr ⟨_, s.issueRead_stc l _ _ _ _⟩
      · exact .inr ⟨_, s.issueRead_stc l _ _ _ _⟩
  · split
    · exact .inl rfl
    · exact .inr ⟨_, s.issueRead_stc l _ _ _ _⟩
  · split
    · exact .inl rfl
    · split
      · exact .inl rfl
      · split
        · exact .inl rfl
        · exact .inr ⟨_, s.issueRead_stc l _ _ _ _⟩

theorem grantLane_guard (s : State) (l : LaneId) : (s.grantLane l).stc.guard = s.stc.guard := by
  rcases s.grantLane_stc l with h | ⟨o, h⟩
  · rw [h]
  · rw [h, Storage.granted_guard]

/-! ### A chunk's grant (R33, R34) -/

/-- The state before a staged chunk's write is issued: its slot WRITING and out of the staging order. -/
def chunkWriting (s : State) (slot : Nat) (c : ChunkId) (payload : List Byte) : State :=
  s.modPka fun p => { p with
    order := p.order.filter fun n => n != slot
    staging := modifyAt (fun _ => .writing c payload false) slot p.staging }

theorem grantChunk_eq {slot n : Nat} {c : ChunkId} {payload : List Byte} {e : TableEntry}
    (hslot : s.pka.staging[slot]? = some (.held c payload)) (hfind : s.stc.find c.packageId = some (n, e)) :
    s.grantChunk slot = (s.chunkWriting slot c payload).issue
      { kind := .chunkWrite slot, first := (chunkBlocks e c payload).1, count := (chunkBlocks e c payload).2.1 }
      (.storageWrite (chunkBlocks e c payload).1 (chunkBlocks e c payload).2.1 (chunkBlocks e c payload).2.2) := by
  unfold State.grantChunk
  dsimp only
  rw [hslot]
  dsimp only
  rw [hfind]
  rfl

section

variable {e : TableEntry} {c : ChunkId} {payload : List Byte} {y : ReelLayout}

theorem chunkBlocks_picture (hlayout : e.window.layout[c.reel]? = some y) (h : c.track = 0) : chunkBlocks e c payload
    = (y.picture + c.first * e.record.decl.slotBlocks, (payload.length + 4 + 4095) / 4096,
      padToBlock (b32 payload.length ++ payload)) := by
  unfold chunkBlocks
  rw [hlayout, h]
  rfl

theorem chunkBlocks_sound (hlayout : e.window.layout[c.reel]? = some y) (h : c.track = 1) : chunkBlocks e c payload
    = (y.sound + c.first * e.record.decl.soundBlocks, c.count * e.record.decl.soundBlocks,
      paddedUnits e.record.decl.soundUnit c.count payload) := by
  unfold chunkBlocks
  rw [hlayout, h]
  rfl

theorem chunkBlocks_subtitle (hlayout : e.window.layout[c.reel]? = some y) (h : c.track = 2) : chunkBlocks e c payload
    = (y.subtitle + c.first, c.count, payload) := by
  unfold chunkBlocks
  rw [hlayout, h]
  rfl

end

theorem grantChunk_guard (s : State) (slot : Nat) : (s.grantChunk slot).stc.guard = s.stc.guard := by
  unfold State.grantChunk
  dsimp only
  split
  · split
    · rfl
    · exact Storage.granted_guard _ _
  · rfl

theorem grantCatalogue_guard (s : State) (q : SlotRequest) : (s.grantCatalogue q).stc.guard = s.stc.guard := by
  unfold State.grantCatalogue
  exact Storage.granted_guard _ _

/-! ### What each grant of the arbiter does -/

/-- The state before a grant's operation: the guard count moved (R14). -/
def guarded (s : State) (g : Grant) : State :=
  s.modStc fun c => { c with guard := guardAfter c.guard g (!s.pka.order.isEmpty) }

/-- A frame's picture read, or its sound read, granted (O29). -/
theorem grant_frame {slot : Nat} {b : BufSlot} {i : Item} {e : TableEntry} {y : ReelLayout} {f : Fetcher}
    (hsource : s.slotSource l slot = some (b, i, e)) (hlayout : e.window.layout[b.pos.reel]? = some y)
    (hf : f = (s.lane l).pl.fetch) (hu : u = s.grant (.lane l)) :
    (∀ sound, f.work = .picture slot sound →
      s.Issues u ⟨.laneRead l f.epoch slot b.item b.pos.frame false,
          y.picture + b.pos.reelFrame * e.record.decl.slotBlocks, e.record.decl.slotBlocks⟩ none
        ∧ (u.lane l).pl.fetch.work = (if sound then .sound slot else .nothing)
        ∧ (u.lane l).pl.fetch.cursor = (if sound then f.cursor else some (i.cursorAfter b.pos)))
    ∧ (f.work = .sound slot →
      s.Issues u ⟨.laneRead l f.epoch slot b.item b.pos.frame true,
          y.sound + b.pos.reelFrame * e.record.decl.soundBlocks, e.record.decl.soundBlocks⟩ none
        ∧ (u.lane l).pl.fetch.work = .nothing ∧ (u.lane l).pl.fetch.cursor = some (i.cursorAfter b.pos)) := by
  have hgrant : u = (s.guarded (.lane l)).grantLane l := hu
  have hsource' : (s.guarded (.lane l)).slotSource l slot = some (b, i, e) := hsource
  have hreel : e.reelAt b.pos.reel = y := by
    unfold TableEntry.reelAt
    rw [hlayout]
    rfl
  refine ⟨fun sound hwork => ?_, fun hwork => ?_⟩
  · have hwork' : ((s.guarded (.lane l)).lane l).pl.fetch.work = .picture slot sound := by
      rw [← hwork, hf]
      rfl
    rw [grantLane_picture hwork' hsource', hreel] at hgrant
    have hissue := issueRead_issues (s.guarded (.lane l)) (kind := .laneRead l f.epoch slot b.item b.pos.frame false)
      (y.picture + b.pos.reelFrame * e.record.decl.slotBlocks) e.record.decl.slotBlocks nofun
    subst hf hgrant
    refine ⟨hissue, ?_, ?_⟩
    · unfold State.modFetch
      rw [lane_modPl_same]
    · unfold State.modFetch
      rw [lane_modPl_same]
      rfl
  · have hwork' : ((s.guarded (.lane l)).lane l).pl.fetch.work = .sound slot := by
      rw [← hwork, hf]
      rfl
    rw [grantLane_sound hwork' hsource', hreel] at hgrant
    have hissue := issueRead_issues (s.guarded (.lane l)) (kind := .laneRead l f.epoch slot b.item b.pos.frame true)
      (y.sound + b.pos.reelFrame * e.record.decl.soundBlocks) e.record.decl.soundBlocks nofun
    subst hf hgrant
    refine ⟨hissue, ?_, ?_⟩ <;>
    · unfold State.frameGranted State.modFetch
      rw [lane_modPl_same]

/-- A cue read granted (O29). -/
theorem grant_cue {bank : BankId} {index count item reel pid n : Nat} {i : Item} {e : TableEntry} {y : ReelLayout}
    (hwork : (s.lane l).pl.fetch.work = .cues bank index count)
    (hbank : ((s.lane l).sce.bank bank).reel = some (item, reel)) (hitem : (s.lane l).pl.item item = some i)
    (hpackage : i.package = some pid) (hfind : s.stc.find pid = some (n, e))
    (hlayout : e.window.layout[reel]? = some y) (hu : u = s.grant (.lane l)) :
    s.Issues u ⟨.cueRead l (s.lane l).pl.fetch.epoch bank item reel index, y.subtitle + index, 1⟩ none
      ∧ (u.lane l).pl.fetch.work = (if index + 1 < count then .cues bank (index + 1) count else .nothing) := by
  have hgrant : u = (s.guarded (.lane l)).grantLane l := hu
  have hreel : e.reelAt reel = y := by
    unfold TableEntry.reelAt
    rw [hlayout]
    rfl
  rw [grantLane_cues (s := s.guarded (.lane l)) hwork hbank hitem hpackage hfind, hreel] at hgrant
  have hissue := issueRead_issues (s.guarded (.lane l))
    (kind := .cueRead l (s.lane l).pl.fetch.epoch bank item reel index) (y.subtitle + index) 1 nofun
  subst hgrant
  refine ⟨hissue, ?_⟩
  unfold State.modFetch
  rw [lane_modPl_same]

/-- A catalogue slot's write granted (O29). -/
theorem grant_slotWrite {q : SlotRequest} {entry : Option TableEntry} {data : List Byte}
    (hentry : s.stc.table[q.slot]? = some entry) (hdata : data = padToBlock ((entry.map slotImage).getD emptyImage)) :
    s.Issues (s.grant (.catalogue q)) ⟨.slotWrite q.slot q.retry, 64 + 64 * q.slot, data.length / 4096⟩ (some data)
      ∧ (s.grant (.catalogue q)).stc.queue = s.stc.queue.filter (fun x => x.slot != q.slot) := by
  have hgrant : s.grant (.catalogue q) = ((s.guarded (.catalogue q)).modStc fun c =>
      { c with queue := c.queue.filter fun x => x.slot != q.slot }).issue
      { kind := .slotWrite q.slot q.retry, first := 64 + 64 * q.slot, count := data.length / 4096 }
      (.storageWrite (64 + 64 * q.slot) (data.length / 4096) data) := by
    have hunfold : s.grant (.catalogue q) = (s.guarded (.catalogue q)).grantCatalogue q := rfl
    have hentry' : (s.guarded (.catalogue q)).stc.table[q.slot]? = some entry := hentry
    rw [hunfold, hdata]
    unfold State.grantCatalogue
    rw [hentry', Option.getD_some]
    cases entry with
    | none => rw [Option.map_none, Option.getD_none]
    | some e => rw [Option.map_some, Option.getD_some]
  rw [hgrant]
  exact ⟨⟨rfl, rfl, rfl⟩, rfl⟩

/-- A staged chunk's write granted (O29). -/
theorem grant_chunk {slot n : Nat} {c : ChunkId} {payload : List Byte} {e : TableEntry} {y : ReelLayout}
    (hslot : s.pka.staging[slot]? = some (.held c payload)) (hfind : s.stc.find c.packageId = some (n, e))
    (hlayout : e.window.layout[c.reel]? = some y) (hu : u = s.grant (.chunk slot)) :
    u.pka.staging[slot]? = some (.writing c payload false)
      ∧ u.pka.order = s.pka.order.filter (fun m => m != slot)
      ∧ (c.track = 0 → s.Issues u ⟨.chunkWrite slot, y.picture + c.first * e.record.decl.slotBlocks,
          (payload.length + 4 + 4095) / 4096⟩ (some (padToBlock (b32 payload.length ++ payload))))
      ∧ (c.track = 1 → s.Issues u ⟨.chunkWrite slot, y.sound + c.first * e.record.decl.soundBlocks,
          c.count * e.record.decl.soundBlocks⟩ (some (paddedUnits e.record.decl.soundUnit c.count payload)))
      ∧ (c.track = 2 → s.Issues u ⟨.chunkWrite slot, y.subtitle + c.first, c.count⟩ (some payload)) := by
  have hgrant : u = (s.guarded (.chunk slot)).grantChunk slot := hu
  rw [grantChunk_eq (s := s.guarded (.chunk slot)) hslot hfind] at hgrant
  have hissue : s.Issues u ⟨.chunkWrite slot, (chunkBlocks e c payload).1, (chunkBlocks e c payload).2.1⟩
      (some (chunkBlocks e c payload).2.2) := by
    rw [hgrant]
    exact issue_chunkWrite ((s.guarded (.chunk slot)).chunkWriting slot c payload) slot _ _ _
  refine ⟨?_, ?_, fun h => ?_, fun h => ?_, fun h => ?_⟩
  · rw [hgrant]
    have hstaging : (modifyAt (fun _ => Staging.writing c payload false) slot s.pka.staging)[slot]?
        = some (.writing c payload false) := by
      rw [modifyAt_getElem?, if_pos rfl, hslot]
      rfl
    exact hstaging
  · rw [hgrant]
    rfl
  · rw [chunkBlocks_picture hlayout h] at hissue
    exact hissue
  · rw [chunkBlocks_sound hlayout h] at hissue
    exact hissue
  · rw [chunkBlocks_subtitle hlayout h] at hissue
    exact hissue

/-- The guard count at rest (R14). -/
theorem settle_guard (s : State) (h : s.settle.pka.order = []) : s.settle.stc.guard = 0 := by
  unfold State.settle at h ⊢
  generalize s.decisions 9 = u at h ⊢
  have horder : u.pka.order = [] := h
  have hguard : (u.modStc fun c => c.restGuard (!u.pka.order.isEmpty)).stc.guard = 0 := by
    rw [horder]
    rfl
  exact hguard

end State

/-- Settles O29: each tier by the least waiting lane of it, and each grant by the operation it puts on the port. -/
theorem arbiterTiers : Obligations.ArbiterTiers := by
  unfold Obligations.ArbiterTiers
  refine fun s => ⟨fun l hguard hwaits hlow => ?_, fun slot rest => State.decide_passed, fun hrest => ⟨fun q hguard => ?_,
      fun slot rest hnone => ?_, fun l hnone horder hwaits => ?_⟩, fun hidle hnone horder => ?_, fun l => ?_,
    fun q => State.grantCatalogue_guard _ q,
    fun slot => State.grantChunk_guard _ slot, s.settle_guard, fun l slot b i e y f u hsource hlayout hf hu => ?_,
    fun l bank index count item reel pid n i e y u => State.grant_cue, fun q entry data => State.grant_slotWrite,
    fun slot n c payload e y u => State.grant_chunk⟩
  · obtain ⟨k, hk, hmem, hleast⟩ := State.fewest_of_mem (s := s) (l := l) (urgent := true)
      ((s.mem_tierLanes true l).mpr ⟨hwaits, fun _ => rfl, fun _ => hlow⟩)
    obtain ⟨hkwaits, hklow⟩ := (s.mem_tierLanes true k).mp hmem
    exact ⟨k, State.decide_urgent hguard hk, hkwaits, hklow.mpr rfl, hleast⟩
  · exact State.decide_catalogue hguard (State.tierLanes_nil hrest)
  · exact State.decide_chunk (State.tierLanes_nil hrest) hnone
  · have hhigh := hrest l hwaits
    obtain ⟨k, hk, hmem, hleast⟩ := State.fewest_of_mem (s := s) (l := l) (urgent := false)
      ((s.mem_tierLanes false l).mpr ⟨hwaits, fun h => absurd h (by omega), nofun⟩)
    refine ⟨k, ?_, ((s.mem_tierLanes false k).mp hmem).1, hleast⟩
    rw [State.decide_rest (State.tierLanes_nil hrest) hnone horder, hk]
    rfl
  · have hnobody : ∀ urgent, s.tierLanes urgent = [] := fun urgent => List.eq_nil_iff_forall_not_mem.mpr fun l hl =>
      Bool.false_ne_true ((hidle l).symm.trans ((s.mem_tierLanes urgent l).mp hl).1)
    rw [State.decide_rest (hnobody true) hnone horder, hnobody false]
    rfl
  · have hguard : (s.grant (.lane l)).stc.guard = guardAfter s.stc.guard (.lane l) (!s.pka.order.isEmpty) :=
      State.grantLane_guard (s.guarded (.lane l)) l
    rw [hguard]
    cases s.pka.order <;> rfl
  · obtain ⟨hpicture, hsound⟩ := State.grant_frame hsource hlayout hf hu
    exact ⟨hpicture, hsound, rfl⟩

end Sys2Proof.Machine
end

section
/-! PROOF. O15, first part: the passing of time does not look at the control port, and what a lane's reset leaves of an
ingest that is abandoned (R44, R48, R181). -/

namespace Sys2Proof.Machine

open Sys2Proof

namespace State

variable {s u v : State} {l : LaneId}

/-! ### Time passes whatever the control port holds -/

/-- The state with another control port. -/
def withPort (s : State) (b : ControlPort) : State := { s with bcp := b }

theorem lane_withPort (s : State) (b : ControlPort) (k : LaneId) : (s.withPort b).lane k = s.lane k := rfl

theorem raiseGate_withPort (s : State) (l : LaneId) (owner : GateOwner) (b : ControlPort) :
    (s.withPort b).raiseGate l owner = (s.raiseGate l owner).withPort b := by
  unfold State.raiseGate
  split <;> rfl

theorem abortGate_withPort (s : State) (l : LaneId) (r : GateResult) (b : ControlPort) :
    (s.withPort b).abortGate l r = (s.abortGate l r).withPort b := by
  unfold State.abortGate
  dsimp only
  rw [lane_withPort]
  split
  · exact raiseGate_withPort (s.modGate l fun g => g.abort r s.clock.now) l _ b
  · rfl

theorem endWatch_withPort (s : State) (l : LaneId) (r : GateResult) (b : ControlPort) :
    (s.withPort b).endWatch l r = (s.endWatch l r).withPort b := by
  unfold State.endWatch
  dsimp only
  rw [lane_withPort, abortGate_withPort]
  split <;> rfl

theorem toScreen_withPort (s : State) (l : LaneId) (x : ScreenCommand) (b : ControlPort) :
    (s.withPort b).toScreen l x = (s.toScreen l x).withPort b := by
  have hheld : ∀ c, (s.withPort b).screenHeld c = s.screenHeld c := fun _ => rfl
  unfold State.toScreen
  rw [lane_withPort]
  cases (s.lane l).pl.screen with
  | none => rfl
  | some c =>
    dsimp only
    rw [hheld]
    split <;> rfl

theorem toScreenAll_withPort (xs : List ScreenCommand) (s : State) (l : LaneId) (b : ControlPort) :
    (s.withPort b).toScreenAll l xs = (s.toScreenAll l xs).withPort b := by
  unfold State.toScreenAll
  induction xs generalizing s with
  | nil => rfl
  | cons x rest ih => rw [List.foldl_cons, toScreen_withPort, ih, List.foldl_cons]

theorem enterPaused_withPort (s : State) (l : LaneId) (cause : PauseCause) (b : ControlPort) :
    (s.withPort b).enterPaused l cause = (s.enterPaused l cause).withPort b := by
  have hmoved : (s.withPort b).modPl l (fun p => { p with state := .paused, pause := some cause })
      = (s.modPl l fun p => { p with state := .paused, pause := some cause }).withPort b := rfl
  have hcues : ∀ w : State, (w.withPort b).cueStep l (fun e => e.paused cause)
      = (w.cueStep l fun e => e.paused cause).withPort b := fun w =>
    toScreenAll_withPort _ (w.modSce l fun _ => ((w.lane l).sce.paused cause).1) l b
  have hramp : ∀ w : State, (w.withPort b).rampDown l false = (w.rampDown l false).withPort b := fun _ => rfl
  unfold State.enterPaused
  dsimp only
  rw [hmoved, endWatch_withPort, hramp, hcues]

theorem lossExpiry_withPort (s : State) (l : LaneId) (b : ControlPort) :
    (s.withPort b).lossExpiry l = (s.lossExpiry l).withPort b := by
  have hmarked : ∀ f : Monitor → Monitor, (s.withPort b).modFtm l f = (s.modFtm l f).withPort b := fun _ => rfl
  unfold State.lossExpiry
  dsimp only
  rw [hmarked, abortGate_withPort, lane_withPort, enterPaused_withPort]
  generalize (s.modFtm l _).abortGate l .noPulses = w
  cases (w.lane l).pl.state <;> rfl

theorem lossFold_withPort (ls : List LaneId) (s : State) (b : ControlPort) :
    ls.foldl (fun s l => if (s.lane l).lossDue then s.lossExpiry l else s) (s.withPort b)
      = (ls.foldl (fun s l => if (s.lane l).lossDue then s.lossExpiry l else s) s).withPort b := by
  induction ls generalizing s with
  | nil => rfl
  | cons l rest ih =>
    have hone : (if ((s.withPort b).lane l).lossDue then (s.withPort b).lossExpiry l else s.withPort b)
        = (if (s.lane l).lossDue then s.lossExpiry l else s).withPort b := by
      rw [lane_withPort, lossExpiry_withPort]
      split <;> rfl
    rw [List.foldl_cons, hone, ih, List.foldl_cons]

theorem setBooth_withPort (s : State) (n : Nat) (b : ControlPort) :
    (s.withPort b).setBooth n = (s.setBooth n).withPort b := by
  have hlicences : (s.withPort b).shc = s.shc := rfl
  have hclock : (s.withPort b).clock = s.clock := rfl
  unfold State.setBooth State.expireLicences
  dsimp only
  rw [hlicences, hclock]
  split <;> rfl

theorem boothSecond_withPort (s : State) (b : ControlPort) : (s.withPort b).boothSecond = s.boothSecond.withPort b := by
  have hclock : (s.withPort b).clock = s.clock := rfl
  unfold State.boothSecond
  dsimp only
  rw [hclock]
  cases s.clock.booth with
  | none => rfl
  | some n =>
    dsimp only
    split
    · exact setBooth_withPort { s with clock := { s.clock with booth := some n, secondDue := false, sub := 0 } } _ b
    · rfl

theorem expireTickets_withPort (s : State) (b : ControlPort) :
    (s.withPort b).expireTickets = s.expireTickets.withPort b := by
  have hpka : (s.withPort b).pka = s.pka := rfl
  have hclock : (s.withPort b).clock = s.clock := rfl
  unfold State.expireTickets
  dsimp only
  rw [hpka, hclock]
  split <;> rfl

theorem takeOverdue_withPort (s : State) (b : ControlPort) : (s.withPort b).takeOverdue = s.takeOverdue.withPort b := by
  have hsecond : (if (s.withPort b).clock.secondDue then (s.withPort b).boothSecond else s.withPort b)
      = (if s.clock.secondDue then s.boothSecond else s).withPort b := by
    have hclock : (s.withPort b).clock = s.clock := rfl
    rw [boothSecond_withPort, hclock]
    split <;> rfl
  have hsplit : (s.withPort b).secondAndLosses = s.secondAndLosses.withPort b := by
    unfold State.secondAndLosses
    rw [hsecond, lossFold_withPort]
  have hdue : (s.secondAndLosses.withPort b).ticketDue = s.secondAndLosses.ticketDue := rfl
  rw [takeOverdue_split, takeOverdue_split, hsplit, hdue, expireTickets_withPort]
  split <;> rfl

theorem takeAt_withPort (s : State) (t : Instant) (b : ControlPort) :
    (s.withPort b).takeAt t = (s.takeAt t).withPort b := by
  have hcaught : ∀ x, (s.withPort b).caughtUp x = (s.caughtUp x).withPort b := fun x => by
    have hbase : (s.withPort b).lastBase = s.lastBase := rfl
    unfold State.caughtUp
    rw [hbase, takeOverdue_withPort]
    split <;> rfl
  have hinstant : (s.withPort b).takenAt t = s.takenAt t := rfl
  unfold State.takeAt
  rw [hinstant, hcaught]
  rfl

theorem takeAt_setting (s : State) (t : Instant) : (s.takeAt t).pka.setting = s.pka.setting := by
  have hpassed : ∀ (p : Assembler) (slots : List Nat), (p.passOnAll slots).setting = p.setting := fun p slots => by
    rw [Assembler.passOnAll_eq]
  have hexpired : ∀ w : State, w.expireTickets.pka.setting = w.pka.setting := fun w => by
    unfold State.expireTickets
    dsimp only
    split
    · rfl
    · exact hpassed _ _
  have hoverdue : s.takeOverdue.pka.setting = s.pka.setting := by
    rw [takeOverdue_split]
    split
    · rw [hexpired, secondAndLosses_pka]
    · rw [secondAndLosses_pka]
  have hcaught : ∀ x, (s.caughtUp x).pka.setting = s.pka.setting := fun x => by
    unfold State.caughtUp
    split
    · exact hoverdue
    · rfl
  exact hcaught _

/-! ### An ingest that is abandoned (R48) -/

/-- An ingest whose work is abandoned, with the notices off. -/
structure Abandoned (s : State) : Prop where
  tickets : s.pka.tickets = []
  outstanding : s.pka.outstanding = 0
  order : s.pka.order = []
  staging : ∀ x ∈ s.pka.staging, x = .free ∨ ∃ c p o, x = .writing c p o
  master : s.ntu.master = false
  quiet : s.ntu.outstanding = false

/-- What an operation leaves of an abandoned ingest: it stays so, its WRITING slots stay, and no LINK_RESET is sent. -/
structure Abandons (s u : State) : Prop where
  kept : u.Abandoned
  writing : ∀ (j : Nat) c p o, s.pka.staging[j]? = some (.writing c p o) → ∃ o', u.pka.staging[j]? = some (.writing c p o')
  sent : ∃ more, u.out = s.out ++ more ∧ .linkReset ∉ more

theorem Abandons.trans (h : s.Abandons u) (k : u.Abandons v) : s.Abandons v where
  kept := k.kept
  writing := fun j c p o hj => by
    obtain ⟨o', ho⟩ := h.writing j c p o hj
    exact k.writing j c p o' ho
  sent := by
    obtain ⟨more, hmore, hnone⟩ := h.sent
    obtain ⟨rest, hrest, hnone'⟩ := k.sent
    refine ⟨more ++ rest, by rw [hrest, hmore, List.append_assoc], fun hmem => ?_⟩
    rcases List.mem_append.mp hmem with hmem | hmem
    · exact hnone hmem
    · exact hnone' hmem

/-- An operation that leaves ingest and notices alone. -/
theorem Abandoned.sent {more : List Output} (h : s.Abandoned) (hpka : u.pka = s.pka) (hntu : u.ntu = s.ntu)
    (hout : u.out = s.out ++ more) (hmore : .linkReset ∉ more) : s.Abandons u where
  kept := ⟨hpka ▸ h.tickets, hpka ▸ h.outstanding, hpka ▸ h.order, hpka ▸ h.staging, hntu ▸ h.master, hntu ▸ h.quiet⟩
  writing := fun _ _ _ o hj => ⟨o, hpka ▸ hj⟩
  sent := ⟨more, hout, hmore⟩

theorem Abandoned.same (h : s.Abandoned) (hpka : u.pka = s.pka) (hntu : u.ntu = s.ntu) (hout : u.out = s.out) :
    s.Abandons u := h.sent hpka hntu (by rw [hout, List.append_nil]) List.not_mem_nil

theorem Abandoned.refl (h : s.Abandoned) : s.Abandons s := h.same rfl rfl rfl

theorem Abandoned.raise (h : s.Abandoned) (n : Nat) : s.Abandons (s.raise n) where
  kept := by
    refine ⟨h.tickets, h.outstanding, h.order, h.staging, h.master, ?_⟩
    have hflag : (s.raise n).ntu.outstanding = (s.ntu.outstanding || (s.ntu.master
      && (((s.ntu.raised ||| sourceBit n) &&& s.ntu.enabled) &&& ~~~ s.ntu.pending) != 0#44)) := rfl
    rw [hflag, h.quiet, h.master]
    rfl
  writing := fun _ _ _ o hj => ⟨o, hj⟩
  sent := ⟨[], (List.append_nil _).symm, List.not_mem_nil⟩

/-- The release of a package marks WRITING slots and does nothing more. -/
theorem Abandoned.dropPackage (h : s.Abandoned) (pid : Nat) : s.Abandons (s.dropPackage pid) := by
  have hheld : s.pka.heldChunks pid = [] := by
    rw [← List.length_eq_zero_iff, Assembler.length_heldChunks, List.countP_eq_zero]
    intro x hx
    rcases h.staging x hx with rfl | ⟨c, p, o, rfl⟩ <;> exact nofun
  have hfreed : s.pka.freedSlots pid = [] := by
    unfold Assembler.freedSlots
    rw [h.tickets, hheld]
    rfl
  have hdrop : s.dropPackage pid = { s with
      pka := { s.pka with staging := s.pka.staging.map (Staging.orphaned pid) } } := by
    rw [dropPackage_eq, hfreed, hheld, List.map_nil, List.append_nil]
    refine congrArg (fun p => { s with pka := p }) ?_
    have hnone : (s.pka.withoutPackage pid).passOnAll [] = s.pka.withoutPackage pid := rfl
    rw [hnone]
    have htickets : s.pka.tickets.filter (fun t => t.chunk.packageId != pid) = s.pka.tickets := by
      rw [h.tickets, List.filter_nil]
    have horder : s.pka.order.filter (fun n => !((s.pka.heldChunks pid).any fun h => h.2 == n)) = s.pka.order := by
      rw [h.order, List.filter_nil]
    unfold Assembler.withoutPackage
    rw [htickets, horder, hheld, List.length_nil, Nat.sub_zero]
  rw [hdrop]
  refine ⟨⟨h.tickets, h.outstanding, h.order, fun x hx => ?_, h.master, h.quiet⟩, fun j c p o hj => ?_,
    [], (List.append_nil _).symm, List.not_mem_nil⟩
  · obtain ⟨y, hy, rfl⟩ := List.mem_map.mp hx
    rcases h.staging y hy with rfl | ⟨c, p, o, rfl⟩
    · exact .inl rfl
    · exact .inr ⟨c, p, _, rfl⟩
  · refine ⟨o || c.packageId == pid, ?_⟩
    have hmap : (s.pka.staging.map (Staging.orphaned pid))[j]? = some (.writing c p (o || c.packageId == pid)) := by
      rw [List.getElem?_map, hj]
      rfl
    exact hmap

theorem Abandoned.dropItem (h : s.Abandoned) (i : Item) : s.Abandons (s.dropItem i) := by
  cases hpackage : i.package with
  | none =>
    rw [dropItem_none hpackage]
    exact h.refl
  | some q =>
    rw [dropItem_some hpackage]
    obtain hdrop | ⟨n, x, -, -, -, hdrop⟩ := s.dropReference_cases q
    · rw [hdrop]
      exact h.same rfl rfl rfl
    · have hreleased := h.same (u := { s with stc := released (s.stc.unreferenced q) n x.window }) rfl rfl rfl
      rw [hdrop]
      exact hreleased.trans (hreleased.kept.dropPackage q)

theorem Abandoned.dropItems (items : List Item) (h : s.Abandoned) : s.Abandons (s.dropItems items) := by
  rw [dropItems_eq]
  induction items generalizing s with
  | nil => exact h.refl
  | cons i rest ih => exact (h.dropItem i).trans (ih (h.dropItem i).kept)

/-! ### A lane's reset (R104) -/

theorem Abandoned.resetParts (h : s.Abandoned) (l : LaneId) (cause : EndCause) (rebound : Bool) :
    s.Abandons (s.resetParts l cause rebound) := by
  have hstopped : s.Abandons ((s.stopFetch l true).showStop l cause) := by
    rw [showStop_eq]
    exact h.same rfl rfl rfl
  have hqueue := hstopped.trans (hstopped.kept.same (u := ((s.stopFetch l true).showStop l cause).modPl l fun p =>
    { p with queue := p.queue.filter fun i => !(fun _ => true) i }) rfl rfl rfl)
  have hremoved := hqueue.trans (hqueue.kept.dropItems
    ((((s.stopFetch l true).showStop l cause).lane l).pl.queue.filter fun _ => true))
  exact hremoved.trans (hremoved.kept.same rfl rfl rfl)

theorem Abandoned.holdBound (h : s.Abandoned) (l : LaneId) : s.Abandons (s.holdBound l) := by
  unfold State.holdBound
  cases (s.lane l).pl.screen with
  | none => exact h.refl
  | some c =>
    dsimp only
    unfold State.enterHold
    dsimp only
    split
    · exact h.same rfl rfl rfl
    · exact h.sent (more := [.screen c .clear]) rfl rfl rfl (by simp)

theorem Abandoned.resetLane (h : s.Abandoned) (l : LaneId) (cause : EndCause) : s.Abandons (s.resetLane l cause) := by
  have hparts := h.resetParts l cause false
  have hheld := hparts.trans (hparts.kept.holdBound l)
  have hbegun : s.Abandons (s.beginReset l cause false) := by
    rw [beginReset_eq]
    exact hheld.trans (hheld.kept.same rfl rfl rfl)
  refine hbegun.trans ?_
  unfold State.resetLane
  rcases completeReset_cases (s.beginReset l cause false) l with hreset | ⟨-, -, hreset⟩
  · rw [hreset]
    exact hbegun.kept.refl
  · rw [hreset]
    have hidle := hbegun.kept.same (u := (s.beginReset l cause false).modPl l fun p => { p with state := .idle }) rfl rfl rfl
    exact hidle.trans (hidle.kept.raise _)

theorem Abandoned.resetLanes (h : s.Abandoned) : s.Abandons s.resetLanes := by
  have hfold : ∀ (ls : List LaneId) (u : State), u.Abandoned →
      u.Abandons (ls.foldl (fun s l => s.resetLane l .softReset) u) := by
    intro ls
    induction ls with
    | nil => exact fun u hu => hu.refl
    | cons l rest ih => exact fun u hu => (hu.resetLane l .softReset).trans (ih _ (hu.resetLane l .softReset).kept)
  exact hfold fours s h

end State

end Sys2Proof.Machine
end

section
/-! PROOF. O15: what a soft reset clears, closes, sends and keeps (R23, R48, R50, R64, R73, R75, R104, R108, R128, R178, R188,
R199). -/

namespace Sys2Proof.Machine

open Sys2Proof

namespace State

variable {s u v : State} {l : LaneId}

/-! ### One lane of a soft reset -/

theorem resetLane_beside (s : State) (l : LaneId) (cause : EndCause) : s.Beside l (s.resetLane l cause) :=
  (Beside.beginReset s l cause false).trans (Silent.completeReset _ l).toBeside

theorem resetLane_flight (s : State) (l : LaneId) (cause : EndCause) : (s.resetLane l cause).stc.flight = s.stc.flight := by
  have hcomplete : (s.resetLane l cause).stc = (s.beginReset l cause false).stc := by
    unfold State.resetLane
    rcases completeReset_cases (s.beginReset l cause false) l with h | ⟨-, -, h⟩ <;> rw [h]
    rfl
  rw [hcomplete, beginReset_flight]

theorem resetLane_shc (s : State) (l : LaneId) : (s.resetLane l .softReset).shc = { s.shc with
    log := s.shc.log.map fun x => if s.shc.namedBy l x then x.cutOff s.clock.booth .softReset else x
    reservations := s.shc.reservations.set l [] } :=
  (completeReset_shc _ l).trans (beginReset_shc s l (cause := .softReset) nofun false)

theorem resetLane_held (s : State) (l : LaneId) (cause : EndCause) :
    (s.resetLane l cause).held = heldWith s.held (s.lane l).pl.screen :=
  (completeReset_held _ l).trans (beginReset_held s l cause false)

theorem resetLane_sends (s : State) (l : LaneId) (cause : EndCause) :
    s.Sends (s.resetLane l cause) (s.onOwn l [.clear]) :=
  (Sends.beginReset s l cause false).then_none (Silent.completeReset _ l).sends

/-- A lane with nothing queued, nothing buffered, and its fetcher stopped. -/
def Emptied (s : State) (l : LaneId) : Prop := (s.lane l).pl.queue = [] ∧ (s.lane l).pl.buffer = []
  ∧ (s.lane l).pl.fetch.state = .stopped ∧ (s.lane l).pl.fetch.work = .nothing

theorem resetLane_emptied (s : State) (l : LaneId) (cause : EndCause) : (s.resetLane l cause).Emptied l := by
  have hresetting : ((s.beginReset l cause false).lane l).pl.state = .resetting := by
    rw [beginReset_lane_own]
    rfl
  have hown : (s.resetLane l cause).lane l = _ := completeReset_own hresetting
  rw [beginReset_lane_own] at hown
  unfold State.Emptied
  rw [hown]
  exact ⟨rfl, rfl, rfl, rfl⟩

theorem resetLane_screen (s : State) (l k : LaneId) (cause : EndCause) :
    ((s.resetLane l cause).lane k).pl.screen = (s.lane k).pl.screen := by
  have hbegun := (s.beginReset_lane l k cause false).1
  rcases completeReset_cases (s.beginReset l cause false) l with h | ⟨-, -, h⟩
  · unfold State.resetLane
    rw [h, hbegun]
  · have hidle : (((s.beginReset l cause false).modPl l fun p => { p with state := .idle }).lane k).pl.screen
        = ((s.beginReset l cause false).lane k).pl.screen := by
      rw [lane_modPl]
      split
      · rename_i hk
        rw [hk]
      · rfl
    unfold State.resetLane
    rw [h]
    exact hidle.trans hbegun

/-! ### Every lane -/

/-- The reset of some lanes, one after another. -/
def resetSome (s : State) (lanes : List LaneId) : State := lanes.foldl (fun s l => s.resetLane l .softReset) s

theorem resetSome_cons (s : State) (l : LaneId) (rest : List LaneId) :
    s.resetSome (l :: rest) = (s.resetLane l .softReset).resetSome rest := rfl

theorem resetLanes_eq (s : State) : s.resetLanes = s.resetSome fours := rfl

/-- What no lane's reset changes. -/
structure SameRest (s u : State) : Prop where
  clock : u.clock = s.clock
  bcp : u.bcp = s.bcp
  licences : u.shc.licences = s.shc.licences
  nextSeq : u.shc.nextSeq = s.shc.nextSeq
  mode : u.shc.mode = s.shc.mode
  faults : u.stc.faults = s.stc.faults
  flight : u.stc.flight = s.stc.flight
  setting : u.pka.setting = s.pka.setting
  discards : u.pka.discards = s.pka.discards
  enabled : u.ntu.enabled = s.ntu.enabled
  number : u.ntu.number = s.ntu.number

theorem SameRest.trans (h : s.SameRest u) (k : u.SameRest v) : s.SameRest v :=
  ⟨k.clock.trans h.clock, k.bcp.trans h.bcp, k.licences.trans h.licences, k.nextSeq.trans h.nextSeq, k.mode.trans h.mode,
    k.faults.trans h.faults, k.flight.trans h.flight, k.setting.trans h.setting, k.discards.trans h.discards,
    k.enabled.trans h.enabled, k.number.trans h.number⟩

theorem resetLane_sameRest (s : State) (l : LaneId) : s.SameRest (s.resetLane l .softReset) :=
  let h := s.resetLane_beside l .softReset
  ⟨h.clock, h.bcp, h.licences, h.nextSeq, h.mode, h.faults, s.resetLane_flight l _, h.setting, h.discards, h.enabled, h.number⟩

theorem resetSome_sameRest (lanes : List LaneId) (s : State) : s.SameRest (s.resetSome lanes) := by
  induction lanes generalizing s with
  | nil => exact ⟨rfl, rfl, rfl, rfl, rfl, rfl, rfl, rfl, rfl, rfl, rfl⟩
  | cons l rest ih => exact (s.resetLane_sameRest l).trans (ih _)

/-- What a lane's own reset brings about and no other lane's reset undoes holds of every lane. -/
theorem resetLanes_each {P : LaneId → State → Prop} (hown : ∀ l (u : State), P l (u.resetLane l .softReset))
    (hother : ∀ l k (u : State), l ≠ k → P l u → P l (u.resetLane k .softReset)) (s : State) (l : LaneId) : P l s.resetLanes := by
  have hfold : ∀ (lanes : List LaneId) (u : State), l ∈ lanes ∨ P l u → P l (u.resetSome lanes) := by
    intro lanes
    induction lanes with
    | nil => exact fun u h => h.resolve_left List.not_mem_nil
    | cons k rest ih =>
      intro u h
      refine ih _ ?_
      by_cases hk : l = k
      · exact .inr (hk ▸ hown l u)
      · exact h.imp (fun h => (List.mem_cons.mp h).resolve_left hk) (hother l k u hk)
  exact hfold fours s (.inl (mem_fours l))

theorem resetLanes_emptied (s : State) (l : LaneId) : s.resetLanes.Emptied l := by
  refine resetLanes_each (P := fun l u => u.Emptied l) (fun l u => u.resetLane_emptied l _) (fun l k u hk h => ?_) s l
  have hsame := (u.resetLane_beside k .softReset).others l hk
  unfold State.Emptied
  rw [hsame]
  exact h

theorem resetLanes_reservations (s : State) (l : LaneId) : s.resetLanes.shc.reservations.get l = [] := by
  refine resetLanes_each (P := fun l u => u.shc.reservations.get l = []) (fun l u => ?_) (fun l k u hk h => ?_) s l
  · rw [resetLane_shc]
    exact Quad.get_set_same _ _ _
  · exact ((u.resetLane_beside k .softReset).reservations l hk).trans h

/-! ### The log (R64, R73) -/

/-- A record that the reservations of one lane less can name. -/
theorem namedBy_dropped {h g : Showings} (hres : g.reservations = h.reservations.set l []) (k : LaneId)
    (x : ShowRecord) : g.namedBy k x = (k != l && h.namedBy k x) := by
  unfold Showings.namedBy
  rw [hres]
  by_cases hk : k = l
  · rw [hk, Quad.get_set_same, bne_self_eq_false]
    rfl
  · rw [Quad.get_set_ne _ _ hk, bne_iff_ne.mpr hk, Bool.true_and]

theorem resetSome_log (lanes : List LaneId) (s : State) : (s.resetSome lanes).shc.log = s.shc.log.map fun x =>
    if lanes.any fun l => s.shc.namedBy l x then x.cutOff s.clock.booth .softReset else x := by
  induction lanes generalizing s with
  | nil => exact (List.map_id' _).symm
  | cons l rest ih =>
    have hshc := s.resetLane_shc l
    have hnamed := fun k x => namedBy_dropped (l := l) (h := s.shc) (g := (s.resetLane l .softReset).shc) (by rw [hshc]) k x
    rw [resetSome_cons, ih, (s.resetLane_sameRest l).clock]
    simp only [hnamed]
    rw [hshc, List.map_map]
    refine List.map_congr_left fun x _ => ?_
    have hseq : ∀ k, s.shc.namedBy k (x.cutOff s.clock.booth .softReset) = s.shc.namedBy k x := fun _ => rfl
    rw [Function.comp_apply, List.any_cons]
    by_cases hx : s.shc.namedBy l x = true
    · rw [if_pos hx, hx, Bool.true_or, if_pos rfl]
      exact ite_eq_right_iff.mpr fun _ => rfl
    · have hrest : (rest.any fun k => k != l && s.shc.namedBy k x) = rest.any fun k => s.shc.namedBy k x := by
        refine congrArg (rest.any ·) (funext fun k => ?_)
        by_cases hk : k = l
        · rw [hk, bne_self_eq_false, Bool.false_and, Bool.eq_false_of_not_eq_true hx]
        · rw [bne_iff_ne.mpr hk, Bool.true_and]
      rw [if_neg hx, Bool.eq_false_of_not_eq_true hx, Bool.false_or, hrest]

/-! ### The screens (R75, R104) -/

theorem screenHeld_reset (s : State) (l : LaneId) (c : ScreenId) : (s.resetLane l .softReset).screenHeld c
    = (s.screenHeld c || (s.lane l).pl.screen == some c) := by
  unfold State.screenHeld
  simp only [resetLane_screen]
  rw [resetLane_held]
  cases hscreen : (s.lane l).pl.screen with
  | none => exact (Bool.or_false _).symm
  | some d =>
    by_cases hd : c = d
    · have hset : (heldWith s.held (some d)).get c = true := heldWith_self (by rw [hd])
      rw [hset, hd, beq_self_eq_true, Bool.true_or, Bool.or_true]
    · have hset : (heldWith s.held (some d)).get c = s.held.get c := Quad.get_set_ne _ _ hd
      have hne : (some d == some c) = false := beq_false_of_ne fun h => hd (Option.some.inj h).symm
      rw [hset, hne, Bool.or_false]

/-- Each bound screen that enters HOLD is sent one CLEAR. -/
theorem resetSome_sends (lanes : List LaneId) (s : State) : s.Sends (s.resetSome lanes) fun c =>
    if (∃ l ∈ lanes, (s.lane l).pl.screen = some c) ∧ s.screenHeld c = false then [.clear] else [] := by
  induction lanes generalizing s with
  | nil =>
    refine Eq.mp (congrArg (s.Sends (s.resetSome [])) (funext fun c => ?_)) (.of_out rfl)
    exact (if_neg fun h => by
      obtain ⟨⟨l, hl, -⟩, -⟩ := h
      exact List.not_mem_nil hl).symm
  | cons l rest ih =>
    have hboth := (s.resetLane_sends l .softReset).trans (ih (s.resetLane l .softReset))
    rw [← resetSome_cons] at hboth
    refine Eq.mp (congrArg (s.Sends (s.resetSome (l :: rest))) (funext fun c => ?_)) hboth
    simp only [resetLane_screen, screenHeld_reset]
    unfold State.onOwn
    by_cases hheld : s.screenHeld c = true
    · rw [if_neg fun h => Bool.false_ne_true (h.2.symm.trans hheld), if_neg fun h => ?_,
        if_neg fun h => Bool.false_ne_true (h.2.symm.trans hheld)]
      · rfl
      · rw [hheld, Bool.true_or] at h
        exact Bool.false_ne_true h.2.symm
    · rw [Bool.eq_false_of_not_eq_true hheld, Bool.false_or]
      by_cases hl : (s.lane l).pl.screen = some c
      · rw [if_pos ⟨hl, rfl⟩, if_neg fun h => ?_, if_pos ⟨⟨l, List.mem_cons_self, hl⟩, rfl⟩]
        · rfl
        · rw [hl, beq_self_eq_true] at h
          exact Bool.false_ne_true h.2.symm
      · have hother : (∃ k ∈ l :: rest, (s.lane k).pl.screen = some c) ↔ ∃ k ∈ rest, (s.lane k).pl.screen = some c := by
          simp [hl]
        have hne : ((s.lane l).pl.screen == some c) = false := beq_false_of_ne hl
        rw [if_neg fun h => hl h.1, hne]
        simp only [hother, List.nil_append]

/-! ### The settling behind a soft reset -/

theorem fetchers_rests (h : ∀ l, s.Still l) : s.fetchers = s := by
  have hone : ∀ l, (s.fetchAll l 128).testCued l = s := fun l => by
    obtain ⟨hstopped, -, hcueing⟩ := h l
    have hfetch : s.fetchAll l 128 = s := by
      rw [fetchAll_succ, fetchOnce_rests (.inl hstopped)]
      rfl
    rw [hfetch]
    exact if_neg fun hboth => hcueing hboth.1
  have hfold : ∀ lanes : List LaneId, lanes.foldl (fun s l => (s.fetchAll l 128).testCued l) s = s := by
    intro lanes
    induction lanes with
    | nil => rfl
    | cons l rest ih => rw [List.foldl_cons, hone, ih]
  exact hfold fours

/-- While the load runs and every fetcher is stopped an event's settling does nothing. -/
theorem settle_rests (hload : s.stc.load ≠ .idle) (hstill : ∀ l, s.Still l) (hguard : s.stc.guard = 0) : s.settle = s := by
  have hfetch := fetchers_rests hstill
  have hdecisions : s.decisions 9 = s := by
    obtain ⟨-, hstop⟩ | ⟨g, hidle, -⟩ := s.decisions_succ 8
    · rw [hstop, hfetch]
    · rw [hfetch] at hidle
      exact absurd hidle hload
  have hrest : ∀ b, s.stc.restGuard b = s.stc := fun b => by
    cases b with
    | true => rfl
    | false =>
      have hzero : s.stc.restGuard false = { s.stc with guard := 0 } := rfl
      rw [hzero, ← hguard]
  unfold State.settle
  rw [hdecisions]
  exact congrArg (fun c => { s with stc := c }) (hrest _)

/-! ### The soft reset (R199) -/

/-- The state before the lanes' resets: the notices and the ingest work gone. -/
def forsaken (s : State) : State := ({ s with ntu := .reset } : State).abandonIngest

theorem softReset_parts (s : State) : s.softReset = (s.forsaken.resetSome fours).cleared := by
  unfold State.forsaken
  rw [softReset_eq, ← resetLanes_eq]

theorem forsaken_abandoned (s : State) : s.forsaken.Abandoned := by
  refine ⟨rfl, rfl, rfl, fun x hx => ?_, rfl, rfl⟩
  obtain ⟨y, -, rfl⟩ := List.mem_map.mp hx
  cases y with
  | free => exact .inl rfl
  | reserved c => exact .inl rfl
  | held c p => exact .inl rfl
  | writing c p o => exact .inr ⟨c, p, o, rfl⟩

theorem softReset_still (s : State) (l : LaneId) : s.softReset.Still l := by
  obtain ⟨-, -, hstopped, hwork⟩ := s.forsaken.resetLanes_emptied l
  have hquiet := s.forsaken.resetLanes_quiet l
  have hown := cleared_lane s.forsaken.resetLanes l
  rw [softReset_eq]
  unfold State.Still
  refine ⟨?_, ?_, fun hcueing => ?_⟩
  · exact (congrArg (fun n : Lane => n.pl.fetch.state) hown).trans hstopped
  · exact (congrArg (fun n : Lane => n.pl.fetch.work) hown).trans hwork
  · have hstate : (s.forsaken.resetLanes.lane l).pl.state = .cueing :=
      (congrArg (fun n : Lane => n.pl.state) hown).symm.trans hcueing
    rw [hstate] at hquiet
    exact absurd hquiet (by decide)

theorem softReset_settled (s : State) : s.softReset.settle = s.softReset := settle_rests nofun s.softReset_still rfl

/-- The lane behind a soft reset (R108, R128, R163). -/
theorem softReset_lane (s : State) (l : LaneId) : (s.softReset.lane l).pl.screen = some l
    ∧ (s.softReset.lane l).pl.set = Settings.defaults ∧ (s.softReset.lane l).pl.queue = []
    ∧ (s.softReset.lane l).pl.buffer = [] ∧ (s.softReset.lane l).ftm = Monitor.reset
    ∧ (s.softReset.lane l).sce = CueEngine.reset ∧ (s.softReset.lane l).sne.state = .off
    ∧ (s.softReset.lane l).sne.map = Channel.defaults
    ∧ ((s.softReset.lane l).pl.state = .idle ∨ (s.softReset.lane l).pl.state = .resetting) := by
  obtain ⟨hqueue, hbuffer, -, -⟩ := s.forsaken.resetLanes_emptied l
  have hown : s.softReset.lane l = (s.forsaken.resetLanes.lane l).afterSoftReset l := cleared_lane _ l
  rw [hown]
  exact ⟨rfl, rfl, hqueue, hbuffer, rfl, rfl, rfl, rfl,
    (LaneState.stoppable_eq_false _).mp (s.forsaken.resetLanes_quiet l)⟩

end State

/-! ### The row (R199) -/

theorem ControlPort.doneLeaving_iff (b : ControlPort) :
    b.doneLeaving = true ↔ ∃ tag, b.line = some (.reply tag (.done .softReset)) := by
  have hdue := State.lineFreed_resetDue (State.reset.withPort { b with resetDue := false })
  have hfreed : (State.reset.withPort { b with resetDue := false }).lineFreed.bcp.resetDue = (false || b.doneLeaving) := rfl
  rw [hfreed, Bool.false_or] at hdue
  rw [hdue]
  exact or_iff_right nofun

/-- The control port with the DONE of SOFT_RESET off its line. -/
def ControlPort.doneLeft (b : ControlPort) : ControlPort := if b.doneLeaving then { b with line := none } else b

theorem exec_softResetProceed {s : State} {t : Instant} (hpin : s.pin = false)
    (hdue : s.bcp.resetDue = true ∨ s.bcp.doneLeaving = true) :
    exec (.softResetProceed t) s = .next ((s.takeAt t).withPort s.bcp.doneLeft).softReset := by
  have hexec : exec (.softResetProceed t) s = execSoftResetProceed t s := rfl
  have hleft : (if s.bcp.doneLeaving then s.modBcp (fun b => { b with line := none }) else s)
      = s.withPort s.bcp.doneLeft := by
    unfold ControlPort.doneLeft
    split <;> rfl
  rw [hexec]
  unfold execSoftResetProceed
  rw [live_eq _ hpin, if_pos (Bool.or_eq_true_iff.mpr hdue), hleft]
  dsimp only
  rw [State.takeAt_withPort, State.softReset_settled]

/-- Settles O15: the ingest work goes first, then lane after lane, and behind the last of them nothing moves. -/
theorem softResetProceeds : Obligations.SoftResetProceeds := by
  intro s v t hpin hdue hv
  rw [← ControlPort.doneLeaving_iff] at hdue
  refine ⟨_, exec_softResetProceed hpin hdue, ?_⟩
  have hshc : v.shc = s.shc := by rw [hv, State.takeAt_shc]
  have hstc : v.stc = s.stc := by rw [hv, State.takeAt_stc]
  have hsetting : v.pka.setting = s.pka.setting := by rw [hv, State.takeAt_setting]
  rw [← hv]
  have hrest := State.resetSome_sameRest fours (v.withPort s.bcp.doneLeft).forsaken
  have hgone := (v.withPort s.bcp.doneLeft).forsaken_abandoned
  have habandons := hgone.resetLanes
  have hlog := State.resetSome_log fours (v.withPort s.bcp.doneLeft).forsaken
  have hsends := State.resetSome_sends fours (v.withPort s.bcp.doneLeft).forsaken
  have hreservations := (v.withPort s.bcp.doneLeft).forsaken.resetLanes_reservations
  have hlanes := (v.withPort s.bcp.doneLeft).softReset_lane
  rw [State.softReset_parts] at hlanes ⊢
  rw [State.resetLanes_eq] at habandons hreservations
  generalize ((v.withPort s.bcp.doneLeft).forsaken).resetSome fours = w at hrest habandons hlog hsends hreservations hlanes ⊢
  have hbcp : w.bcp = s.bcp.doneLeft := hrest.bcp
  have hclock : w.clock = v.clock := hrest.clock
  obtain ⟨more, hmore, hnone⟩ := habandons.sent
  refine ⟨rfl, fun hline => ?_, fun hline => ?_, rfl, rfl, rfl, rfl, rfl, ?_, ?_, habandons.kept.tickets,
    habandons.kept.outstanding, hrest.setting.trans hsetting, hrest.discards, habandons.kept.order,
    fun j c p o hj => ?_, habandons.kept.staging, rfl, rfl, ?_, ?_, ?_, ?_, ?_, ⟨.linkReset :: more, ?_, ?_⟩, ?_,
    congrArg Clock.booth hclock, ?_, ?_, hrest.enabled, habandons.kept.master, habandons.kept.quiet, hrest.number, hlanes⟩
  · have hleft : w.bcp.line = none := by
      rw [hbcp, ControlPort.doneLeft, if_pos ((ControlPort.doneLeaving_iff _).mpr hline)]
    exact hleft
  · have hleft : w.bcp.line = s.bcp.line := by
      rw [hbcp, ControlPort.doneLeft, if_neg fun h => ?_]
      obtain ⟨tag, htag⟩ := (ControlPort.doneLeaving_iff _).mp h
      exact hline tag htag
    exact hleft
  · exact hrest.flight.trans (congrArg Storage.flight hstc)
  · exact hrest.faults.trans (congrArg Storage.faults hstc)
  · refine habandons.writing j c p o ?_
    have hmap : (v.pka.staging.map Staging.abandoned)[j]? = some (.writing c p o) := by
      rw [List.getElem?_map, hj]
      rfl
    exact hmap
  · exact hrest.licences.trans (congrArg Showings.licences hshc)
  · exact hrest.nextSeq.trans (congrArg Showings.nextSeq hshc)
  · exact hrest.mode.trans (congrArg Showings.mode hshc)
  · exact Quad.ext_get _ _ fun k => (hreservations k).trans (by revert k; decide)
  · exact hlog
  · rw [← List.singleton_append, ← List.append_assoc]
    exact hmore
  · rw [List.count_cons_self, List.count_eq_zero.mpr hnone]
  · have hsent : v.Sends (v.withPort s.bcp.doneLeft).forsaken fun _ => [] := ⟨[.linkReset], rfl, fun _ => rfl⟩
    refine Eq.mp (congrArg (v.Sends w.cleared) (funext fun c => ?_))
      ((State.Sends.none_then hsent hsends).then_none (.of_out rfl))
    have hbound : (∃ l ∈ fours, (((v.withPort s.bcp.doneLeft).forsaken).lane l).pl.screen = some c)
        ↔ ∃ l, (v.lane l).pl.screen = some c :=
      ⟨fun ⟨l, _, hl⟩ => ⟨l, hl⟩, fun ⟨l, hl⟩ => ⟨l, mem_fours l, hl⟩⟩
    have hheld : ((v.withPort s.bcp.doneLeft).forsaken).screenHeld c = v.screenHeld c := rfl
    rw [hheld]
    simp only [hbound]
  · have hkept : w.bcp.linkErrors = s.bcp.linkErrors := by
      rw [hbcp, ControlPort.doneLeft]
      split <;> rfl
    exact hkept
  · have hkept : w.bcp.overruns = s.bcp.overruns := by
      rw [hbcp, ControlPort.doneLeft]
      split <;> rfl
    exact hkept

end Sys2Proof.Machine
end
